-- ==== Sys2Proof/Word.lean ====
section
/-! DEFINITION. The words of the part: the characters of the link (R152) and the two kinds of 32-bit count that wrap (time base and site time, 00_scope.md; R187). -/

namespace Sys2Proof

/-- The value of one character on the link, 0..255 (R152). The marker bit is not part of it. -/
abbrev Byte := BitVec 8

/-- A value of the 1 ms time base, which wraps after 4294967295 (00_scope.md, Numbers and units). -/
abbrev Time := BitVec 32

/-- A count of seconds or of record changes in 0..4294967295 that wraps (R187, R147). -/
abbrev Word32 := BitVec 32

end Sys2Proof
end

