-- ==== Sys2Proof/Syntax.lean ====
section
/-! DEFINITION. The commands: one constructor for each row of spec/opcode_table.json. -/

namespace Sys2Proof

/-- The two link ports (08_the_facility_link.md): the S-port faces the supervisory controller, the P-port the plant. -/
inductive Port where
  | s
  | p
  deriving DecidableEq, Repr

/-- The part's steps, as spec/opcode_table.json lists them. Frame rows carry the frame's destination, source, tag and
payload characters (R153), and the two OTHER rows the kind as well; request rows carry the source address and the tag
of the MGMT_REQUEST frame and the request's arguments, each as the characters of R182; timer rows name the channel,
input, warning slot or step whose timer runs out. -/
inductive Instr where
  /-- POWER_ON_RESET (R136, R187, R188): the strap pins' ADDR and RATE as they are read. -/
  | powerOnReset (addr rate : Fin 4)
  /-- RESET_PIN_ASSERT (R188). -/
  | resetPinAssert
  /-- RESET_PIN_RELEASE (R136): the strap pins as they are read. -/
  | resetPinRelease (addr rate : Fin 4)
  /-- START_UP_LOAD_COMPLETE (R66, R136). -/
  | startUpLoadComplete
  /-- COMMANDED_RESET (R189): the strap pins as they are read. -/
  | commandedReset (addr rate : Fin 4)
  /-- S_PORT_RESET_EFFECT (R164). -/
  | sPortResetEffect
  /-- P_PORT_RESET_EFFECT (R163). -/
  | pPortResetEffect
  /-- RECEIVE_CHARACTER (R155): its value, its marker bit, and whether its stop bit was low. -/
  | receiveCharacter (port : Port) (value : Byte) (marker framing : Bool)
  /-- RECEIVE_GAP_EXPIRY (R156). -/
  | receiveGapExpiry (port : Port)
  /-- P_SAMPLE_FRAME (R5). -/
  | pSampleFrame (dst src tag : Byte) (payload : List Byte)
  /-- P_WARNING_FRAME (R57). -/
  | pWarningFrame (dst src tag : Byte) (payload : List Byte)
  /-- P_REPLY_FRAME (R118). -/
  | pReplyFrame (dst src tag : Byte) (payload : List Byte)
  /-- P_STATUS_FRAME (R123). -/
  | pStatusFrame (dst src tag : Byte) (payload : List Byte)
  /-- P_OTHER_FRAME (R169). -/
  | pOtherFrame (dst src kind tag : Byte) (payload : List Byte)
  /-- S_COMMAND_FRAME (R171). -/
  | sCommandFrame (dst src tag : Byte) (payload : List Byte)
  /-- S_OTHER_FRAME (R170). -/
  | sOtherFrame (dst src kind tag : Byte) (payload : List Byte)
  /-- UNKNOWN_REQUEST (R183): a MGMT_REQUEST to the part with this payload. -/
  | unknownRequest (src tag : Byte) (payload : List Byte)
  /-- READ_STATUS (R185). -/
  | readStatus (src tag : Byte)
  /-- READ_CHANNEL (R25). -/
  | readChannel (src tag channel : Byte)
  /-- READ_ZONE (R44). -/
  | readZone (src tag zone : Byte)
  /-- READ_NODE (R181). -/
  | readNode (src tag address : Byte)
  /-- READ_STEP (R112). -/
  | readStep (src tag step : Byte)
  /-- READ_OUTSTANDING (R132). -/
  | readOutstanding (src tag : Byte)
  /-- READ_WARNINGS (R61). -/
  | readWarnings (src tag : Byte)
  /-- READ_TRIP_RECORD (R150). -/
  | readTripRecord (src tag slot : Byte)
  /-- READ_COUNTERS (R186). -/
  | readCounters (src tag group : Byte)
  /-- READ_SHADOW (R138). -/
  | readShadow (src tag block kind first count : Byte)
  /-- WRITE_SHADOW (R137): `records` is the characters after the count. -/
  | writeShadow (src tag block kind first count : Byte) (records : List Byte)
  /-- COMMIT (R140). -/
  | commit (src tag mask : Byte)
  /-- SET_PROTECTION (R143). -/
  | setProtection (src tag mask : Byte)
  /-- RELOAD_PROTECTION (R143). -/
  | reloadProtection (src tag : Byte)
  /-- AUTHORIZE_RESTART (R76, R77). -/
  | authorizeRestart (src tag : Byte)
  /-- ABORT_RESTART (R82). -/
  | abortRestart (src tag : Byte)
  /-- FORCE_TRIP (R48). -/
  | forceTrip (src tag level : Byte)
  /-- CLEAR_TRIGGERS (R49). -/
  | clearTriggers (src tag : Byte)
  /-- ISOLATE_ZONE (R41). -/
  | isolateZone (src tag zone : Byte)
  /-- RESTORE_ZONE (R42). -/
  | restoreZone (src tag zone : Byte)
  /-- SET_TIME (R187). -/
  | setTime (src tag : Byte) (seconds : Word32)
  /-- CLEAR_COUNTERS (R186). -/
  | clearCounters (src tag : Byte)
  /-- CLEAR_CAUSE (R188). -/
  | clearCause (src tag : Byte)
  /-- RESET_PORT_S (R164): RESET_PORT naming the S-port. -/
  | resetPortS (src tag : Byte)
  /-- RESET_PORT_P (R163): RESET_PORT naming the P-port. -/
  | resetPortP (src tag : Byte)
  /-- RESET_PART (R189). -/
  | resetPart (src tag : Byte)
  /-- P_TRANSMISSION_END (R161, R117). -/
  | pTransmissionEnd
  /-- S_TRANSMISSION_END (R161). -/
  | sTransmissionEnd
  /-- P_ARBITER_CHOICE (R178). -/
  | pArbiterChoice
  /-- S_ARBITER_CHOICE (R179). -/
  | sArbiterChoice
  /-- HELD_RESPONSE_JOIN (R184). -/
  | heldResponseJoin
  /-- STALE_TIMER_EXPIRY (R12). -/
  | staleTimerExpiry (channel : Fin 32)
  /-- ONSET_UNTIL_EXPIRY (R34), of the member that is this channel. -/
  | onsetUntilExpiry (channel : Fin 32)
  /-- STRONG_UNTIL_EXPIRY (R34), of the member that is this channel. -/
  | strongUntilExpiry (channel : Fin 32)
  /-- TRIP_IN_DEBOUNCED_CHANGE (R53, R54), of TRIP_IN0..3. -/
  | tripInDebouncedChange (input : Fin 4)
  /-- UTILITY_OK_DEBOUNCED_CHANGE (R53, R55). -/
  | utilityOkDebouncedChange
  /-- FEED_DWELL_EXPIRY (R55). -/
  | feedDwellExpiry
  /-- WARNING_EXPIRY (R60), of this slot. -/
  | warningExpiry (slot : Fin 4)
  /-- QUIET_TIMER_EXPIRY (R62). -/
  | quietTimerExpiry
  /-- DWELL_EXPIRY (R99, R100), of this step. -/
  | dwellExpiry (step : Fin 64)
  /-- REPLY_DEADLINE_EXPIRY (R121), of this step's entry. -/
  | replyDeadlineExpiry (step : Fin 64)
  /-- READY_TIMEOUT_EXPIRY (R125), of this step. -/
  | readyTimeoutExpiry (step : Fin 64)
  /-- SETTLE_EXPIRY (R126), of this step. -/
  | settleExpiry (step : Fin 64)
  /-- NV_WRITE_TAKE_UP (R144). -/
  | nvWriteTakeUp
  /-- RECORD_WRITE_END (R144). -/
  | recordWriteEnd
  /-- BLOCK_PROGRAM_END (R141): whether the read-back passes its CRC. -/
  | blockProgramEnd (passes : Bool)
  /-- DEFERRED_ACTIVATION (R84, R142). -/
  | deferredActivation
  /-- PROTECTION_WRITE_END (R143). -/
  | protectionWriteEnd
  /-- SITE_TIME_SECOND (R187). -/
  | siteTimeSecond
  /-- RAW_INPUT_LEVEL_CHANGE (R53): inputs 0..3 are TRIP_IN0..3, input 4 is UTILITY_OK; `high` is the pin's new level. -/
  | rawInputLevelChange (input : Fin 5) (high : Bool)
  /-- LOSS_OF_POWER (R146). -/
  | lossOfPower
  deriving DecidableEq, Repr

end Sys2Proof
end

