-- ==== Sys2Proof/Decode.lean ====
section
/-! DEFINITION. Words to commands. spec/opcode_table.json gives bits for none of its rows (the commands are events, not encodings), so no word spells a command. The characters of frames and management requests are read by Sys2Proof/Machine/Operands.lean and Sys2Proof/Machine/Link.lean. -/

namespace Sys2Proof

/-- The command that a word of `nbits` bits spells by the table's bits: none, since no row has bits. -/
def decodeTableWord (_nbits _w : Nat) : Option Instr := none

end Sys2Proof
end

