-- ==== Sys2Proof/Config.lean ====
section
/-! DEFINITION. The free values: what the manual leaves open inside one event. Each is a constant without a body, applied to a counter of State. -/

namespace Sys2Proof

/-- DESIGN CHOICE (safe, log 4). Which of two hand-overs of one event is taken first, where the rules say
"in either order": the two vote reports of one zone evaluation (R46), and a rise of ESCALATION with a
completion report (R96, R107, R108). Nothing is known of it. -/
opaque Config.firstIsTakenFirst : Nat → Bool

/-- DESIGN CHOICE (safe, log 5). Whether the read-back of a programmed block passes its check (R141), where the
part itself, and no command, ends the programming. Nothing is known of it. -/
opaque Config.readBackPasses : Nat → Bool

/-- DESIGN CHOICE (safe, log 41). Which of two QUEUED steps takes a free slot where the rules disagree: the one of lowest
id (R96; R103, first paragraph), or the one QUEUED in an earlier event (R103, second paragraph). Nothing is known of it. -/
opaque Config.lowestIdTakesSlot : Nat → Bool

/-- DESIGN CHOICE (safe, log 48). Of live warning records of the lowest class with one arrival time, whether the one in this
slot is replaced rather than the one found in the slots below it (R59 names none). Nothing is known of it. -/
opaque Config.tiedSlotIsReplaced : Nat → Fin 4 → Bool

/-- DESIGN CHOICE (safe, log 18). The third of READ_STATUS's "three masks and a levels mask" of the trigger sources, beside
flags and enables, where the words are taken to mean four masks: R185 names no item for it. Applied to the rest of the
response's data; none where the words mean three masks in all. Nothing is known of it. -/
opaque Config.furtherSourceMask : List Byte → Option Word32

end Sys2Proof
end

