-- ==== Sys2Proof/Machine/State.lean ====
section
/-! DEFINITION. The state of the part as plain data, block by block (00_scope.md, Ownership of shared state), and its value right after a power-on reset. INVENTORY.md, State, lists each item with its rule and reset value. -/

namespace Sys2Proof.Machine

/-- Raised by nothing: the spec describes no fault that stops the part (INVENTORY.md, Faults), so this type is empty. -/
inductive Fault
  deriving DecidableEq, Repr

/-- What a command could be refused with. Every command of the table has a meaning, so nothing raises it. -/
inductive Refusal where
  /-- Raised by a command without a meaning (safe); exec has no such arm. -/
  | notModelled (mnemonic : String)
  deriving DecidableEq, Repr

/-! ### Configuration records (R87, R89, R1, R30, R165, R128, R45, R171, R135) -/

/-- A step's action (R89), in the order of the manual's list. -/
inductive Action where
  | mark | shed | park | cut | energize | resume | transfer
  deriving DecidableEq, Repr

/-- A step's failure policy (R89). -/
inductive Policy where
  | proceed | prune | halt | escalate
  deriving DecidableEq, Repr

/-- A node's kind (R165). -/
inductive NodeKind where
  | sensor | breaker | pdu | ups | generator | cooling | gateway | other
  deriving DecidableEq, Repr

/-- A zone's degrade mode (R30). -/
inductive Degrade where
  | lower | hold
  deriving DecidableEq, Repr

/-- A contact's active polarity (R45). -/
inductive Polarity where
  | high | low
  deriving DecidableEq, Repr

/-- A filter setting (R171). -/
inductive Setting where
  | pass | refuse
  deriving DecidableEq, Repr

/-- A STEP record (R89); the default is the table of R134. -/
structure StepCfg where
  action : Action := .mark
  target : Option Nat := none
  prereqs : List (Fin 64) := []
  dwell : Nat := 0
  deadline : Nat := 10
  reissues : Nat := 0
  policy : Policy := .proceed
  deriving DecidableEq, Repr

/-- A plan block: its HEADER record (R87) and its 64 STEP records. -/
structure Plan where
  stepCount : Nat := 0
  slotLimit : Nat := 1
  steps : Vector StepCfg 64 := .replicate 64 {}
  deriving DecidableEq, Repr

/-- A NODE record (R165). -/
structure NodeCfg where
  present : Bool := false
  kind : NodeKind := .other
  zone : Option (Fin 8) := none
  loadClass : Fin 16 := 0
  forward : Bool := false
  deriving DecidableEq, Repr

/-- A CHANNEL record (R1). -/
structure ChanCfg where
  enabled : Bool := false
  sensor : Nat := 1
  ss : Nat := 1
  ls : Nat := 6
  rOn : Nat := 20
  rOff : Nat := 16
  f : Nat := 1
  g : Nat := 10
  h : Nat := 1
  tMax : Nat := 100
  staleTime : Nat := 50
  deriving DecidableEq, Repr

/-- A ZONE record (R30). -/
structure ZoneCfg where
  members : List (Fin 32) := []
  kOn : Nat := 1
  kStrong : Nat := 1
  w : Nat := 10
  degrade : Degrade := .lower
  deriving DecidableEq, Repr

/-- A CLASS record (R128). -/
structure ClassCfg where
  readyTimeout : Nat := 100
  parkTimeout : Nat := 100
  settleDwell : Nat := 0
  fallback : Bool := false
  deriving DecidableEq, Repr

/-- A SOURCE record (R45). The polarity of a source that is no contact is used by nothing (log 22). -/
structure SourceCfg where
  enabled : Bool := true
  level : Nat := 1
  polarity : Polarity := .low
  deriving DecidableEq, Repr

/-- A FILTER record: one setting for each column (R171). -/
structure FilterCfg where
  armed : Setting := .pass
  shutting : Setting := .pass
  safeHold : Setting := .pass
  restarting : Setting := .pass
  deriving DecidableEq, Repr

/-- The SITE record (R135). The debounce counts are those of TRIP_IN0..3 and UTILITY_OK, in that order. -/
structure SiteCfg where
  supAddr : Nat := 1
  debounce : Vector Nat 5 := .replicate 5 20
  feedDwell : Nat := 60
  q : Nat := 60
  classAlert : Nat := 9
  classL1 : Nat := 9
  classL2 : Nat := 9
  deriving DecidableEq, Repr

/-- The default level of each source (R51, R134). FORCED and ESCALATION, whose level fields are not used (R45), have
1 and 2 here, and the 20 sources that are no contact have the polarity LOW, which R51 gives for TRIP_IN0..3 alone
(DESIGN CHOICE, log 22). -/
def defaultSources : Vector SourceCfg 24 :=
  .ofFn fun i => { level := if i.val = 0 ∨ 15 ≤ i.val then 1 else 2 }

/-- Site block 3 (R134). NODE record n stands at place n−1. -/
structure SiteTables where
  nodes : Vector NodeCfg 119 := .replicate 119 {}
  channels : Vector ChanCfg 32 := .replicate 32 {}
  zones : Vector ZoneCfg 8 := .replicate 8 {}
  classes : Vector ClassCfg 16 := .replicate 16 {}
  sources : Vector SourceCfg 24 := defaultSources
  filter : Vector FilterCfg 8 := .replicate 8 {}
  site : SiteCfg := {}
  deriving DecidableEq, Repr

/-- The content of the four blocks (R134): the L1, L2 and restart plans and the site tables. -/
structure Blocks where
  l1 : Plan := {}
  l2 : Plan := {}
  restart : Plan := {}
  site : SiteTables := {}
  deriving DecidableEq, Repr

/-! ### Link (08) and frames (R153) -/

/-- A frame without its check characters, which follow from the rest (R154). -/
structure Frame where
  dst : Byte
  src : Byte
  kind : Byte
  tag : Byte
  payload : List Byte
  deriving DecidableEq, Repr

/-- A character as a transmitter sends it: its value and its marker bit (R152, R161). -/
structure LineChar where
  value : Byte
  marker : Bool
  deriving DecidableEq, Repr

/-- The state of a receiver (R155). -/
inductive RxPhase where
  | idle | assembling | discarding
  deriving DecidableEq, Repr

/-- A receive assembly: the receiver's state and the characters of the frame received so far (8.3). -/
structure Receiver where
  phase : RxPhase := .idle
  chars : List Byte := []
  deriving DecidableEq, Repr

/-- What a frame on the P-port line is, for its transmission end (R161, R117). -/
inductive PSource where
  | trip
  | injected (tag : Byte)
  | forwarded
  deriving DecidableEq, Repr

/-- Which response a response is, for the resets that wait for its transmission end (R164, R189). -/
inductive ResponseMark where
  | plain | portReset | partReset
  deriving DecidableEq, Repr

/-- A P-port transmission in progress: the characters sent for the frame (R161), and what the frame is. -/
structure PSending where
  line : List LineChar
  source : PSource
  deriving DecidableEq, Repr

/-- An S-port transmission in progress: the characters sent for the frame (R161), and which response it ends. -/
structure SSending where
  line : List LineChar
  mark : ResponseMark
  deriving DecidableEq, Repr

/-- One port's counters (R162). -/
structure PortCount where
  received : Nat := 0
  framing : Nat := 0
  abandoned : Nat := 0
  truncated : Nat := 0
  length : Nat := 0
  check : Nat := 0
  stray : Nat := 0
  malformed : Nat := 0
  sent : Nat := 0
  deriving DecidableEq, Repr

/-- How far a reset that waits for a response has come (R164, R189). -/
inductive Waiting where
  | none
  /-- Accepted; its response has not been sent. -/
  | pending
  /-- Its response's transmission has ended; the reset takes effect as the next step. -/
  | due
  deriving DecidableEq, Repr

/-- The link ports' state. -/
structure Link where
  sRx : Receiver := {}
  pRx : Receiver := {}
  sTx : Option SSending := none
  pTx : Option PSending := none
  sCount : PortCount := {}
  pCount : PortCount := {}
  sReset : Waiting := .none
  pReset : Bool := false
  deriving DecidableEq, Repr

/-! ### Frame router (09) -/

/-- A node's reported state (R166). -/
inductive NodeState where
  | run | idle | safe | fault | unknown
  deriving DecidableEq, Repr

/-- The runtime part of a node table entry (R166). -/
structure NodeRt where
  reported : NodeState := .unknown
  heard : Nat := 65535
  deriving DecidableEq, Repr

/-- The router's counters (R180). -/
structure RouterCount where
  unknownSources : Nat := 0
  unknownStates : Nat := 0
  pDiscards : Nat := 0
  sDiscards : Nat := 0
  refusals : Nat := 0
  sToPDrops : Nat := 0
  pToSLosses : Nat := 0
  noticesReplaced : Nat := 0
  deriving DecidableEq, Repr

/-- The router's state: node table runtime, the two forwarding queues, the notice slot and the counters. -/
structure Router where
  nodes : Vector NodeRt 128 := .replicate 128 {}
  sToP : List Frame := []
  pToS : List Frame := []
  notice : Option Frame := none
  count : RouterCount := {}
  deriving DecidableEq, Repr

/-! ### Ground-motion detector (01) and zone voter (02) -/

/-- A channel's state (R2). -/
inductive ChanState where
  | off | priming | quiet | onset | strong | stale
  deriving DecidableEq, Repr

/-- A channel's runtime record (R2). A stale timer of 0 ms is one whose expiry is due (log 43). The averages and baselines are sixteenths of a mg. -/
structure Channel where
  state : ChanState := .off
  seeded : Bool := false
  priming : Nat := 0
  expected : Byte := 0
  baseX : Int := 0
  baseY : Int := 0
  baseZ : Int := 0
  sta : Int := 0
  lta : Int := 0
  below : Nat := 0
  inOnset : Nat := 0
  onsetAt : Time := 0
  strongAt : Time := 0
  peakH : Nat := 0
  peakU : Nat := 0
  staleTimer : Option Nat := none
  missed : Nat := 0
  duplicates : Nat := 0
  resyncs : Nat := 0
  staleEntries : Nat := 0
  deriving DecidableEq, Repr

/-- A member's image and stamps (R31, R32), kept by channel number (log 30). -/
structure Member where
  state : ChanState := .off
  seeded : Bool := false
  onsetUntil : Option Time := none
  strongUntil : Option Time := none
  deriving DecidableEq, Repr

/-- A zone's condition (R38). -/
inductive Condition where
  | normal | degraded | blind
  deriving DecidableEq, Repr

/-- A zone's runtime state (R31), but for its members'. -/
structure Zone where
  isolated : Bool := false
  onsetVote : Bool := false
  strongVote : Bool := false
  condition : Condition := .blind
  deriving DecidableEq, Repr

/-- The zone voter's state. -/
structure Voter where
  members : Vector Member 32 := .replicate 32 {}
  zones : Vector Zone 8 := .replicate 8 {}
  deriving DecidableEq, Repr

/-! ### Trigger unit (03) -/

/-- A debouncer (R53); `due` marks that the last sample brought the count to N, so that its change is the next event. -/
structure Debouncer where
  active : Bool := false
  count : Nat := 0
  due : Bool := false
  deriving DecidableEq, Repr

/-- A live warning record (R57). -/
structure Warning where
  event : Nat
  cls : Nat
  lead : Nat
  arrival : Time
  expiry : Time
  deriving DecidableEq, Repr

/-- The trigger unit's state. Debouncers 0..3 are TRIP_IN0..3, debouncer 4 is UTILITY_OK. -/
structure Trigger where
  flags : Vector Bool 24 := .replicate 24 false
  forcedLevel : Nat := 1
  requestLevel : Nat := 0
  cause : Option (Fin 24) := none
  remoteSevere : Bool := false
  remoteModerate : Bool := false
  inputs : Vector Debouncer 5 := .replicate 5 {}
  feedStable : Bool := false
  feedStart : Option Time := none
  warnings : Vector (Option Warning) 4 := .replicate 4 none
  warningsDropped : Nat := 0
  warningsIgnored : Nat := 0
  quiet : Option Nat := none
  quietElapsed : Bool := false
  alertOut : Bool := false
  tripOut : Bool := false
  deriving DecidableEq, Repr

/-! ### Site state controller (04) -/

/-- The site state (R65). -/
inductive SiteState where
  | unconfigured | armed | shutting | safeHold | restarting
  deriving DecidableEq, Repr

/-- The hold reason, where there is one (R65). -/
inductive HoldReason where
  | shutdownComplete | shutdownIncomplete | restartHalted | restartAborted | powerOnOpen | recordDamaged
  deriving DecidableEq, Repr

/-- The site state controller's state (R65) and the TRIP-pending flag (R74). -/
structure Site where
  state : SiteState := .unconfigured
  level : Nat := 0
  hold : Option HoldReason := none
  trip : Nat := 0
  record : Option (Fin 16) := none
  requestLevel : Nat := 0
  cause : Option (Fin 24) := none
  restartIncomplete : Bool := false
  activationPending : Bool := false
  tripPending : Bool := false
  deriving DecidableEq, Repr

/-! ### Plan executor (05, 06) -/

/-- The three plans (R87). -/
inductive PlanId where
  | l1 | l2 | restart
  deriving DecidableEq, Repr

/-- A run's status (R93). -/
inductive RunStatus where
  | noRun | running | complete | halted | abandoned
  deriving DecidableEq, Repr

/-- A step's lifecycle state (R94). -/
inductive Lifecycle where
  | blocked | waitingDwell | waitingFeed | queued | issued | awaitingState | settling
  | done | already | skipped | failed | notRun
  deriving DecidableEq, Repr

/-- Why a step FAILED (R104). -/
inductive FailReason where
  | refused | noReply | busy | fault | notReady | settleLost
  deriving DecidableEq, Repr

/-- The run record (R93). -/
structure Run where
  plan : Option PlanId := none
  status : RunStatus := .noRun
  stepCount : Nat := 0
  slotLimit : Nat := 0
  start : Time := 0
  finish : Option Time := none
  failed : Nat := 0
  cfgChanged : Bool := false
  deriving DecidableEq, Repr

/-- A step's runtime record (R94). -/
structure Step where
  state : Lifecycle := .notRun
  entry : Time := 0
  timer : Option Nat := none
  reason : Option FailReason := none
  deriving DecidableEq, Repr

/-- The phase of an outstanding entry (R113). -/
inductive TxPhase where
  | waitingTx | waitingReply
  deriving DecidableEq, Repr

/-- An entry of the outstanding command list (R113). -/
structure Entry where
  step : Fin 64
  target : Nat
  action : Action
  tag : Byte
  phase : TxPhase
  deadline : Option Nat
  left : Nat
  deriving DecidableEq, Repr

/-- A frame of the injection queue (R115, R132): the COMMAND to its target with this tag, action and feed indication. -/
structure Injected where
  tag : Byte
  target : Nat
  action : Action
  feed : Bool
  deriving DecidableEq, Repr

/-- The plan executor's state. `queued` is the model's own: the QUEUED steps that no slot was free for, in the order in
which they became QUEUED, those of one event in ascending id (R103; log 41). -/
structure Runner where
  run : Run := {}
  steps : Vector Step 64 := .replicate 64 {}
  queued : List (Fin 64) := []
  outstanding : List Entry := []
  injection : List Injected := []
  tagCounter : Byte := 0
  commandsSent : Nat := 0
  reissues : Nat := 0
  strays : Nat := 0
  deriving DecidableEq, Repr

/-! ### Plan store and trip records (07) -/

/-- A block's non-volatile condition (R134). -/
inductive BlockCond where
  | valid | invalid | programming
  deriving DecidableEq, Repr

/-- A record's shutdown outcome (R147). -/
inductive ShutdownOutcome where
  | running | complete | incomplete
  deriving DecidableEq, Repr

/-- A record's closure (R147). -/
inductive Closure where
  | isOpen | restarted | restartedPartial | superseded | recovered
  deriving DecidableEq, Repr

/-- A trip record: the fields of R147's table, and its record CRC. -/
structure TripRecord where
  seq : Word32
  trip : Nat
  opened : Word32
  cause : Option (Fin 24)
  level : Nat
  escalated : Bool
  peakH : Nat
  outcome : ShutdownOutcome
  closure : Closure
  closed : Word32
  crc : BitVec 16
  deriving DecidableEq, Repr

/-- A slot of the ring or of the ring image (R147, R149). -/
inductive Slot where
  | blank
  /-- In non-volatile memory: its write was cut short (R146; log 31). In the image: found damaged (R149). -/
  | damaged
  | record (r : TripRecord)
  deriving DecidableEq, Repr

/-- The non-volatile protection word (R143). -/
inductive ProtectionWord where
  | neverWritten
  /-- Its write was cut short, so that its check fails (R143; log 31). -/
  | checkFails
  /-- A set of blocks, with the check stored beside it. -/
  | names (set : Vector Bool 4) (check : BitVec 16)
  deriving DecidableEq, Repr

/-- A waiting record write (R144, R145). -/
structure RecordWrite where
  slot : Fin 16
  image : TripRecord
  deriving DecidableEq, Repr

/-- A waiting block programming or protection write (R144). -/
inductive OtherWrite where
  | block (b : Fin 4)
  | protection (set : Vector Bool 4)
  deriving DecidableEq, Repr

/-- What is being written (R144). -/
inductive WriteItem where
  | record (w : RecordWrite)
  | other (w : OtherWrite)
  deriving DecidableEq, Repr

/-- The write in progress and its milliseconds left (R144). -/
structure Writing where
  item : WriteItem
  left : Nat
  deriving DecidableEq, Repr

/-- The commit in progress (R141): who asked, which blocks, and their content as admitted. -/
structure CommitRun where
  src : Byte
  tag : Byte
  named : Vector Bool 4
  content : Blocks
  deriving DecidableEq, Repr

/-- The plan store's volatile state (R136). The shadows carry a validity mark of their own beside the working copies'
(R136, step 3); the load sets it and nothing else does (log 47). -/
structure PlanStore where
  work : Blocks := {}
  workValid : Vector Bool 4 := .replicate 4 false
  shadow : Blocks := {}
  shadowValid : Vector Bool 4 := .replicate 4 false
  cond : Vector BlockCond 4 := .replicate 4 .invalid
  activeProtection : Vector Bool 4 := .replicate 4 true
  ring : Vector Slot 16 := .replicate 16 .blank
  writeSeq : Word32 := 0
  recordWrites : List RecordWrite := []
  otherWrites : List OtherWrite := []
  writing : Option Writing := none
  commit : Option CommitRun := none
  awaiting : Vector Bool 4 := .replicate 4 false
  suspensions : Nat := 0
  deriving DecidableEq, Repr

/-- Non-volatile memory (07): the blocks, the CRC stored with each (R134), the protection word and the ring. A block
without a CRC was never programmed, or its programming was cut short or failed its read-back: it fails its CRC
(R134, R141; log 31). -/
structure NonVolatile where
  blocks : Blocks := {}
  checks : Vector (Option (BitVec 16)) 4 := .replicate 4 none
  protection : ProtectionWord := .neverWritten
  ring : Vector Slot 16 := .replicate 16 .blank
  deriving DecidableEq, Repr

/-! ### Management unit (10) -/

/-- The reset cause flags (R188). -/
structure Causes where
  power : Bool
  pin : Bool
  commanded : Bool
  deriving DecidableEq, Repr

/-- The strap values as read (R152). -/
structure Straps where
  addr : Fin 4
  rate : Fin 4
  deriving DecidableEq, Repr

/-- The response statuses, in the order of R183's table. -/
inductive Status where
  | ok | okClamped | badRequest | badArgument | wrongState | busy | tooEarly | sourceActive | isProtected
  | invalidPlan | inconsistent | verifyFailed | committed
  deriving DecidableEq, Repr

/-- A response (R182 to R184): whole, with how many of its parts have begun transmission. -/
structure Response where
  dst : Byte
  tag : Byte
  code : Byte
  status : Status
  data : List Byte
  sent : Nat
  mark : ResponseMark
  deriving DecidableEq, Repr

/-- The management unit's state. -/
structure Mgmt where
  siteTime : Word32 := 0
  siteMs : Nat := 0
  secondDue : Bool := false
  causes : Causes := ⟨true, false, false⟩
  straps : Straps := ⟨0, 0⟩
  loadTimer : Nat := 5
  cmdReset : Waiting := .none
  responses : List Response := []
  held : List Response := []
  handled : Nat := 0
  discarded : Nat := 0
  deriving DecidableEq, Repr

/-! ### The whole part -/

/-- The pin levels outside, true for HIGH (8.10). They are no register: nothing resets them. -/
structure Pins where
  trip : Vector Bool 4 := .replicate 4 true
  utility : Bool := false
  deriving DecidableEq, Repr

/-- Whether the part is unpowered, held by RESET, in its start-up load, or running (8.10, R136, R146). -/
inductive Phase where
  | unpowered | held | loading | running
  deriving DecidableEq, Repr

/-- The state of the part, with the queue of the commands that wait. -/
structure State where
  pending : List Instr
  freeIndex : Nat
  pins : Pins
  phase : Phase
  now : Time
  mgmt : Mgmt
  link : Link
  router : Router
  channels : Vector Channel 32
  voter : Voter
  trig : Trigger
  site : Site
  runner : Runner
  store : PlanStore
  nv : NonVolatile
  deriving DecidableEq, Repr

/-- The part right after a power-on reset, its start-up load just begun (R136, R187, R188), with non-volatile memory
as never programmed (DESIGN CHOICE, log 8). -/
def State.reset : State where
  pending := []
  freeIndex := 0
  pins := {}
  phase := .loading
  now := 0
  mgmt := {}
  link := {}
  router := {}
  channels := .replicate 32 {}
  voter := {}
  trig := {}
  site := {}
  runner := {}
  store := {}
  nv := {}

end Sys2Proof.Machine
end

