-- ==== Sys2Proof/Machine/Ops.lean ====
section
/-! DEFINITION. Shared operations below the blocks: saturating counters, the time base, the free values, access to the configuration, the frame check and the frame layout. -/

namespace Sys2Proof.Machine

/-! ### Counters and clamps (00_scope.md, Counters; R186) -/

/-- A counter's advance by `k`, which stops at 65535. -/
def bumpBy (n k : Nat) : Nat := min (n + k) 65535

/-- A counter's advance by 1. -/
def bump (n : Nat) : Nat := bumpBy n 1

/-- "Clamped to lo..hi" (00_scope.md, Arithmetic). -/
def clampNat (lo hi n : Nat) : Nat := if n < lo then lo else if hi < n then hi else n

/-- "Clamped to lo..hi" for signed values. -/
def clampInt (lo hi z : Int) : Int := if z < lo then lo else if hi < z then hi else z

/-- A running down-timer after one tick; 0 is an expiry that is due. -/
def countDown (t : Option Nat) : Option Nat := t.map (· - 1)

/-! ### The time base (00_scope.md, Numbers and units) -/

/-- Milliseconds from `t` to now, modulo 4294967296. -/
def msSince (now t : Time) : Nat := (now - t).toNat

/-- Milliseconds from now to `t`, modulo 4294967296. -/
def msUntil (now t : Time) : Nat := (t - now).toNat

/-- The time base value `ms` after `now`. -/
def laterBy (now : Time) (ms : Nat) : Time := now + BitVec.ofNat 32 ms

/-- The time base has reached `t`: `t` is not in the half of the circle still to come (DEDUCED, log 14). -/
def reached (now t : Time) : Bool := (now - t).toNat < 2147483648

/-! ### The free value of one event -/

/-- Reads the next free order and steps the counter on (log 4). -/
def drawOrder (s : State) : Bool × State :=
  (Config.firstIsTakenFirst s.freeIndex, { s with freeIndex := s.freeIndex + 1 })

/-- Reads the next free choice between two QUEUED steps and steps the counter on (log 41). -/
def drawSlot (s : State) : Bool × State :=
  (Config.lowestIdTakesSlot s.freeIndex, { s with freeIndex := s.freeIndex + 1 })

/-! ### Configuration as the blocks read it -/

/-- A plan of a set of blocks (R87: block 0 is L1, block 1 is L2, block 2 is the restart plan). -/
def Blocks.plan (b : Blocks) : PlanId → Plan
  | .l1 => b.l1
  | .l2 => b.l2
  | .restart => b.restart

/-- The block that holds a plan (R87). -/
def PlanId.block : PlanId → Fin 4
  | .l1 => 0
  | .l2 => 1
  | .restart => 2

/-- The plan in a block; block 3 holds none. -/
def planIn : Fin 4 → Option PlanId
  | 0 => some .l1
  | 1 => some .l2
  | 2 => some .restart
  | 3 => none

/-- `dst` with plan `p` replaced. -/
def Blocks.setPlan (dst : Blocks) (p : PlanId) (x : Plan) : Blocks :=
  match p with
  | .l1 => { dst with l1 := x }
  | .l2 => { dst with l2 := x }
  | .restart => { dst with restart := x }

/-- `dst` with block `b` replaced by that of `src`. -/
def copyBlock (b : Fin 4) (src dst : Blocks) : Blocks :=
  match planIn b with
  | some p => dst.setPlan p (src.plan p)
  | none => { dst with site := src.site }

/-- The site tables the part runs from (R134: the working copy of block 3). -/
def State.tables (s : State) : SiteTables := s.store.work.site

/-- The site parameters (R135). -/
def State.params (s : State) : SiteCfg := s.tables.site

/-- The configuration of a node table entry; addresses without a NODE record are not present (R165). -/
def SiteTables.node (t : SiteTables) (a : Nat) : NodeCfg :=
  if a = 0 then {} else (t.nodes.toList[a - 1]?).getD {}

/-- The configuration of a node table entry of the working copy. -/
def State.nodeCfg (s : State) (a : Nat) : NodeCfg := s.tables.node a

/-- The runtime part of a node table entry (R166). -/
def State.nodeRt (s : State) (a : Nat) : NodeRt := (s.router.nodes.toList[a]?).getD {}

/-- The node lies in a zone that is isolated (R100, R171). -/
def State.nodeIsolated (s : State) (a : Nat) : Bool :=
  match (s.nodeCfg a).zone with
  | some z => s.voter.zones[z].isolated
  | none => false

/-- The load class of a node (R128). -/
def State.classOf (s : State) (a : Nat) : ClassCfg := s.tables.classes[(s.nodeCfg a).loadClass]

/-- The part's own link address (R152). -/
def State.ownAddress (s : State) : Byte := BitVec.ofNat 8 (120 + s.mgmt.straps.addr.val)

/-- SUP_ADDR as a character (R165). -/
def State.supAddress (s : State) : Byte := BitVec.ofNat 8 s.params.supAddr

/-- The zone whose member list holds a channel, if any (R30: at most one list does). -/
def SiteTables.zoneOf (t : SiteTables) (c : Fin 32) : Option (Fin 8) :=
  (List.finRange 8).find? fun z => t.zones[z].members.contains c

/-- A channel in ONSET or STRONG. -/
def Channel.active (c : Channel) : Bool := c.state == .onset || c.state == .strong

/-- Some channel is in ONSET or STRONG, member of a zone or not (R52, R63). -/
def State.anyChannelActive (s : State) : Bool := s.channels.toList.any Channel.active

/-- Some zone's onset vote or strong vote is true (R52, R63). -/
def State.anyVote (s : State) : Bool := s.voter.zones.toList.any fun z => z.onsetVote || z.strongVote

/-- The class of some live warning record is at or above `c` (R52, R60, R63). -/
def State.anyWarning (s : State) (c : Nat) : Bool :=
  s.trig.warnings.toList.any fun w => match w with
    | some r => c ≤ r.cls
    | none => false

/-- A set of blocks that is not empty. -/
def anyOf (set : Vector Bool 4) : Bool := set.toList.any id

/-! ### Frame kinds and the frame check (R154, R158) -/

abbrev kindCommand : Byte := 0x10#8
abbrev kindReply : Byte := 0x11#8
abbrev kindStatus : Byte := 0x12#8
abbrev kindSample : Byte := 0x20#8
abbrev kindWarning : Byte := 0x21#8
abbrev kindTrip : Byte := 0x30#8
abbrev kindRequest : Byte := 0x40#8
abbrev kindResponse : Byte := 0x41#8
abbrev kindNotice : Byte := 0x42#8

/-- One bit of the check: shift, and divide by x^16+x^12+x^5+1 where a one leaves (R154). -/
def crcShift (c : BitVec 16) : BitVec 16 :=
  if c.msb then (c <<< 1) ^^^ 0x1021#16 else c <<< 1

/-- The check after one more character, taken most significant bit first (R154). -/
def crcByte (c : BitVec 16) (b : Byte) : BitVec 16 :=
  (List.range 8).foldl (fun c _ => crcShift c) (c ^^^ ((b.setWidth 16) <<< 8))

/-- The check of a run of characters, from a register of all ones (R154). -/
def crc16 (l : List Byte) : BitVec 16 := l.foldl crcByte 0xFFFF#16

/-- The two check characters, high byte first (R154). -/
def checkChars (l : List Byte) : List Byte :=
  [((crc16 l) >>> 8).setWidth 8, (crc16 l).setWidth 8]

/-- The characters the check covers: destination to last payload character (R153, R154). -/
def Frame.body (f : Frame) : List Byte :=
  [f.dst, f.src, f.kind, f.tag, BitVec.ofNat 8 f.payload.length] ++ f.payload

/-- The whole frame as it goes over the line (R153). -/
def Frame.chars (f : Frame) : List Byte := f.body ++ checkChars f.body

/-- Characters as a transmitter sends them, the marker on the first alone (R161). -/
def markFirst : List Byte → List LineChar
  | [] => []
  | v :: rest => ⟨v, true⟩ :: rest.map (⟨·, false⟩)

/-- The characters that a transmitter sends for a frame (R153, R161). A forwarded frame's check characters are those it
was received with, since it was received with the right ones (R154, R155). -/
def Frame.line (f : Frame) : List LineChar := markFirst f.chars

/-- The level of a line with no character on it: high (R152). -/
def restLevel : Bool := true

/-- A character on the line, 11 bits, each true where the line is high: a start bit, low; the value's eight bits, least
significant first; the marker bit; and the stop bit, high but where the character is damaged (R152). -/
def charBits (v : Byte) (marker stop : Bool) : List Bool :=
  false :: ((List.finRange 8).map fun i => v.getLsb i) ++ [marker, stop]

/-- The bits of a character that a transmitter sends (R152). -/
def LineChar.bits (c : LineChar) : List Bool := charBits c.value c.marker true

/-- The value of data bits, least significant first (R152). -/
def bitsByte (l : List Bool) : Byte := BitVec.ofNat 8 (l.foldr (fun b n => b.toNat + 2 * n) 0)

/-- What a receiver reads from 11 bits: value, marker, and whether the stop bit is low, a framing error (R152, R155). Bits
that do not begin with a start bit are no character. -/
def readChar : List Bool → Option (Byte × Bool × Bool)
  | [false, b0, b1, b2, b3, b4, b5, b6, b7, marker, stop] =>
    some (bitsByte [b0, b1, b2, b3, b4, b5, b6, b7], marker, !stop)
  | _ => none

/-- The levels of a transmit line for what is sent on it, bit by bit; at rest with nothing (R152, R161). -/
def lineBits : Option (List LineChar) → List Bool
  | some line => line.flatMap LineChar.bits
  | none => [restLevel]

/-- The length error of R156 and R159 does not occur in this frame. -/
def Frame.sizeOk (f : Frame) : Bool :=
  f.payload.length ≤ 48 &&
    (f.kind != kindSample ||
      match f.payload with
      | _ :: c :: rest => 1 ≤ c.toNat && c.toNat ≤ 4 && rest.length == 6 * c.toNat
      | _ => false)

/-- The payload length is one that R158 lists for the kind. -/
def Frame.wellFormed (f : Frame) : Bool :=
  let n := f.payload.length
  if f.kind = kindCommand ∨ f.kind = kindStatus then 1 ≤ n && n ≤ 9
  else if f.kind = kindReply then n == 2
  else if f.kind = kindWarning then n == 7
  else if f.kind = kindTrip then n == 3
  else true

/-- A node's address, 1..119. -/
def isNode (a : Byte) : Bool := 1 ≤ a.toNat && a.toNat ≤ 119

/-- Broadcast, 127. -/
def isBroadcast (a : Byte) : Bool := a.toNat == 127

/-- The node state a character carries (R119, R166). -/
def nodeStateOf (code : Byte) : NodeState :=
  if code.toNat = 0 then .run
  else if code.toNat = 1 then .idle
  else if code.toNat = 2 then .safe
  else if code.toNat = 3 then .fault
  else .unknown

end Sys2Proof.Machine
end

