-- ==== Sys2Proof/Machine/Operands.lean ====
section
/-! DEFINITION. The coding of arguments, data fields and shadow records as characters (R182), the ranges the records are clamped to (R1, R30, R45, R87, R89, R128, R135, R165, R171), and the reading of a request's payload (R182, R183). Codes that R182 leaves to a reading of the lists are DEDUCED (logs 17, 20, 21, 22). -/

namespace Sys2Proof.Machine

/-! ### Numeric and named fields (R182) -/

/-- A number in one character. -/
def u8 (n : Nat) : List Byte := [BitVec.ofNat 8 n]

/-- A number in two characters, high byte first. -/
def u16 (n : Nat) : List Byte := [BitVec.ofNat 8 (n / 256), BitVec.ofNat 8 n]

/-- A number in four characters, high byte first. -/
def u32 (n : Nat) : List Byte :=
  [BitVec.ofNat 8 (n / 16777216), BitVec.ofNat 8 (n / 65536), BitVec.ofNat 8 (n / 256), BitVec.ofNat 8 n]

/-- A signed number in four characters, two's complement. -/
def i32 (z : Int) : List Byte := u32 (BitVec.ofInt 32 z).toNat

/-- A yes-or-no field. -/
def yesNo (b : Bool) : List Byte := u8 (if b then 1 else 0)

/-- A one-character field that may be "none", coded 255. -/
def u8None (o : Option Nat) : List Byte := u8 (o.getD 255)

/-- A four-character field that may be "none", "stopped" or "not running": every bit set. -/
def u32None (o : Option Nat) : List Byte := u32 (o.getD 4294967295)

/-- A set as a mask, member 0 in the least significant bit. -/
def maskOf : List Bool → Nat
  | [] => 0
  | b :: rest => (if b then 1 else 0) + 2 * maskOf rest

/-- The number in a run of characters, high byte first. -/
def beNat (l : List Byte) : Nat := l.foldl (fun n b => 256 * n + b.toNat) 0

def Action.code : Action → Nat
  | .mark => 0 | .shed => 1 | .park => 2 | .cut => 3 | .energize => 4 | .resume => 5 | .transfer => 6

def Action.ofCode : Nat → Option Action
  | 0 => some .mark | 1 => some .shed | 2 => some .park | 3 => some .cut | 4 => some .energize
  | 5 => some .resume | 6 => some .transfer | _ => none

def Policy.code : Policy → Nat
  | .proceed => 0 | .prune => 1 | .halt => 2 | .escalate => 3

def Policy.ofCode : Nat → Option Policy
  | 0 => some .proceed | 1 => some .prune | 2 => some .halt | 3 => some .escalate | _ => none

def NodeKind.code : NodeKind → Nat
  | .sensor => 0 | .breaker => 1 | .pdu => 2 | .ups => 3 | .generator => 4 | .cooling => 5 | .gateway => 6
  | .other => 7

def NodeKind.ofCode : Nat → Option NodeKind
  | 0 => some .sensor | 1 => some .breaker | 2 => some .pdu | 3 => some .ups | 4 => some .generator
  | 5 => some .cooling | 6 => some .gateway | 7 => some .other | _ => none

def Degrade.code : Degrade → Nat
  | .lower => 0 | .hold => 1

def Degrade.ofCode : Nat → Option Degrade
  | 0 => some .lower | 1 => some .hold | _ => none

def Polarity.code : Polarity → Nat
  | .high => 0 | .low => 1

def Polarity.ofCode : Nat → Option Polarity
  | 0 => some .high | 1 => some .low | _ => none

def Setting.code : Setting → Nat
  | .pass => 0 | .refuse => 1

def Setting.ofCode : Nat → Option Setting
  | 0 => some .pass | 1 => some .refuse | _ => none

def NodeState.code : NodeState → Nat
  | .run => 0 | .idle => 1 | .safe => 2 | .fault => 3 | .unknown => 4

def ChanState.code : ChanState → Nat
  | .off => 0 | .priming => 1 | .quiet => 2 | .onset => 3 | .strong => 4 | .stale => 5

def Condition.code : Condition → Nat
  | .normal => 0 | .degraded => 1 | .blind => 2

def SiteState.code : SiteState → Nat
  | .unconfigured => 0 | .armed => 1 | .shutting => 2 | .safeHold => 3 | .restarting => 4

def HoldReason.code : HoldReason → Nat
  | .shutdownComplete => 0 | .shutdownIncomplete => 1 | .restartHalted => 2 | .restartAborted => 3
  | .powerOnOpen => 4 | .recordDamaged => 5

def PlanId.code : PlanId → Nat
  | .l1 => 0 | .l2 => 1 | .restart => 2

def RunStatus.code : RunStatus → Nat
  | .noRun => 0 | .running => 1 | .complete => 2 | .halted => 3 | .abandoned => 4

def Lifecycle.code : Lifecycle → Nat
  | .blocked => 0 | .waitingDwell => 1 | .waitingFeed => 2 | .queued => 3 | .issued => 4 | .awaitingState => 5
  | .settling => 6 | .done => 7 | .already => 8 | .skipped => 9 | .failed => 10 | .notRun => 11

def FailReason.code : FailReason → Nat
  | .refused => 0 | .noReply => 1 | .busy => 2 | .fault => 3 | .notReady => 4 | .settleLost => 5

def TxPhase.code : TxPhase → Nat
  | .waitingTx => 0 | .waitingReply => 1

def BlockCond.code : BlockCond → Nat
  | .valid => 0 | .invalid => 1 | .programming => 2

def ShutdownOutcome.code : ShutdownOutcome → Nat
  | .running => 0 | .complete => 1 | .incomplete => 2

def Closure.code : Closure → Nat
  | .isOpen => 0 | .restarted => 1 | .restartedPartial => 2 | .superseded => 3 | .recovered => 4

def Status.code : Status → Nat
  | .ok => 0 | .okClamped => 1 | .badRequest => 2 | .badArgument => 3 | .wrongState => 4 | .busy => 5
  | .tooEarly => 6 | .sourceActive => 7 | .isProtected => 8 | .invalidPlan => 9 | .inconsistent => 10
  | .verifyFailed => 11 | .committed => 12

/-! ### Record kinds (R134) -/

/-- The record kinds, in the order of R134. -/
inductive RecordKind where
  | header | step | node | channel | zone | cls | source | filter | site
  deriving DecidableEq, Repr

def RecordKind.code : RecordKind → Nat
  | .header => 0 | .step => 1 | .node => 2 | .channel => 3 | .zone => 4 | .cls => 5 | .source => 6
  | .filter => 7 | .site => 8

def RecordKind.ofCode : Nat → Option RecordKind
  | 0 => some .header | 1 => some .step | 2 => some .node | 3 => some .channel | 4 => some .zone
  | 5 => some .cls | 6 => some .source | 7 => some .filter | 8 => some .site | _ => none

/-- The characters of one record (R182: every record of a kind has one size). -/
def RecordKind.size : RecordKind → Nat
  | .header => 2 | .step => 13 | .node => 5 | .channel => 15 | .zone => 14 | .cls => 13 | .source => 3
  | .filter => 4 | .site => 13

/-- The kind belongs to the block (R134). -/
def RecordKind.belongs (k : RecordKind) (block : Nat) : Bool :=
  match k with
  | .header | .step => block < 3
  | _ => block == 3

/-- The kind has a record of this index (R134). -/
def RecordKind.hasIndex (k : RecordKind) (i : Nat) : Bool :=
  match k with
  | .header | .site => i == 0
  | .step => i < 64
  | .node => 1 ≤ i && i ≤ 119
  | .channel => i < 32
  | .zone => i < 8
  | .cls => i < 16
  | .source => i < 24
  | .filter => i < 8

/-! ### Records as characters, their fields in the order of their chapter's table -/

/-- A list at its full size, the places beyond the count holding 255 (R182). -/
def fullList (room : Nat) (items : List Nat) : List Byte :=
  u8 items.length ++ (items.map fun i => BitVec.ofNat 8 i) ++ List.replicate (room - items.length) 0xFF#8

def Plan.headerChars (p : Plan) : List Byte := u8 p.stepCount ++ u8 p.slotLimit

def StepCfg.chars (c : StepCfg) : List Byte :=
  u8 c.action.code ++ u8None c.target ++ fullList 4 (c.prereqs.map Fin.val) ++ u16 c.dwell ++ u16 c.deadline
    ++ u8 c.reissues ++ u8 c.policy.code

def NodeCfg.chars (c : NodeCfg) : List Byte :=
  yesNo c.present ++ u8 c.kind.code ++ u8None (c.zone.map Fin.val) ++ u8 c.loadClass.val ++ yesNo c.forward

def ChanCfg.chars (c : ChanCfg) : List Byte :=
  yesNo c.enabled ++ u8 c.sensor ++ u8 c.ss ++ u8 c.ls ++ u8 c.rOn ++ u8 c.rOff ++ u16 c.f ++ u16 c.g ++ u8 c.h
    ++ u16 c.tMax ++ u16 c.staleTime

def ZoneCfg.chars (c : ZoneCfg) : List Byte :=
  fullList 8 (c.members.map Fin.val) ++ u8 c.kOn ++ u8 c.kStrong ++ u16 c.w ++ u8 c.degrade.code

def ClassCfg.chars (c : ClassCfg) : List Byte :=
  u32 c.readyTimeout ++ u32 c.parkTimeout ++ u32 c.settleDwell ++ yesNo c.fallback

def SourceCfg.chars (c : SourceCfg) : List Byte := yesNo c.enabled ++ u8 c.level ++ u8 c.polarity.code

def FilterCfg.chars (c : FilterCfg) : List Byte :=
  u8 c.armed.code ++ u8 c.shutting.code ++ u8 c.safeHold.code ++ u8 c.restarting.code

def SiteCfg.chars (c : SiteCfg) : List Byte :=
  u8 c.supAddr ++ (c.debounce.toList.flatMap u8) ++ u16 c.feedDwell ++ u16 c.q ++ u8 c.classAlert ++ u8 c.classL1
    ++ u8 c.classL2

/-- A clamped number with whether it was clamped (R137). -/
def clamped (lo hi n : Nat) : Nat × Bool := (clampNat lo hi n, n < lo || hi < n)

/-- A yes-or-no character. -/
def readYesNo (b : Byte) : Option Bool :=
  if b.toNat = 0 then some false else if b.toNat = 1 then some true else none

/-- A number below `n` as a place. -/
def readFin (n : Nat) (b : Byte) : Option (Fin n) := if h : b.toNat < n then some ⟨b.toNat, h⟩ else none

/-- A node address, 1..119 (R137). -/
def readAddress (b : Byte) : Option Nat := if isNode b then some b.toNat else none

/-- A list's items, each a place below `n`. -/
def readItems (n : Nat) : List Byte → Option (List (Fin n))
  | [] => some []
  | b :: rest =>
    match readFin n b, readItems n rest with
    | some i, some is => some (i :: is)
    | _, _ => none

/-- HEADER (R87). -/
def readHeader : List Byte → Option ((Nat × Nat) × Bool)
  | [count, limit] =>
    let (c, c1) := clamped 0 64 count.toNat
    let (l, c2) := clamped 1 8 limit.toNat
    some ((c, l), c1 || c2)
  | _ => none

/-- STEP (R89). A MARK may leave its target out, coded none (DEDUCED, log 21). -/
def readStep : List Byte → Option (StepCfg × Bool)
  | [act, tgt, cnt, p0, p1, p2, p3, dw1, dw0, dl1, dl0, ri, pol] => do
    let action ← Action.ofCode act.toNat
    let target ← if action = .mark ∧ tgt.toNat = 255 then some none else (readAddress tgt).map some
    let _ ← if cnt.toNat ≤ 4 then some () else none
    let prereqs ← readItems 64 ([p0, p1, p2, p3].take cnt.toNat)
    let policy ← Policy.ofCode pol.toNat
    let (deadline, c1) := clamped 10 10000 (beNat [dl1, dl0])
    let (reissues, c2) := clamped 0 3 ri.toNat
    return ({ action, target, prereqs, dwell := beNat [dw1, dw0], deadline, reissues, policy }, c1 || c2)
  | _ => none

/-- NODE (R165). -/
def readNodeCfg : List Byte → Option (NodeCfg × Bool)
  | [pr, kd, zn, lc, fw] => do
    let present ← readYesNo pr
    let kind ← NodeKind.ofCode kd.toNat
    let zone ← if zn.toNat = 255 then some none else (readFin 8 zn).map some
    let loadClass ← readFin 16 lc
    let forward ← readYesNo fw
    return ({ present, kind, zone, loadClass, forward }, false)
  | _ => none

/-- CHANNEL (R1). R_off is clamped to 16..254, the widest its range can be (DEDUCED, log 20). -/
def readChannelCfg : List Byte → Option (ChanCfg × Bool)
  | [en, sa, ss, ls, ron, roff, f1, f0, g1, g0, h, t1, t0, st1, st0] => do
    let enabled ← readYesNo en
    let sensor ← readAddress sa
    let (ss, c1) := clamped 1 5 ss.toNat
    let (ls, c2) := clamped 6 12 ls.toNat
    let (rOn, c3) := clamped 20 255 ron.toNat
    let (rOff, c4) := clamped 16 254 roff.toNat
    let (f, c5) := clamped 1 1000 (beNat [f1, f0])
    let (g, c6) := clamped 10 32767 (beNat [g1, g0])
    let (h, c7) := clamped 1 255 h.toNat
    let (tMax, c8) := clamped 100 65535 (beNat [t1, t0])
    let (staleTime, c9) := clamped 50 2000 (beNat [st1, st0])
    return ({ enabled, sensor, ss, ls, rOn, rOff, f, g, h, tMax, staleTime },
      c1 || c2 || c3 || c4 || c5 || c6 || c7 || c8 || c9)
  | _ => none

/-- ZONE (R30). -/
def readZoneCfg : List Byte → Option (ZoneCfg × Bool)
  | [cnt, m0, m1, m2, m3, m4, m5, m6, m7, kon, kst, w1, w0, dg] => do
    let _ ← if cnt.toNat ≤ 8 then some () else none
    let members ← readItems 32 ([m0, m1, m2, m3, m4, m5, m6, m7].take cnt.toNat)
    let degrade ← Degrade.ofCode dg.toNat
    let (kOn, c1) := clamped 1 8 kon.toNat
    let (kStrong, c2) := clamped 1 8 kst.toNat
    let (w, c3) := clamped 10 5000 (beNat [w1, w0])
    return ({ members, kOn, kStrong, w, degrade }, c1 || c2 || c3)
  | _ => none

/-- CLASS (R128). -/
def readClassCfg : List Byte → Option (ClassCfg × Bool)
  | [r3, r2, r1, r0, p3, p2, p1, p0, s3, s2, s1, s0, fb] => do
    let fallback ← readYesNo fb
    let (readyTimeout, c1) := clamped 100 600000 (beNat [r3, r2, r1, r0])
    let (parkTimeout, c2) := clamped 100 600000 (beNat [p3, p2, p1, p0])
    let (settleDwell, c3) := clamped 0 600000 (beNat [s3, s2, s1, s0])
    return ({ readyTimeout, parkTimeout, settleDwell, fallback }, c1 || c2 || c3)
  | _ => none

/-- SOURCE (R45): enable, level, polarity (log 22). -/
def readSourceCfg : List Byte → Option (SourceCfg × Bool)
  | [en, lv, pol] => do
    let enabled ← readYesNo en
    let polarity ← Polarity.ofCode pol.toNat
    let (level, c1) := clamped 1 2 lv.toNat
    return ({ enabled, level, polarity }, c1)
  | _ => none

/-- FILTER (R171): one setting for each column. -/
def readFilterCfg : List Byte → Option (FilterCfg × Bool)
  | [a, b, c, d] => do
    let armed ← Setting.ofCode a.toNat
    let shutting ← Setting.ofCode b.toNat
    let safeHold ← Setting.ofCode c.toNat
    let restarting ← Setting.ofCode d.toNat
    return ({ armed, shutting, safeHold, restarting }, false)
  | _ => none

/-- SITE (R135). -/
def readSiteCfg : List Byte → Option (SiteCfg × Bool)
  | [sup, d0, d1, d2, d3, d4, fd1, fd0, q1, q0, ca, c1, c2] => do
    let supAddr ← readAddress sup
    let (n0, k0) := clamped 1 255 d0.toNat
    let (n1, k1) := clamped 1 255 d1.toNat
    let (n2, k2) := clamped 1 255 d2.toNat
    let (n3, k3) := clamped 1 255 d3.toNat
    let (n4, k4) := clamped 1 255 d4.toNat
    let (feedDwell, k5) := clamped 0 600 (beNat [fd1, fd0])
    let (q, k6) := clamped 10 3600 (beNat [q1, q0])
    let (classAlert, k7) := clamped 0 9 ca.toNat
    let (classL1, k8) := clamped 0 9 c1.toNat
    let (classL2, k9) := clamped 0 9 c2.toNat
    return ({ supAddr, debounce := #v[n0, n1, n2, n3, n4], feedDwell, q, classAlert, classL1, classL2 },
      k0 || k1 || k2 || k3 || k4 || k5 || k6 || k7 || k8 || k9)
  | _ => none

/-- `v` with place `i` replaced, where there is such a place. -/
def putAt {α : Type} {n : Nat} (v : Vector α n) (i : Nat) (x : α) : Vector α n :=
  if h : i < n then v.set i x h else v

/-- A plan with one of its records replaced from characters (R137). -/
def Plan.writeRecord (p : Plan) (k : RecordKind) (i : Nat) (c : List Byte) : Option (Plan × Bool) :=
  match k with
  | .header => (readHeader c).map fun ((n, l), b) => ({ p with stepCount := n, slotLimit := l }, b)
  | .step => (readStep c).map fun (x, b) => ({ p with steps := putAt p.steps i x }, b)
  | _ => none

/-- The site tables with one record replaced from characters (R137). -/
def SiteTables.writeRecord (t : SiteTables) (k : RecordKind) (i : Nat) (c : List Byte) : Option (SiteTables × Bool) :=
  match k with
  | .node => (readNodeCfg c).map fun (x, b) => ({ t with nodes := putAt t.nodes (i - 1) x }, b)
  | .channel => (readChannelCfg c).map fun (x, b) => ({ t with channels := putAt t.channels i x }, b)
  | .zone => (readZoneCfg c).map fun (x, b) => ({ t with zones := putAt t.zones i x }, b)
  | .cls => (readClassCfg c).map fun (x, b) => ({ t with classes := putAt t.classes i x }, b)
  | .source => (readSourceCfg c).map fun (x, b) => ({ t with sources := putAt t.sources i x }, b)
  | .filter => (readFilterCfg c).map fun (x, b) => ({ t with filter := putAt t.filter i x }, b)
  | .site => (readSiteCfg c).map fun (x, b) => ({ t with site := x }, b)
  | .header | .step => none

/-- A set of blocks with one record of one block replaced. -/
def Blocks.writeRecord (bs : Blocks) (block : Fin 4) (k : RecordKind) (i : Nat) (c : List Byte) :
    Option (Blocks × Bool) :=
  match planIn block with
  | some p => ((bs.plan p).writeRecord k i c).map fun (x, b) => (bs.setPlan p x, b)
  | none => (bs.site.writeRecord k i c).map fun (x, b) => ({ bs with site := x }, b)

/-- `count` records of one kind written to consecutive indices (R137): the blocks after, and whether any field was
clamped; none where some field names nothing of its set. -/
def Blocks.writeRecords (bs : Blocks) (block : Fin 4) (k : RecordKind) (first : Nat) :
    Nat → List Byte → Option (Blocks × Bool)
  | 0, _ => some (bs, false)
  | n + 1, chars =>
    match bs.writeRecord block k first (chars.take k.size) with
    | none => none
    | some (bs', c1) =>
      (Blocks.writeRecords bs' block k (first + 1) n (chars.drop k.size)).map fun (bs'', c2) => (bs'', c1 || c2)

/-- One record as characters. -/
def Blocks.recordChars (bs : Blocks) (block : Fin 4) (k : RecordKind) (i : Nat) : List Byte :=
  let p := match planIn block with
    | some p => bs.plan p
    | none => {}
  match k with
  | .header => p.headerChars
  | .step => ((p.steps.toList[i]?).getD {}).chars
  | .node => (bs.site.node i).chars
  | .channel => ((bs.site.channels.toList[i]?).getD {}).chars
  | .zone => ((bs.site.zones.toList[i]?).getD {}).chars
  | .cls => ((bs.site.classes.toList[i]?).getD {}).chars
  | .source => ((bs.site.sources.toList[i]?).getD {}).chars
  | .filter => ((bs.site.filter.toList[i]?).getD {}).chars
  | .site => bs.site.site.chars

/-- Consecutive records as characters (R138). -/
def Blocks.recordsChars (bs : Blocks) (block : Fin 4) (k : RecordKind) (first count : Nat) : List Byte :=
  (List.range count).flatMap fun j => bs.recordChars block k (first + j)

/-! ### The content that a stored CRC covers (R134, R143, R147; log 31) -/

/-- A plan block's content: its HEADER, then its STEP records (R134). -/
def Plan.content (p : Plan) : List Byte := p.headerChars ++ p.steps.toList.flatMap StepCfg.chars

/-- Block 3's content: its records by kind in the order of R134, by index within a kind. -/
def SiteTables.content (t : SiteTables) : List Byte :=
  t.nodes.toList.flatMap NodeCfg.chars ++ t.channels.toList.flatMap ChanCfg.chars
    ++ t.zones.toList.flatMap ZoneCfg.chars ++ t.classes.toList.flatMap ClassCfg.chars
    ++ t.sources.toList.flatMap SourceCfg.chars ++ t.filter.toList.flatMap FilterCfg.chars ++ t.site.chars

/-- A block's content as characters. -/
def Blocks.content (bs : Blocks) (b : Fin 4) : List Byte :=
  match planIn b with
  | some p => (bs.plan p).content
  | none => bs.site.content

/-- The CRC that goes with a block's content (R134, R154). -/
def Blocks.crcOf (bs : Blocks) (b : Fin 4) : BitVec 16 := crc16 (bs.content b)

/-- A trip record's fields but for its CRC, in the order of R147's table. -/
def TripRecord.fields (r : TripRecord) : List Byte :=
  u32 r.seq.toNat ++ u16 r.trip ++ u32 r.opened.toNat ++ u8None (r.cause.map Fin.val) ++ u8 r.level
    ++ yesNo r.escalated ++ u16 r.peakH ++ u8 r.outcome.code ++ u8 r.closure.code ++ u32 r.closed.toNat

/-- The record CRC that goes with a record's other fields (R147). -/
def TripRecord.crcOf (r : TripRecord) : BitVec 16 := crc16 r.fields

/-- A record with its record CRC computed (R147). -/
def TripRecord.withCrc (r : TripRecord) : TripRecord := { r with crc := r.crcOf }

/-- A set of blocks as a mask: 1 character (R182). -/
def blockMask (set : Vector Bool 4) : List Byte := u8 (maskOf set.toList)

/-- The check that goes with a protection word's set (R143, R154). -/
def protectionCrc (set : Vector Bool 4) : BitVec 16 := crc16 (blockMask set)

/-- A mask of blocks 0..3; a bit beyond them names no block (R183, log 40). -/
def readBlockSet (b : Byte) : Option (Vector Bool 4) :=
  if b.toNat < 16 then some (.ofFn fun i => b.getLsbD i.val) else none

/-! ### Requests (R182) -/

/-- A management request with its arguments as characters. -/
inductive Req where
  | readStatus
  | readChannel (channel : Byte)
  | readZone (zone : Byte)
  | readNode (address : Byte)
  | readStep (step : Byte)
  | readOutstanding
  | readWarnings
  | readTripRecord (slot : Byte)
  | readCounters (group : Byte)
  | readShadow (block kind first count : Byte)
  | writeShadow (block kind first count : Byte) (records : List Byte)
  | commit (mask : Byte)
  | setProtection (mask : Byte)
  | reloadProtection
  | authorizeRestart
  | abortRestart
  | forceTrip (level : Byte)
  | clearTriggers
  | isolateZone (zone : Byte)
  | restoreZone (zone : Byte)
  | setTime (seconds : Word32)
  | clearCounters
  | clearCause
  | resetPort (port : Byte)
  | resetPart
  deriving DecidableEq, Repr

/-- Four characters as a 32-bit count. -/
def word32Of (a b c d : Byte) : Word32 := BitVec.ofNat 32 (beNat [a, b, c, d])

/-- A 32-bit count as four characters, high byte first. -/
def word32Chars (w : Word32) : List Byte := u32 w.toNat

/-- The payload of a request: its code and arguments (R182's table). -/
def Req.payload : Req → List Byte
  | .readStatus => [0x01#8]
  | .readChannel c => [0x02#8, c]
  | .readZone z => [0x03#8, z]
  | .readNode a => [0x04#8, a]
  | .readStep i => [0x05#8, i]
  | .readOutstanding => [0x06#8]
  | .readWarnings => [0x07#8]
  | .readTripRecord i => [0x08#8, i]
  | .readCounters g => [0x09#8, g]
  | .readShadow b k f c => [0x10#8, b, k, f, c]
  | .writeShadow b k f c r => [0x11#8, b, k, f, c] ++ r
  | .commit m => [0x12#8, m]
  | .setProtection m => [0x13#8, m]
  | .reloadProtection => [0x14#8]
  | .authorizeRestart => [0x20#8]
  | .abortRestart => [0x21#8]
  | .forceTrip l => [0x22#8, l]
  | .clearTriggers => [0x23#8]
  | .isolateZone z => [0x24#8, z]
  | .restoreZone z => [0x25#8, z]
  | .setTime t => 0x30#8 :: word32Chars t
  | .clearCounters => [0x31#8]
  | .clearCause => [0x32#8]
  | .resetPort p => [0x33#8, p]
  | .resetPart => [0x34#8]

/-- The length of a WRITE_SHADOW's records agrees with its count and kind (R182). Of a kind that no record has, no
length is asked: the argument is then refused (DEDUCED, log 21). -/
def shadowLengthOk (kind count : Byte) (records : List Byte) : Bool :=
  match RecordKind.ofCode kind.toNat with
  | some k => records.length == count.toNat * k.size
  | none => true

/-- The request that a payload spells, none where its code is not in the table or its length differs from the code's
length (R183, BAD_REQUEST). -/
def parseRequest (code : Byte) (args : List Byte) : Option Req :=
  match code.toNat, args with
  | 0x01, [] => some .readStatus
  | 0x02, [c] => some (.readChannel c)
  | 0x03, [z] => some (.readZone z)
  | 0x04, [a] => some (.readNode a)
  | 0x05, [i] => some (.readStep i)
  | 0x06, [] => some .readOutstanding
  | 0x07, [] => some .readWarnings
  | 0x08, [i] => some (.readTripRecord i)
  | 0x09, [g] => some (.readCounters g)
  | 0x10, [b, k, f, c] => some (.readShadow b k f c)
  | 0x11, b :: k :: f :: c :: r => if shadowLengthOk k c r then some (.writeShadow b k f c r) else none
  | 0x12, [m] => some (.commit m)
  | 0x13, [m] => some (.setProtection m)
  | 0x14, [] => some .reloadProtection
  | 0x20, [] => some .authorizeRestart
  | 0x21, [] => some .abortRestart
  | 0x22, [l] => some (.forceTrip l)
  | 0x23, [] => some .clearTriggers
  | 0x24, [z] => some (.isolateZone z)
  | 0x25, [z] => some (.restoreZone z)
  | 0x30, [a, b, c, d] => some (.setTime (word32Of a b c d))
  | 0x31, [] => some .clearCounters
  | 0x32, [] => some .clearCause
  | 0x33, [p] => some (.resetPort p)
  | 0x34, [] => some .resetPart
  | _, _ => none

end Sys2Proof.Machine
end

