-- ==== Sys2Proof/Machine/Records.lean ====
section
/-! DEFINITION. The trip record ring image and the non-volatile write queue (07_plan_store_and_trip_records.md, sections 7.6 and 7.7). -/

namespace Sys2Proof.Machine

/-! ### The write queue (R144, R145) -/

/-- Milliseconds a write takes (R144). -/
def WriteItem.duration : WriteItem → Nat
  | .record _ => 5
  | .other (.block _) => 25
  | .other (.protection _) => 5

/-- The waiting record writes after a request: an earlier waiting write for the slot is replaced, and the new one joins
the end (R145). -/
def mergeWrite (w : RecordWrite) (l : List RecordWrite) : List RecordWrite :=
  (l.filter fun x => x.slot != w.slot) ++ [w]

/-- The block that is being written or read back, if any. -/
def PlanStore.programming (p : PlanStore) : Option (Fin 4) :=
  match p.writing with
  | some ⟨.other (.block b), _⟩ => some b
  | _ => none

/-- The queue takes up its first record write, and otherwise the first of the other items (R144). A block taken up
becomes PROGRAMMING (R141). -/
def PlanStore.takeUp (p : PlanStore) : PlanStore :=
  match p.recordWrites, p.otherWrites with
  | w :: rest, _ => { p with recordWrites := rest, writing := some ⟨.record w, (WriteItem.record w).duration⟩ }
  | [], w :: rest =>
    let p := { p with otherWrites := rest, writing := some ⟨.other w, (WriteItem.other w).duration⟩ }
    match w with
    | .block b => { p with cond := p.cond.set b .programming }
    | .protection _ => p
  | [], [] => p

/-- A record write is requested (R144, R145). A block being written is suspended at once: its item returns to the head
of the other items, the suspension is counted, and the record write is taken up. -/
def requestWrite (w : RecordWrite) (s : State) : State :=
  let p := { s.store with recordWrites := mergeWrite w s.store.recordWrites }
  match p.programming with
  | some b =>
    let p := { p with
      otherWrites := .block b :: p.otherWrites, writing := none, suspensions := bump p.suspensions }
    { s with store := p.takeUp }
  | none => { s with store := p }

/-! ### The ring image (R147 to R149) -/

/-- The record a slot holds. -/
def Slot.held : Slot → Option TripRecord
  | .record r => some r
  | .blank | .damaged => none

/-- The ring holds write sequences at both ends of the range, so that ranking wraps (R147). -/
def ringWraps (ring : Vector Slot 16) : Bool :=
  (ring.toList.filterMap Slot.held).any (fun r => r.seq.toNat < 1073741824) &&
    (ring.toList.filterMap Slot.held).any (fun r => 3221225472 ≤ r.seq.toNat)

/-- A write sequence's rank (R147). -/
def rankOf (wraps : Bool) (seq : Word32) : Nat :=
  if wraps ∧ seq.toNat < 2147483648 then seq.toNat + 4294967296 else seq.toNat

/-- The slot, among those whose record passes `p`, with the highest-ranked write sequence; of two with one sequence the
lower-numbered (R147, R149). -/
def highestSlot (p : TripRecord → Bool) (ring : Vector Slot 16) : Option (Fin 16) :=
  let wraps := ringWraps ring
  (List.finRange 16).foldl (fun best i =>
    match ring[i].held with
    | some r =>
      if p r then
        match best.bind fun j => ring[j].held with
        | some b => if rankOf wraps b.seq < rankOf wraps r.seq then some i else best
        | none => some i
      else best
    | none => best) none

/-- The lowest-numbered damaged slot of the ring image (R148). -/
def lowestDamaged (ring : Vector Slot 16) : Option (Fin 16) :=
  (List.finRange 16).find? fun i => ring[i] == .damaged

/-- The ring image holds a damaged slot. -/
def State.anyDamaged (s : State) : Bool := (lowestDamaged s.store.ring).isSome

/-- The slot after a slot, 15 followed by 0 (R148). -/
def slotAfter (i : Fin 16) : Fin 16 := i + 1

/-- The slot a new record is placed in (R148). -/
def openingSlot (ring : Vector Slot 16) : Fin 16 :=
  match lowestDamaged ring with
  | some i => i
  | none =>
    match highestSlot (fun _ => true) ring with
    | some i => slotAfter i
    | none => 0

/-- A change of a slot's record (R147): the write sequence counter advances, the record takes its value, its CRC is
computed, and its write is requested. -/
def changeRecord (i : Fin 16) (r : TripRecord) (s : State) : State :=
  let seq := s.store.writeSeq + 1
  let r := ({ r with seq := seq } : TripRecord).withCrc
  requestWrite ⟨i, r⟩ { s with store.writeSeq := seq, store.ring := s.store.ring.set i (.record r) }

/-- The current record, if there is one (R65). -/
def State.currentRecord (s : State) : Option TripRecord :=
  match s.site.record with
  | some i => s.store.ring[i].held
  | none => none

/-- A change of fields of the current record (R148, updating or closing). -/
def updateRecord (f : TripRecord → TripRecord) (s : State) : State :=
  match s.site.record, s.currentRecord with
  | some i, some r => changeRecord i (f r) s
  | _, _ => s

/-- The trip number after a trip number: 65535 and 0 are followed by 1 (R69). -/
def nextTrip (n : Nat) : Nat := if 65535 ≤ n then 1 else n + 1

/-- The largest peak h among the 32 channels (R16, R69). -/
def State.largestPeak (s : State) : Nat := s.channels.toList.foldl (fun m c => max m c.peakH) 0

/-- A trip record is opened (R69). -/
def openRecord (level : Nat) (s : State) : State :=
  let trip := nextTrip s.site.trip
  let i := openingSlot s.store.ring
  let r : TripRecord :=
    ⟨0, trip, s.mgmt.siteTime, s.site.cause, level, false, s.largestPeak, .running, .isOpen, 0, 0⟩
  changeRecord i r { s with site.trip := trip, site.record := some i }

/-- A RECOVERED record is written into the lowest-numbered damaged slot, if there is one (R77, R78). -/
def recoverSlot (s : State) : State :=
  match lowestDamaged s.store.ring with
  | some i =>
    changeRecord i ⟨0, s.site.trip, s.mgmt.siteTime, none, 2, false, 0, .incomplete, .recovered, s.mgmt.siteTime, 0⟩ s
  | none => s

end Sys2Proof.Machine
end

