-- ==== Sys2Proof/Machine/Runner.lean ====
section
/-! DEFINITION. The plan executor (05_plans_and_steps.md, 06_command_issue_and_node_readiness.md): step checks, slots, command frames, replies, state reports, settling, the start and the end of a run. What a settling hands to other blocks is returned, not acted on here. -/

namespace Sys2Proof.Machine

/-- A completion report (R107, R109). -/
structure Report where
  failed : Nat
  halted : Bool
  deriving DecidableEq, Repr

/-- What a settling hands over (R96, step 4): a rise of ESCALATION, and a completion report. -/
structure HandOver where
  escalation : Bool
  report : Option Report
  deriving DecidableEq, Repr

/-- Nothing handed over. -/
def HandOver.nothing : HandOver := ⟨false, none⟩

/-! ### Records -/

/-- DONE, ALREADY, SKIPPED, FAILED and NOT_RUN (R94). -/
def Lifecycle.terminal : Lifecycle → Bool
  | .done | .already | .skipped | .failed | .notRun => true
  | .blocked | .waitingDwell | .waitingFeed | .queued | .issued | .awaitingState | .settling => false

/-- The state an action awaits (R90). -/
def Action.awaited : Action → NodeState
  | .mark => .unknown
  | .shed => .idle
  | .park | .cut => .safe
  | .energize | .resume | .transfer => .run

/-- The plan of the run record, from the working copy (R88). -/
def State.curPlan (s : State) : Plan :=
  match s.runner.run.plan with
  | some p => s.store.work.plan p
  | none => {}

/-- A step's configuration in the running plan. -/
def State.stepCfg (s : State) (i : Fin 64) : StepCfg := s.curPlan.steps[i]

/-- A step's runtime record. -/
def State.stepAt (s : State) (i : Fin 64) : Step := s.runner.steps[i]

/-- The address of a step's target; a step without one has address 0, which is never present. -/
def StepCfg.address (c : StepCfg) : Nat := c.target.getD 0

/-- A step's runtime record replaced. -/
def setStep (i : Fin 64) (r : Step) (s : State) : State :=
  { s with runner.steps := s.runner.steps.set i r }

/-- A step's change of lifecycle state: entry time now, the given timer, failure reason none (R94). -/
def moveStep (i : Fin 64) (st : Lifecycle) (timer : Option Nat) (s : State) : State :=
  setStep i ⟨st, s.now, timer, none⟩ s

/-- A run is RUNNING. -/
def State.runIsOn (s : State) : Bool := s.runner.run.status == .running

/-! ### Entries and frames (R113 to R116) -/

/-- A step's entry in the outstanding command list, if it holds one. -/
def State.entryOf (s : State) (i : Fin 64) : Option Entry := s.runner.outstanding.find? fun e => e.step == i

/-- A step's entry removed, with its frame if that is still in the injection queue (R113). -/
def dropEntry (i : Fin 64) (s : State) : State :=
  match s.entryOf i with
  | some e =>
    { s with
      runner.outstanding := s.runner.outstanding.filter fun x => x.step != i
      runner.injection := s.runner.injection.filter fun f => f.tag != e.tag }
  | none => s

/-- The first tag from `t` on that no entry holds (R114). -/
def firstFreeTag (used : List Byte) : Nat → Byte → Byte
  | 0, t => t
  | n + 1, t => if used.contains t then firstFreeTag used n (t + 1) else t

/-- The tag the next frame takes (R114). -/
def State.nextTag (s : State) : Byte :=
  firstFreeTag (s.runner.outstanding.map Entry.tag) 256 s.runner.tagCounter

/-- The feed indication of a frame built now (R115): true for fallback. -/
def State.feedIndication (s : State) (action : Action) (target : Nat) : Bool :=
  (action == .energize || action == .resume) && (s.classOf target).fallback && !s.trig.feedStable

/-- A command frame at the tail of the injection queue, the tag counter one past its tag (R114, R115, R116). -/
def injectFrame (tag : Byte) (target : Nat) (action : Action) (s : State) : State :=
  { s with
    runner.tagCounter := tag + 1
    runner.injection := s.runner.injection ++ [⟨tag, target, action, s.feedIndication action target⟩] }

/-- A QUEUED step takes a slot: ISSUED, an entry at the end of the list, its frame queued (R103, R113). -/
def issueStep (i : Fin 64) (s : State) : State :=
  let c := s.stepCfg i
  let tag := s.nextTag
  let s := injectFrame tag c.address c.action s
  let s := { s with
    runner.outstanding := s.runner.outstanding ++ [⟨i, c.address, c.action, tag, .waitingTx, none, c.reissues⟩] }
  moveStep i .issued none s

/-- A re-issue (R121): one fewer left, a new tag in the entry's place, phase WAITING_TX, a new frame queued. -/
def reissueEntry (e : Entry) (s : State) : State :=
  let tag := s.nextTag
  let s := injectFrame tag e.target e.action s
  { s with
    runner.reissues := bump s.runner.reissues
    runner.outstanding := s.runner.outstanding.map fun x =>
      if x.step = e.step then { x with tag := tag, phase := .waitingTx, deadline := none, left := x.left - 1 } else x }

/-- The whole outstanding list retired with its frames (R130). -/
def retireAll (s : State) : State :=
  { s with
    runner.injection := s.runner.injection.filter fun f => !(s.runner.outstanding.map Entry.tag).contains f.tag
    runner.outstanding := [] }

/-! ### The checks at a dwell's expiry (R100, R101) -/

/-- The step's action needs the primary feed (R101). -/
def State.needsFeed (s : State) (c : StepCfg) : Bool :=
  c.action == .transfer || (c.action == .energize && !(s.classOf c.address).fallback)

/-- The lifecycle state that the checks of R100 decide. -/
def State.checkResult (s : State) (c : StepCfg) : Lifecycle :=
  if c.action = .mark then .done
  else if !(s.nodeCfg c.address).present || s.nodeIsolated c.address then .skipped
  else if (s.nodeRt c.address).reported = c.action.awaited then .already
  else if s.needsFeed c && !s.trig.feedStable then .waitingFeed
  else .queued

/-- A step's checks at the expiry of its dwell (R100). -/
def runChecks (i : Fin 64) (s : State) : State := moveStep i (s.checkResult (s.stepCfg i)) none s

/-- A step enters WAITING_DWELL; a dwell of 0 runs its checks at once (R97, R99). -/
def enterDwell (i : Fin 64) (s : State) : State :=
  let d := (s.stepCfg i).dwell
  let s := moveStep i .waitingDwell (some d) s
  if d = 0 then runChecks i s else s

/-! ### Prerequisites (R97, R98) -/

/-- A prerequisite is satisfied (R97). -/
def State.satisfied (s : State) (p : Fin 64) : Bool :=
  match (s.stepAt p).state with
  | .done | .already | .skipped => true
  | .failed => (s.stepCfg p).policy == .proceed || (s.stepCfg p).policy == .escalate
  | _ => false

/-- A prerequisite is unsatisfiable (R98). -/
def State.unsatisfiable (s : State) (p : Fin 64) : Bool :=
  match (s.stepAt p).state with
  | .notRun => true
  | .failed => (s.stepCfg p).policy == .prune
  | _ => false

/-- The examination of a BLOCKED step (R97, R98). -/
def examine (i : Fin 64) (s : State) : State :=
  let pre := (s.stepCfg i).prereqs
  if pre.any s.unsatisfiable then moveStep i .notRun none s
  else if pre.all s.satisfied then enterDwell i s
  else s

/-- One place of the pass that follows the consequences (R96, step 1): the step is examined when it is BLOCKED and one
of its prerequisites has just become terminal (or it has none), and joins the list when it becomes terminal itself. -/
def followAt (acc : State × List (Fin 64)) (i : Fin 64) : State × List (Fin 64) :=
  let (s, just) := acc
  let pre := (s.stepCfg i).prereqs
  if (s.stepAt i).state = .blocked ∧ (pre.isEmpty || pre.any just.contains) then
    let s := examine i s
    (s, if (s.stepAt i).state.terminal then i :: just else just)
  else (s, just)

/-- The consequences of the steps that have just become terminal (R96, step 1). Prerequisites have lower ids (R91), so
one pass in ascending id reaches the end of every chain (log 35). -/
def follow (just : List (Fin 64)) (s : State) : State := ((List.finRange 64).foldl followAt (s, just)).1

/-! ### Settling (R96, R103, R105 to R109) -/

/-- The lowest step of a list for which `p` holds. -/
def lowest (p : Fin 64 → Bool) (l : List (Fin 64)) : Option (Fin 64) :=
  (List.finRange 64).find? fun i => l.contains i && p i

/-- The step is QUEUED. -/
def State.isQueued (s : State) (i : Fin 64) : Bool := (s.stepAt i).state == .queued

/-- The QUEUED steps in the order in which they became QUEUED: those that earlier events left, then those of this event
in ascending id (R103; log 41). -/
def State.waiting (s : State) : List (Fin 64) :=
  s.runner.queued.filter s.isQueued ++
    (List.finRange 64).filter fun i => s.isQueued i && !s.runner.queued.contains i

/-- The step that takes a free slot: of the QUEUED steps the one of lowest id (R96, step 2; R103, first paragraph), and
where another became QUEUED in an earlier event one of the two (R103, second paragraph; log 41). -/
def chooseQueued (waiting : List (Fin 64)) (s : State) : Option (Fin 64 × State) :=
  match waiting, lowest (fun _ => true) waiting with
  | oldest :: _, some low =>
    if oldest = low then some (low, s)
    else
      let (lowFirst, s) := drawSlot s
      some (if lowFirst then low else oldest, s)
  | _, _ => none

/-- The steps that go on waiting for a slot. -/
def keepWaiting (waiting : List (Fin 64)) (s : State) : State := { s with runner.queued := waiting }

/-- Free slots granted one after another, at most `n` of them (R103). -/
def grantTo : Nat → List (Fin 64) → State → State
  | 0, waiting, s => keepWaiting waiting s
  | n + 1, waiting, s =>
    if s.runner.outstanding.length < s.runner.run.slotLimit then
      match chooseQueued waiting s with
      | some (i, s) => grantTo n (waiting.filter (· != i)) (issueStep i s)
      | none => keepWaiting waiting s
    else keepWaiting waiting s

/-- The slot grant of a settling (R96, step 2; R103). -/
def grantSlots (s : State) : State := grantTo s.waiting.length s.waiting s

/-- Every step of the plan is terminal (R96, step 3). -/
def State.allTerminal (s : State) : Bool :=
  (List.finRange 64).all fun i => s.runner.run.stepCount ≤ i.val || (s.stepAt i).state.terminal

/-- Every non-terminal step becomes NOT_RUN (R107, R110). -/
def stopSteps (s : State) : State :=
  { s with
    runner.steps := s.runner.steps.map fun r => if r.state.terminal then r else ⟨.notRun, s.now, none, none⟩
    runner.queued := [] }

/-- The end of the run record with a status (R107, R109, R110). -/
def endRun (st : RunStatus) (s : State) : State :=
  { s with runner.run.status := st, runner.run.finish := some s.now }

/-- A step that failed in this event, with this policy. -/
def State.failedWith (s : State) (p : Policy) (i : Fin 64) : Bool :=
  (s.stepAt i).state == .failed && (s.stepCfg i).policy == p

/-- An ESCALATE failure of the L1 plan is among these steps (R108). -/
def State.escalates (s : State) (l : List (Fin 64)) : Bool :=
  s.runner.run.plan == some .l1 && l.any (s.failedWith .escalate)

/-- The settling of an event in which the steps of `just` became terminal (R96): consequences, slot grant, completion;
or, where one of them FAILED with HALT, the consequences of the steps before it and the halt (R105, R107). -/
def settle (just : List (Fin 64)) (s : State) : State × HandOver :=
  if s.runIsOn then
    match lowest (s.failedWith .halt) just with
    | some h =>
      let before := just.filter fun i => i < h
      let esc := s.escalates before
      let s := endRun .halted (retireAll (stopSteps (follow before s)))
      (s, ⟨esc, some ⟨s.runner.run.failed, true⟩⟩)
    | none =>
      let esc := s.escalates just
      let s := grantSlots (follow just s)
      if s.allTerminal then
        let s := endRun .complete s
        (s, ⟨esc, some ⟨s.runner.run.failed, false⟩⟩)
      else (s, ⟨esc, none⟩)
  else (s, .nothing)

/-! ### Start and abandonment (R95, R110) -/

/-- The running plan is abandoned: non-terminal steps NOT_RUN, entries retired, no report (R110). -/
def abandonRun (s : State) : State :=
  if s.runIsOn then endRun .abandoned (retireAll (stopSteps s)) else s

/-- A step's first runtime record in a run of `count` steps (R95, steps 2 and 3). A step outside the plan that was
already NOT_RUN does not change state, so it keeps its entry time (R94). -/
def firstStep (now : Time) (count i : Nat) (old : Step) : Step :=
  if i < count then ⟨.blocked, now, none, none⟩
  else ⟨.notRun, if old.state = .notRun then old.entry else now, none, none⟩

/-- The run record and the steps' first states at a plan start (R95, steps 1 to 3). -/
def setUpRun (p : PlanId) (s : State) : State :=
  let plan := s.store.work.plan p
  { s with
    runner.run := ⟨some p, .running, plan.stepCount, plan.slotLimit, s.now, none, 0, false⟩
    runner.steps := .ofFn fun i => firstStep s.now plan.stepCount i.val s.runner.steps[i]
    runner.queued := [] }

/-- A plan start (R95). No step can fail in its settling, so the report alone is handed on. -/
def startPlan (p : PlanId) (s : State) : State × Option Report :=
  let (s, ho) := settle [] (setUpRun p (abandonRun s))
  (s, ho.report)

/-! ### Results of commands (R105, R119 to R126) -/

/-- A step becomes FAILED and is counted; its entry, if it holds one, is removed (R105). -/
def failStep (i : Fin 64) (why : FailReason) (s : State) : State :=
  let s := dropEntry i s
  { setStep i ⟨.failed, s.now, none, some why⟩ s with runner.run.failed := s.runner.run.failed + 1 }

/-- The awaited state was reported: SETTLING where a settle dwell applies, else DONE (R119, R124). The list gives the
step if it became terminal. -/
def completeStep (i : Fin 64) (s : State) : State × List (Fin 64) :=
  let c := s.stepCfg i
  let dwell := (s.classOf c.address).settleDwell
  let s := dropEntry i s
  if c.action.awaited = .run ∧ 0 < dwell then (moveStep i .settling (some dwell) s, [])
  else (moveStep i .done none s, [i])

/-- The command was acknowledged: AWAITING_STATE with the class's ready or park timeout (R119). -/
def awaitStep (i : Fin 64) (s : State) : State :=
  let c := s.stepCfg i
  let k := s.classOf c.address
  moveStep i .awaitingState (some (if c.action.awaited = .run then k.readyTimeout else k.parkTimeout)) (dropEntry i s)

/-- One transmission of an entry's command has ended without success: a re-issue, or the step fails (R121). -/
def retryOrFail (e : Entry) (why : FailReason) (s : State) : State × List (Fin 64) :=
  if 0 < e.left then (reissueEntry e s, []) else (failStep e.step why s, [e.step])

/-- A reply matched to an entry, by its node state and then its result (R119). -/
def matchedReply (e : Entry) (st : NodeState) (result : Byte) (s : State) : State × List (Fin 64) :=
  let awaited := (s.stepCfg e.step).action.awaited
  if st = .fault then (failStep e.step .fault s, [e.step])
  else if st = awaited then completeStep e.step s
  else if result.toNat = 0 then (awaitStep e.step s, [])
  else if result.toNat = 2 then retryOrFail e .busy s
  else (failStep e.step .refused s, [e.step])

/-- A state report's effect on one step that targets the reporting node (R123, R124). -/
def reportToStep (st : NodeState) (i : Fin 64) (s : State) : State × List (Fin 64) :=
  let awaited := (s.stepCfg i).action.awaited
  match (s.stepAt i).state with
  | .issued | .awaitingState =>
    if st = .fault then (failStep i .fault s, [i])
    else if st = awaited then completeStep i s
    else (s, [])
  | .settling =>
    if st = .run then (s, [])
    else if st = .fault then (failStep i .fault s, [i])
    else (failStep i .settleLost s, [i])
  | _ => (s, [])

/-- One place of the pass of a state report over the steps in ascending id. -/
def reportAt (node : Nat) (st : NodeState) (but : Option (Fin 64)) (acc : State × List (Fin 64)) (i : Fin 64) :
    State × List (Fin 64) :=
  let (s, just) := acc
  if s.runIsOn ∧ but ≠ some i ∧ (s.stepCfg i).target = some node then
    let (s, more) := reportToStep st i s
    (s, just ++ more)
  else (s, just)

/-- A state report from a node, on every step that targets it but one (R123, R124). -/
def stateReport (node : Nat) (st : NodeState) (but : Option (Fin 64)) (s : State) (just : List (Fin 64)) :
    State × List (Fin 64) :=
  (List.finRange 64).foldl (reportAt node st but) (s, just)

/-- The entry that a reply matches (R118). -/
def State.matchOf (s : State) (src tag : Byte) : Option Entry :=
  s.runner.outstanding.find? fun e => e.target == src.toNat && e.tag == tag && e.phase == .waitingReply

/-- A reply addressed to the part: matched or stray, then a state report where its source is present, then the settling
(R118 to R124). -/
def takeReply (src tag result : Byte) (st : NodeState) (s : State) : State × HandOver :=
  let present := (s.nodeCfg src.toNat).present
  let (s, just, but) :=
    match s.matchOf src tag with
    | some e => let (s, just) := matchedReply e st result s; (s, just, some e.step)
    | none => ({ s with runner.strays := bump s.runner.strays }, [], none)
  let (s, just) := if present then stateReport src.toNat st but s just else (s, just)
  settle just s

/-- A state report from a present node, with its settling (R123, R124). -/
def takeReport (src : Byte) (st : NodeState) (s : State) : State × HandOver :=
  let (s, just) := stateReport src.toNat st none s []
  settle just s

/-- A rise of feed_stable on one step (R102): checks 3 and 5. -/
def releaseAt (acc : State × List (Fin 64)) (i : Fin 64) : State × List (Fin 64) :=
  let (s, just) := acc
  if s.runIsOn ∧ (s.stepAt i).state = .waitingFeed then
    let c := s.stepCfg i
    if (s.nodeRt c.address).reported = c.action.awaited then (moveStep i .already none s, just ++ [i])
    else (moveStep i .queued none s, just)
  else (s, just)

/-- A rise of feed_stable handed to the executor (R102). -/
def takeFeedRise (s : State) : State × HandOver :=
  let (s, just) := (List.finRange 64).foldl releaseAt (s, [])
  settle just s

/-- The transmission end of an injected frame (R117). -/
def commandSent (tag : Byte) (s : State) : State :=
  { s with
    runner.commandsSent := bump s.runner.commandsSent
    runner.outstanding := s.runner.outstanding.map fun e =>
      if e.tag = tag ∧ e.phase = .waitingTx then
        { e with phase := .waitingReply, deadline := some (s.stepCfg e.step).deadline }
      else e }

/-! ### The executor's timers -/

/-- The step waits in this state and its timer has run out. -/
def State.stepDue (s : State) (st : Lifecycle) (i : Fin 64) : Bool :=
  s.runIsOn && (s.stepAt i).state == st && (s.stepAt i).timer == some 0

/-- The step's entry waits for a reply and its deadline has run out (R121). -/
def State.deadlineDue (s : State) (i : Fin 64) : Bool :=
  match s.entryOf i with
  | some e => s.runIsOn && e.phase == .waitingReply && e.deadline == some 0
  | none => false

/-- A dwell's expiry (R99, R100). -/
def dwellExpired (i : Fin 64) (s : State) : State × HandOver :=
  let s := runChecks i s
  settle (if (s.stepAt i).state.terminal then [i] else []) s

/-- A reply deadline's expiry (R121). -/
def deadlineExpired (i : Fin 64) (s : State) : State × HandOver :=
  match s.entryOf i with
  | some e => let (s, just) := retryOrFail e .noReply s; settle just s
  | none => (s, .nothing)

/-- The AWAITING_STATE timer's expiry (R125). -/
def readyExpired (i : Fin 64) (s : State) : State × HandOver := settle [i] (failStep i .notReady s)

/-- The SETTLING timer's expiry (R126). -/
def settleExpired (i : Fin 64) (s : State) : State × HandOver := settle [i] (moveStep i .done none s)

end Sys2Proof.Machine
end

