-- ==== Sys2Proof/Machine/Site.lean ====
section
/-! DEFINITION. The site state controller (04_site_state.md): notices, trips, escalation, the end of a shutdown and of a restart. Plans start before the state is set and report after the notice, in the order of each rule. -/

namespace Sys2Proof.Machine

/-! ### ALERT_OUT and notices -/

/-- ALERT_OUT formed afresh (R63). -/
def formAlert (s : State) : State :=
  { s with trig.alertOut :=
      s.anyChannelActive || s.anyVote || s.anyWarning s.params.classAlert || s.site.state == .shutting }

/-- A notice's frame (R85, R176, R182). `closed` is the record that the transition closed and left without a current record,
if it did (DEDUCED, log 42). -/
def noticeFrame (s : State) (closed : Option TripRecord) : Frame :=
  let r := match closed with
    | some r => some r
    | none => s.currentRecord
  ⟨s.supAddress, s.ownAddress, kindNotice, 0,
    u8 s.site.state.code ++ u8 s.site.level ++ u8None (s.site.hold.map HoldReason.code)
      ++ u8None ((r.bind TripRecord.cause).map Fin.val) ++ u16 s.site.trip
      ++ u8None (r.map fun r => r.outcome.code)⟩

/-- A notice is raised: it fills the notice slot, and one not yet sent is replaced and counted (R85, R176). -/
def raiseNotice (closed : Option TripRecord) (s : State) : State :=
  { s with
    router.notice := some (noticeFrame s closed)
    router.count.noticesReplaced :=
      if s.router.notice.isSome then bump s.router.count.noticesReplaced else s.router.count.noticesReplaced }

/-- The site state, level and hold reason are set, and the trigger unit forms ALERT_OUT (R63, R86). -/
def setSite (st : SiteState) (level : Nat) (hold : Option HoldReason) (s : State) : State :=
  formAlert { s with site.state := st, site.level := level, site.hold := hold }

/-! ### The end of a shutdown (R75) -/

/-- The running shutdown plan has completed or halted (R75). -/
def shutdownEnded (r : Report) (s : State) : State :=
  let complete := r.failed = 0 ∧ r.halted = false
  let s := updateRecord (fun x => { x with outcome := if complete then .complete else .incomplete }) s
  raiseNotice none
    (setSite .safeHold s.site.level (some (if complete then .shutdownComplete else .shutdownIncomplete)) s)

/-! ### Trips (R70 to R72, R81) -/

/-- The shutdown plan of a level (R70). -/
def shutdownPlan (level : Nat) : PlanId := if level = 2 then .l2 else .l1

/-- TRIP-pending is set where the L2 plan starts (R74). -/
def markTripPending (level : Nat) (s : State) : State :=
  if level = 2 then { s with site.tripPending := true } else s

/-- A shutdown plan starts and the site enters SHUTTING; a plan complete at its start ends in the same event (R70 to
R72, R81). -/
def enterShutting (level : Nat) (s : State) : State :=
  let (s, report) := startPlan (shutdownPlan level) s
  let s := raiseNotice none (markTripPending level (setSite .shutting level none s))
  match report with
  | some r => shutdownEnded r s
  | none => s

/-- A trip from ARMED (R70). -/
def tripSite (level : Nat) (s : State) : State := enterShutting level (openRecord level s)

/-- The current record becomes level 2, escalated, its outcome RUNNING (R71, R72). -/
def escalateRecord (s : State) : State :=
  updateRecord (fun x => { x with level := 2, escalated := true, outcome := .running }) s

/-- An escalation from SHUTTING(1) (R71). -/
def escalate (s : State) : State := enterShutting 2 (escalateRecord (abandonRun s))

/-- A fast shutdown from a level-1 hold (R72). -/
def fastFromHold (s : State) : State := enterShutting 2 (escalateRecord s)

/-- The current record closed with a closure and site time (R79, R81). -/
def closeRecord (c : Closure) (s : State) : State :=
  updateRecord (fun x => { x with closure := c, closed := s.mgmt.siteTime }) s

/-- A restart aborted by a rise of the request level (R81). -/
def abortByRise (level : Nat) (s : State) : State :=
  enterShutting level (openRecord level (closeRecord .superseded (abandonRun s)))

/-- A rise of the request level, by the site state (R73). -/
def takeRise (level : Nat) (s : State) : State :=
  match s.site.state with
  | .unconfigured => s
  | .armed => tripSite level s
  | .shutting => if s.site.level = 1 ∧ level = 2 then escalate s else s
  | .safeHold => if s.site.level = 1 ∧ level = 2 then fastFromHold s else s
  | .restarting => abortByRise level s

/-- A hand-over of the request level and cause: copied, and a rise acted on (R65, R73). -/
def takeRequest (level : Nat) (cause : Option (Fin 24)) (s : State) : State :=
  let old := s.site.requestLevel
  let s := { s with site.requestLevel := level, site.cause := cause }
  if old < level then takeRise level s else s

/-! ### Entering ARMED and the end of a restart (R66 to R68, R79, R80) -/

/-- The site enters ARMED, and trips at once where the copy of the request level is not 0 (R68). Its notice comes before
the trip's (log 42). -/
def enterArmed (closed : Option TripRecord) (s : State) : State :=
  let s := setSite .armed 0 none { s with site.record := none }
  let s := raiseNotice closed s
  if 0 < s.site.requestLevel then tripSite s.site.requestLevel s else s

/-- The closure of a completed restart with this many failed steps (R79). -/
def restartClosure (failed : Nat) : Closure := if failed = 0 then .restarted else .restartedPartial

/-- A completed restart leaves no current record, and marks a restart with failed steps (R65, R79). -/
def leaveRecord (failed : Nat) (s : State) : State :=
  { s with site.record := none, site.restartIncomplete := s.site.restartIncomplete || 0 < failed }

/-- The restart plan has completed without a HALT (R79). -/
def restartCompleted (failed : Nat) (s : State) : State :=
  let s := closeRecord (restartClosure failed) s
  let closed := s.currentRecord
  let s := leaveRecord failed s
  if s.anyDamaged then raiseNotice closed (setSite .safeHold 2 (some .recordDamaged) s)
  else enterArmed closed s

/-- The restart plan has ended by HALT (R80). -/
def restartHalted (s : State) : State :=
  raiseNotice none (setSite .safeHold s.site.level (some .restartHalted) s)

/-- A completion report from the executor (R75, R79, R80). -/
def takeCompletion (r : Report) (s : State) : State :=
  match s.site.state with
  | .shutting => shutdownEnded r s
  | .restarting => if r.halted then restartHalted s else restartCompleted r.failed s
  | .unconfigured | .armed | .safeHold => s

/-- The second, third and fourth checks of R66, on the ring image as it stands (R66, R67). -/
def enterByRing (s : State) : State :=
  if s.anyDamaged then raiseNotice none (setSite .safeHold 2 (some .recordDamaged) s)
  else match highestSlot (fun r => r.closure == .isOpen) s.store.ring with
    | some i =>
      match s.store.ring[i].held with
      | some r => raiseNotice none (setSite .safeHold r.level (some .powerOnOpen) s)
      | none => s
    | none => enterArmed none s

end Sys2Proof.Machine
end

