-- ==== Sys2Proof/Machine/Flags.lean ====
section
/-! DEFINITION. The trigger unit's flags, request level, cause, quiet timer, active condition, feed and REMOTE conditions (03_trigger_sources_and_site_inputs.md), and the taking of the executor's hand-overs (R96). -/

namespace Sys2Proof.Machine

/-! ### The sources (R45) -/

/-- FORCED, index 0. -/
def srcForced : Fin 24 := 0

/-- ESCALATION, index 1. -/
def srcEscalation : Fin 24 := 1

/-- CONTACT0..3, indices 2..5. -/
def srcContact (i : Fin 4) : Fin 24 := ⟨2 + i.val, by omega⟩

/-- ZONE_STRONG0..7, indices 6..13. -/
def srcStrong (z : Fin 8) : Fin 24 := ⟨6 + z.val, by omega⟩

/-- REMOTE_SEVERE, index 14. -/
def srcSevere : Fin 24 := 14

/-- REMOTE_MODERATE, index 15. -/
def srcModerate : Fin 24 := 15

/-- ZONE_ONSET0..7, indices 16..23. -/
def srcOnset (z : Fin 8) : Fin 24 := ⟨16 + z.val, by omega⟩

/-- A source's level: FORCED's is held by the trigger unit, ESCALATION's is 2, the others' are configured (R45). -/
def State.sourceLevel (s : State) (i : Fin 24) : Nat :=
  if i = srcForced then s.trig.forcedLevel
  else if i = srcEscalation then 2
  else s.tables.sources[i].level

/-- The source's flag is set and the source is enabled. -/
def State.requesting (s : State) (i : Fin 24) : Bool := s.trig.flags[i] && s.tables.sources[i].enabled

/-- The request level (R47). -/
def State.requestLevelNow (s : State) : Nat :=
  (List.finRange 24).foldl (fun m i => if s.requesting i then max m (s.sourceLevel i) else m) 0

/-- The cause (R47). -/
def State.causeNow (s : State) : Option (Fin 24) :=
  if s.requestLevelNow = 0 then none
  else (List.finRange 24).find? fun i => s.requesting i && s.sourceLevel i == s.requestLevelNow

/-- The request level and cause formed afresh and handed on if changed; a rise to 2 asserts TRIP_OUT (R47, R64). -/
def formRequest (s : State) : State :=
  let level := s.requestLevelNow
  let cause := s.causeNow
  if level = s.trig.requestLevel ∧ cause = s.trig.cause then s
  else
    let rises := s.trig.requestLevel < 2 ∧ level = 2
    takeRequest level cause { s with
      trig.requestLevel := level, trig.cause := cause
      trig.tripOut := if rises then true else s.trig.tripOut }

/-- The quiet timer is loaded (R62). -/
def reloadQuiet (s : State) : State :=
  { s with trig.quiet := some (s.params.q * 1000), trig.quietElapsed := false }

/-- A condition's rise without the forming of the request: a clear flag is set and the quiet timer reloaded (R46). -/
def setFlag (i : Fin 24) (s : State) : State :=
  if s.trig.flags[i] then s else reloadQuiet { s with trig.flags := s.trig.flags.set i true }

/-- The rise of a source's condition (R46). -/
def latch (i : Fin 24) (s : State) : State :=
  if s.trig.flags[i] then s else formRequest (setFlag i s)

/-- Flags cleared, and the request formed afresh (R49). -/
def clearFlags (which : Fin 24 → Bool) (s : State) : State :=
  formRequest { s with trig.flags := .ofFn fun i => s.trig.flags[i] && !which i }

/-! ### Active condition (R52) -/

/-- One of TRIP_IN0..3 is debounced active. -/
def State.anyContact (s : State) : Bool := (List.finRange 4).any fun i => s.trig.inputs[i.castSucc].active

/-- An active condition is present (R52). -/
def State.activeCondition (s : State) : Bool :=
  s.anyContact || s.anyWarning s.params.classL1 || s.anyVote || s.anyChannelActive

/-! ### The executor's hand-overs (R96) -/

/-- A rise of ESCALATION and a completion report in one settling, the rise first: the report is made only where the
rise did not abandon the run that makes it (R71, R108). -/
def riseThenReport (r : Report) (s : State) : State :=
  let s := latch srcEscalation s
  if s.site.state = .shutting ∧ s.site.level = 1 then takeCompletion r s else s

/-- What a settling handed over is taken (R96, step 4); a rise and a report are taken in either order (log 4). Where the
report comes first, the rise follows in the same event, before an activation that the report's entry to SAFE_HOLD makes
due: a rise that starts the L2 plan starts it from the old working copies, and the activation waits for the next state at
rest (R84, R142; DESIGN CHOICE, log 44). -/
def takeHandOver (ho : HandOver) (s : State) : State :=
  match ho.escalation, ho.report with
  | false, none => s
  | false, some r => takeCompletion r s
  | true, none => latch srcEscalation s
  | true, some r =>
    let (riseFirst, s) := drawOrder s
    if riseFirst then riseThenReport r s else latch srcEscalation (takeCompletion r s)

/-- An event of the executor with the taking of what its settling hands over. -/
def runEvent (f : State → State × HandOver) (s : State) : State :=
  let (s, ho) := f s
  takeHandOver ho s

/-! ### Warnings (R57 to R60) -/

/-- The REMOTE conditions formed afresh, both flags latched before the request is formed once (R60), and ALERT_OUT. -/
def formRemote (s : State) : State :=
  let severe := s.anyWarning s.params.classL2
  let moderate := s.anyWarning s.params.classL1
  let riseS := severe && !s.trig.remoteSevere
  let riseM := moderate && !s.trig.remoteModerate
  let s := { s with trig.remoteSevere := severe, trig.remoteModerate := moderate }
  let s := if riseS then setFlag srcSevere s else s
  let s := if riseM then setFlag srcModerate s else s
  formAlert (if riseS || riseM then formRequest s else s)

/-- A warning record placed in a slot. -/
def putWarning (i : Fin 4) (w : Option Warning) (s : State) : State :=
  { s with trig.warnings := s.trig.warnings.set i w }

/-- The slot of the live record with this event id (R58). -/
def State.warningSlot (s : State) (event : Nat) : Option (Fin 4) :=
  (List.finRange 4).find? fun i =>
    match s.trig.warnings[i] with
    | some w => w.event == event
    | none => false

/-- The lowest-numbered free slot (R59). -/
def State.freeWarningSlot (s : State) : Option (Fin 4) :=
  (List.finRange 4).find? fun i => s.trig.warnings[i].isNone

/-- The live record with the lowest class, and among those the earliest arrival (R59), with its slot. Arrivals are
compared by the time since them (modulo 4294967296, 00_scope.md); of two alike a free value decides (DESIGN CHOICE,
log 48). -/
def State.weakestWarning (s : State) : Option (Fin 4 × Warning) :=
  (List.finRange 4).foldl (fun best i =>
    match s.trig.warnings[i], best with
    | some w, some (j, b) =>
      if w.cls < b.cls ∨ (w.cls = b.cls ∧ (msSince s.now b.arrival < msSince s.now w.arrival ∨
          (w.arrival = b.arrival ∧ Config.tiedSlotIsReplaced s.freeIndex i = true))) then some (i, w)
      else some (j, b)
    | some w, none => some (i, w)
    | none, best => best) none

/-- A new record's effect on the quiet timer (R59, R62). -/
def reloadIfAlert (cls : Nat) (s : State) : State := if s.params.classAlert ≤ cls then reloadQuiet s else s

/-- A clamped WARNING frame taken into the table (R58, R59). A replacement moves the free index on (log 48). -/
def takeWarning (w : Warning) (s : State) : State :=
  match s.warningSlot w.event with
  | some i =>
    let old := match s.trig.warnings[i] with
      | some o => o.cls
      | none => 0
    let s := putWarning i (some w) s
    formRemote (if old < w.cls ∧ s.params.classAlert ≤ w.cls then reloadQuiet s else s)
  | none =>
    match s.freeWarningSlot with
    | some i => formRemote (reloadIfAlert w.cls (putWarning i (some w) s))
    | none =>
      match s.weakestWarning with
      | some (i, b) =>
        if b.cls ≤ w.cls then
          formRemote (reloadIfAlert w.cls (putWarning i (some w) { s with freeIndex := s.freeIndex + 1 }))
        else { s with trig.warningsDropped := bump s.trig.warningsDropped }
      | none => s

/-- A WARNING frame's payload as the record it makes, its fields clamped (R57, R158). -/
def readWarning (now : Time) : List Byte → Option Warning
  | [e1, e0, c, l1, l0, v1, v0] =>
    some ⟨beNat [e1, e0], clampNat 0 9 c.toNat, clampNat 0 600 (beNat [l1, l0]), now,
      laterBy now (clampNat 1 600 (beNat [v1, v0]) * 1000)⟩
  | _ => none

/-- A WARNING frame handed to the trigger unit, judged by its source's kind (R57). -/
def warningFrame (src : Byte) (payload : List Byte) (s : State) : State :=
  let c := s.nodeCfg src.toNat
  if c.present ∧ c.kind = .gateway then
    match readWarning s.now payload with
    | some w => takeWarning w s
    | none => s
  else { s with trig.warningsIgnored := bump s.trig.warningsIgnored }

/-- A live record in the slot has reached its expiry time (R60). -/
def State.warningDue (s : State) (i : Fin 4) : Bool :=
  match s.trig.warnings[i] with
  | some w => reached s.now w.expiry
  | none => false

/-- The removal of an expired record (R60). -/
def warningExpired (i : Fin 4) (s : State) : State := formRemote (putWarning i none s)

/-! ### Inputs (R53 to R56) -/

/-- The raw level of input i, from its pin (R53): TRIP_IN0..3 by its polarity, UTILITY_OK active high. -/
def State.rawActive (s : State) (i : Fin 5) : Bool :=
  if h : i.val < 4 then s.pins.trip[i.val] == (s.tables.sources[srcContact ⟨i.val, h⟩].polarity == .high)
  else s.pins.utility

/-- A debouncer after one sample of its raw level, with debounce count `n` (R53). The count stops at 255, the end of its
range. -/
def Debouncer.sample (d : Debouncer) (raw : Bool) (n : Nat) : Debouncer :=
  if raw = d.active then { d with count := 0, due := false }
  else { d with count := min (d.count + 1) 255, due := n ≤ min (d.count + 1) 255 }

/-- One sample of an input (R53). -/
def sampleInput (i : Fin 5) (s : State) : State :=
  { s with trig.inputs := s.trig.inputs.set i (s.trig.inputs[i].sample (s.rawActive i) s.params.debounce[i]) }

/-- The count has reached N at the last sample, so the debounced level changes (R53). -/
def State.inputDue (s : State) (i : Fin 5) : Bool := s.trig.inputs[i].due

/-- The debounced level takes the raw level, which differs from it, and the count becomes 0 (R53). -/
def flipInput (i : Fin 5) (s : State) : State :=
  { s with trig.inputs := s.trig.inputs.set i ⟨!s.trig.inputs[i].active, 0, false⟩ }

/-- A rise of feed_stable, handed to the executor (R56, R102). -/
def feedRises (s : State) : State :=
  runEvent takeFeedRise { s with trig.feedStable := true, trig.feedStart := none }

/-- The debounced level of UTILITY_OK changes (R55). -/
def utilityChanged (s : State) : State :=
  let s := flipInput 4 s
  if s.trig.inputs[4].active then
    let s := { s with trig.feedStart := some s.now }
    if s.params.feedDwell = 0 then feedRises s else s
  else { s with trig.feedStable := false, trig.feedStart := none }

/-- The feed dwell has ended with UTILITY_OK debounced active (R55). -/
def State.feedDue (s : State) : Bool :=
  match s.trig.feedStart with
  | some t => s.trig.inputs[4].active && s.params.feedDwell * 1000 ≤ msSince s.now t
  | none => false

end Sys2Proof.Machine
end

