-- ==== Sys2Proof/Machine/Voter.lean ====
section
/-! DEFINITION. The zone voter (02_zone_voting.md): stamps, counts, votes, conditions, and the hand-off of votes to the trigger unit. -/

namespace Sys2Proof.Machine

/-- A change of a channel's state or seeded field that the detector hands over (R23). -/
structure Change where
  channel : Fin 32
  state : ChanState
  seeded : Bool
  deriving DecidableEq, Repr

/-- A member's image and stamps after a change taken at `now`, in a zone with window `w` (R32, R33). -/
def Member.take (m : Member) (c : Change) (now : Time) (w : Nat) : Member :=
  let stamp := some (laterBy now w)
  let m' := { m with state := c.state, seeded := c.seeded }
  match m.state, c.state with
  | _, .onset => { m' with onsetUntil := none }
  | _, .strong => { m' with onsetUntil := none, strongUntil := none }
  | _, .stale | _, .off => { m' with onsetUntil := none, strongUntil := none }
  | .onset, .quiet | .onset, .priming => { m' with onsetUntil := stamp }
  | .strong, .quiet | .strong, .priming => { m' with onsetUntil := stamp, strongUntil := stamp }
  | _, _ => m'

/-- Onset-active (R35). -/
def Member.onsetActive (m : Member) : Bool := m.state == .onset || m.state == .strong || m.onsetUntil.isSome

/-- Strong-active (R35). -/
def Member.strongActive (m : Member) : Bool := m.state == .strong || m.strongUntil.isSome

/-- Able to report onset (R36). -/
def Member.capableOn (m : Member) : Bool := m.state == .quiet || m.state == .onset || m.state == .strong

/-- Able to report strong motion (R36). -/
def Member.capableStrong (m : Member) : Bool := m.capableOn || (m.state == .priming && m.seeded)

/-- The results of an evaluation (R35, R36). -/
structure Counts where
  onsetActive : Nat
  strongActive : Nat
  capableOn : Nat
  capableStrong : Nat
  kEffOn : Nat
  kEffStrong : Nat
  deriving DecidableEq, Repr

/-- An effective threshold (R36). -/
def effective (d : Degrade) (k capable : Nat) : Nat :=
  if d = .lower ∧ 1 ≤ capable then min k capable else k

/-- The counts and thresholds of a zone with these members (R35, R36). -/
def countsOf (cfg : ZoneCfg) (members : List Member) : Counts :=
  let on := members.countP Member.capableOn
  let st := members.countP Member.capableStrong
  ⟨members.countP Member.onsetActive, members.countP Member.strongActive, on, st,
    effective cfg.degrade cfg.kOn on, effective cfg.degrade cfg.kStrong st⟩

/-- One vote (R37). -/
def voteOf (cfg : ZoneCfg) (isolated : Bool) (active capable k kEff : Nat) : Bool :=
  kEff ≤ active && 1 ≤ capable && (cfg.degrade == .lower || k ≤ capable) && !isolated && !cfg.members.isEmpty

/-- A zone's condition (R38). -/
def conditionOf (kOn capableOn : Nat) : Condition :=
  if capableOn = 0 then .blind else if kOn ≤ capableOn then .normal else .degraded

/-- The member images of a zone, in list order. -/
def State.zoneMembers (s : State) (z : Fin 8) : List Member :=
  s.tables.zones[z].members.map fun c => s.voter.members[c]

/-- The counts of a zone as it stands (R35, R36; R44). -/
def State.zoneCounts (s : State) (z : Fin 8) : Counts := countsOf s.tables.zones[z] (s.zoneMembers z)

/-- The zone's runtime state after an evaluation (R37, R38). -/
def State.zoneEvaluated (s : State) (z : Fin 8) : Zone :=
  let cfg := s.tables.zones[z]
  let k := s.zoneCounts z
  let iso := s.voter.zones[z].isolated
  { isolated := iso
    onsetVote := voteOf cfg iso k.onsetActive k.capableOn cfg.kOn k.kEffOn
    strongVote := voteOf cfg iso k.strongActive k.capableStrong cfg.kStrong k.kEffStrong
    condition := conditionOf cfg.kOn k.capableOn }

/-- The rises of a zone's votes handed to the trigger unit, two of one evaluation in either order (R39, R46, log 4). -/
def reportRises (z : Fin 8) (onset strong : Bool) (s : State) : State :=
  if onset ∧ strong then
    let (onsetFirst, s) := drawOrder s
    if onsetFirst then latch (srcStrong z) (latch (srcOnset z) s) else latch (srcOnset z) (latch (srcStrong z) s)
  else if onset then latch (srcOnset z) s
  else if strong then latch (srcStrong z) s
  else s

/-- A zone evaluated, and its votes' changes handed to the trigger unit (R39). -/
def evaluateZone (z : Fin 8) (s : State) : State :=
  let old := s.voter.zones[z]
  let new := s.zoneEvaluated z
  let s := { s with voter.zones := s.voter.zones.set z new }
  formAlert (reportRises z (new.onsetVote && !old.onsetVote) (new.strongVote && !old.strongVote) (formAlert s))

/-- Every zone evaluated once (R43). -/
def evaluateAll (s : State) : State := (List.finRange 8).foldl (fun s z => evaluateZone z s) s

/-- A change taken into the image of its member, if its channel is a member of a zone (R32, R33). -/
def takeIntoImage (c : Change) (s : State) : State :=
  match s.tables.zoneOf c.channel with
  | some z =>
    { s with voter.members :=
        s.voter.members.set c.channel (s.voter.members[c.channel].take c s.now s.tables.zones[z].w) }
  | none => s

/-- A change of a channel handed over by the detector: the quiet timer for an entry to ONSET or STRONG, ALERT_OUT, the
member's image, and the zone's evaluation (R23, R32, R39, R62, R63). -/
def handChange (c : Change) (s : State) : State :=
  let s := if c.state = .onset ∨ c.state = .strong then reloadQuiet s else s
  let s := formAlert s
  match s.tables.zoneOf c.channel with
  | some z => evaluateZone z (takeIntoImage c s)
  | none => s

/-- Images and stamps of every member set from the channels, without evaluation (R41 to R43): no member is active. -/
def imagesFromChannels (s : State) : State :=
  { s with voter.members := .ofFn fun c => ⟨s.channels[c].state, s.channels[c].seeded, none, none⟩ }

/-- A stamp of a member has been reached (R34). -/
def stampDue (now : Time) : Option Time → Bool
  | some t => reached now t
  | none => false

/-- The onset stamp of a member expires (R34). -/
def onsetStampExpired (c : Fin 32) (s : State) : State :=
  let s := { s with voter.members := s.voter.members.set c { s.voter.members[c] with onsetUntil := none } }
  match s.tables.zoneOf c with
  | some z => evaluateZone z s
  | none => s

/-- The strong stamp of a member expires (R34). -/
def strongStampExpired (c : Fin 32) (s : State) : State :=
  let s := { s with voter.members := s.voter.members.set c { s.voter.members[c] with strongUntil := none } }
  match s.tables.zoneOf c with
  | some z => evaluateZone z s
  | none => s

end Sys2Proof.Machine
end

