-- ==== Sys2Proof/Machine/Detector.lean ====
section
/-! DEFINITION. The ground-motion detector (01_ground_motion_channels.md): frame acceptance, the per-sample arithmetic, the tests, staleness, isolation and activation. -/

namespace Sys2Proof.Machine

/-- One sample: three accelerations in mg (R159). -/
structure Sample where
  x : Int
  y : Int
  z : Int
  deriving DecidableEq, Repr

/-- Two characters as a signed 16-bit number, high byte first (R153). -/
def signed16 (hi lo : Byte) : Int := (BitVec.ofNat 16 (beNat [hi, lo])).toInt

/-- The samples in the characters after the count (R159). -/
def readSamples : List Byte → List Sample
  | x1 :: x0 :: y1 :: y0 :: z1 :: z0 :: rest =>
    ⟨signed16 x1 x0, signed16 y1 y0, signed16 z1 z0⟩ :: readSamples rest
  | _ => []

/-! ### Per-sample arithmetic (R13 to R16) -/

/-- The clamped difference of a sample and a baseline (R13). -/
def axisDiff (a b : Int) : Int := clampInt (-32767) 32767 (a - b.fdiv 16)

/-- The baseline after a sample (R13). -/
def axisBase (a b : Int) : Int := b + (16 * a - b).tdiv 1024

/-- The horizontal measure (R14). -/
def horizontal (dx dy : Int) : Nat := max dx.natAbs dy.natAbs + min dx.natAbs dy.natAbs / 2

/-- An average after a sample with target `16·u`, by a shift (R15). -/
def average (a : Int) (u shift : Nat) : Int := a + (16 * (u : Int) - a).tdiv (2 ^ shift)

/-- The record after a sample's arithmetic, with the sample's horizontal measure (R13 to R16). -/
def sampleArith (cfg : ChanCfg) (c : Channel) (a : Sample) : Channel × Nat :=
  let h := horizontal (axisDiff a.x c.baseX) (axisDiff a.y c.baseY)
  let u := (axisDiff a.z c.baseZ).natAbs
  ({ c with
      baseX := axisBase a.x c.baseX
      baseY := axisBase a.y c.baseY
      baseZ := axisBase a.z c.baseZ
      sta := average c.sta u cfg.ss
      lta := if c.active then c.lta else average c.lta u cfg.ls
      priming := if c.priming < 256 then c.priming + 1 else c.priming
      peakH := max c.peakH h
      peakU := max c.peakU u }, h)

/-! ### Tests (R17 to R22) -/

/-- The below run at the entry of a state is 0 (R3). -/
def Channel.enter (c : Channel) (st : ChanState) : Channel := { c with state := st, below := 0 }

/-- The tests of a sample taken up in STRONG (R18). -/
def testStrong (cfg : ChanCfg) (c : Channel) (h : Nat) : Channel :=
  if h < cfg.g then
    if cfg.h ≤ c.below + 1 then c.enter (if c.priming = 256 then .quiet else .priming)
    else { c with below := c.below + 1 }
  else { c with below := 0 }

/-- The tests of a sample taken up in ONSET that has not entered STRONG (R20, R21). -/
def testOnset (cfg : ChanCfg) (c : Channel) : Channel :=
  let n := c.inOnset + 1
  let below := if 16 * c.sta < cfg.rOff * c.lta then c.below + 1 else 0
  let c := { c with inOnset := n, below := below }
  if cfg.tMax ≤ n then { c.enter .quiet with lta := c.sta }
  else if cfg.h ≤ below then c.enter .quiet
  else c

/-- The onset condition (R19). -/
def onsetCondition (cfg : ChanCfg) (c : Channel) : Bool := cfg.rOn * c.lta ≤ 16 * c.sta && 16 * cfg.f ≤ c.sta

/-- The tests of a sample, by the state it was taken up in (R17 to R22). -/
def sampleTests (cfg : ChanCfg) (now : Time) (c : Channel) (h : Nat) : Channel :=
  match c.state with
  | .strong => testStrong cfg c h
  | .priming =>
    if cfg.g ≤ h then { c.enter .strong with strongAt := now }
    else if c.priming = 256 then c.enter .quiet else c
  | .quiet =>
    if cfg.g ≤ h then { c.enter .strong with strongAt := now }
    else if onsetCondition cfg c then { c.enter .onset with onsetAt := now, inOnset := 0 } else c
  | .onset => if cfg.g ≤ h then { c.enter .strong with strongAt := now } else testOnset cfg c
  | .off | .stale => c

/-- One sample after a seed: arithmetic, then tests (R5). -/
def processSample (cfg : ChanCfg) (now : Time) (c : Channel) (a : Sample) : Channel :=
  let (c, h) := sampleArith cfg c a
  sampleTests cfg now c h

/-- Seeding from a sample (R6). -/
def seedChannel (c : Channel) (a : Sample) : Channel :=
  { c with
    state := .priming, seeded := true, priming := 1, below := 0, inOnset := 0
    baseX := 16 * a.x, baseY := 16 * a.y, baseZ := 16 * a.z, sta := 0, lta := 0 }

/-! ### Frame acceptance (R7 to R11) -/

/-- The frame is accepted: expected sequence and stale timer (R11). -/
def acceptFrame (cfg : ChanCfg) (seq : Byte) (c : Channel) : Channel :=
  { c with expected := seq + 1, staleTimer := some cfg.staleTime }

/-- The records after each sample of a run of samples. -/
def sampleTrail (cfg : ChanCfg) (now : Time) : Channel → List Sample → List Channel
  | _, [] => []
  | c, a :: rest =>
    let c := processSample cfg now c a
    c :: sampleTrail cfg now c rest

/-- The records after each sample, where the first sample seeds (R6). -/
def seedTrail (cfg : ChanCfg) (now : Time) (c : Channel) : List Sample → List Channel
  | [] => []
  | a :: rest =>
    let c := seedChannel c a
    c :: sampleTrail cfg now c rest

/-- A frame's effect on a channel that processes it: the record the acceptance step leaves, and the records after each
sample (R5, R7 to R11). -/
def channelFrame (cfg : ChanCfg) (now : Time) (seq : Byte) (samples : List Sample) (c : Channel) :
    Channel × List Channel :=
  if c.seeded then
    let off := (seq - c.expected).toNat
    if off = 255 then ({ c with duplicates := bump c.duplicates }, [])
    else if off = 0 then
      let c := acceptFrame cfg seq c
      (c, sampleTrail cfg now c samples)
    else if off ≤ 8 then
      let c := acceptFrame cfg seq { c with missed := bumpBy c.missed off }
      (c, sampleTrail cfg now c samples)
    else
      let c := acceptFrame cfg seq { c with resyncs := bump c.resyncs }
      (c, seedTrail cfg now c samples)
  else
    let c := acceptFrame cfg seq c
    (c, seedTrail cfg now c samples)

/-- The changes of state or seeded field along a trail, each with the number of its sample (R23). -/
def changesOf (i : Fin 32) : Nat → Channel → List Channel → List (Nat × Change)
  | _, _, [] => []
  | n, c, d :: rest =>
    let more := changesOf i (n + 1) d rest
    if d.state = c.state ∧ d.seeded = c.seeded then more else (n, ⟨i, d.state, d.seeded⟩) :: more

/-- The channel takes the frames of this source (R4). -/
def State.listens (s : State) (i : Fin 32) (src : Byte) : Bool :=
  s.tables.channels[i].sensor == src.toNat && s.channels[i].state != .off

/-- One channel's part in a frame: its record, and its changes added to the list (R4, R5). -/
def frameAt (src seq : Byte) (samples : List Sample) (acc : State × List (Nat × Change)) (i : Fin 32) :
    State × List (Nat × Change) :=
  let (s, changes) := acc
  if s.listens i src then
    let (c, trail) := channelFrame s.tables.channels[i] s.now seq samples s.channels[i]
    ({ s with channels := s.channels.set i (trail.getLastD c) }, changes ++ changesOf i 0 c trail)
  else (s, changes)

/-- Changes in the order they are handed over: by sample, and of one sample by channel (R23, log 29). -/
def inSampleOrder (samples : Nat) (changes : List (Nat × Change)) : List Change :=
  (List.range samples).flatMap fun k => (changes.filter fun c => c.1 == k).map Prod.snd

/-- Changes handed over one after another (R23, R32). -/
def handAll (changes : List Change) (s : State) : State := changes.foldl (fun s c => handChange c s) s

/-- A SAMPLE frame handed to the detector (R4, R5, R23). -/
def sampleFrame (src : Byte) (payload : List Byte) (s : State) : State :=
  match payload with
  | seq :: _ :: rest =>
    if (s.nodeCfg src.toNat).present then
      let samples := readSamples rest
      let (s, changes) := (List.finRange 32).foldl (frameAt src seq samples) (s, [])
      handAll (inSampleOrder samples.length changes) s
    else s
  | _ => s

/-! ### Staleness (R12) -/

/-- The channel's stale timer has run out (R12). -/
def State.staleDue (s : State) (i : Fin 32) : Bool := s.channels[i].seeded && s.channels[i].staleTimer == some 0

/-- A seeded channel's stale timer runs out (R12). -/
def staleExpired (i : Fin 32) (s : State) : State :=
  let c := s.channels[i]
  let c := { c.enter .stale with
    seeded := false, staleTimer := none, staleEntries := bump c.staleEntries }
  handChange ⟨i, .stale, false⟩ { s with channels := s.channels.set i c }

/-! ### Isolation, restore, activation (R26 to R28) -/

/-- A channel's reset values, its counters kept (R2, R27). -/
def Channel.cleared (c : Channel) : Channel :=
  { missed := c.missed, duplicates := c.duplicates, resyncs := c.resyncs, staleEntries := c.staleEntries }

/-- A channel as isolation, restore, activation or the load leaves it: its reset values and counters, in PRIMING awaiting
a first frame where it may run, else OFF (R26 to R28). -/
def Channel.restarted (c : Channel) (runs : Bool) : Channel :=
  { c.cleared with state := if runs then .priming else .off }

/-- The channel is enabled and its zone, if it has one, is not isolated (R26, R28). -/
def State.mayRun (s : State) (i : Fin 32) : Bool :=
  s.tables.channels[i].enabled &&
    match s.tables.zoneOf i with
    | some z => !s.voter.zones[z].isolated
    | none => true

/-- Every channel restarted (R26, R28), the members' images set from them, and ALERT_OUT formed (R63). -/
def restartAllChannels (s : State) : State :=
  formAlert (imagesFromChannels
    { s with channels := .ofFn fun i => s.channels[i].restarted (s.mayRun i) })

/-- The member channels of a zone restarted, their images and stamps set from them (R27, R41, R42). -/
def restartMembers (z : Fin 8) (s : State) : State :=
  let mem : Fin 32 → Bool := fun i => s.tables.zones[z].members.contains i
  let chans : Vector Channel 32 :=
    .ofFn fun i => if mem i then s.channels[i].restarted (s.mayRun i) else s.channels[i]
  let images : Vector Member 32 :=
    .ofFn fun i => if mem i then ⟨chans[i].state, false, none, none⟩ else s.voter.members[i]
  formAlert { s with channels := chans, voter.members := images }

/-- A zone's isolated flag set or cleared. -/
def setIsolated (z : Fin 8) (b : Bool) (s : State) : State :=
  { s with voter.zones := s.voter.zones.set z { s.voter.zones[z] with isolated := b } }

/-- A zone isolated (R41): members OFF, one evaluation, its two flags cleared. -/
def isolate (z : Fin 8) (s : State) : State :=
  let s := if s.voter.zones[z].isolated then s else evaluateZone z (restartMembers z (setIsolated z true s))
  clearFlags (fun i => i == srcOnset z || i == srcStrong z) s

/-- A zone restored, where it is isolated (R42). -/
def restore (z : Fin 8) (s : State) : State :=
  if s.voter.zones[z].isolated then evaluateZone z (restartMembers z (setIsolated z false s)) else s

/-- Every channel's peaks cleared (R16, R77). -/
def clearPeaks (s : State) : State :=
  { s with channels := s.channels.map fun c => { c with peakH := 0, peakU := 0 } }

end Sys2Proof.Machine
end

