-- ==== Sys2Proof/Machine/Validate.lean ====
section
/-! DEFINITION. The checks of a block's content (R139), at the start-up load and at commit. -/

namespace Sys2Proof.Machine

/-- The faults of R139, in the order of its table. -/
inductive StoreFault where
  | prerequisiteOrder | prerequisiteRepeated | actionNotAllowed | policyNotAllowed | targetAbsent | targetKind
  | shiftOrder | ratioOrder | sensorAbsent | memberRepeated | thresholdAboveMembers | classOrder
  deriving DecidableEq, Repr

def StoreFault.code : StoreFault → Nat
  | .prerequisiteOrder => 0 | .prerequisiteRepeated => 1 | .actionNotAllowed => 2 | .policyNotAllowed => 3
  | .targetAbsent => 4 | .targetKind => 5 | .shiftOrder => 6 | .ratioOrder => 7 | .sensorAbsent => 8
  | .memberRepeated => 9 | .thresholdAboveMembers => 10 | .classOrder => 11

/-- Where a fault was found: block, record kind, index, fault (R140). -/
structure Found where
  block : Fin 4
  kind : RecordKind
  index : Nat
  fault : StoreFault
  deriving DecidableEq, Repr

/-- A fault as response data (R140). -/
def Found.data (f : Found) : List Byte := u8 f.block.val ++ u8 f.kind.code ++ u8 f.index ++ u8 f.fault.code

/-- The first of a list of checks that fails. -/
def firstFault : List (Bool × StoreFault) → Option StoreFault
  | [] => none
  | (ok, f) :: rest => if ok then firstFault rest else some f

/-- The first index whose record fails, with its fault. -/
def firstIndex (n : Nat) (f : Fin n → Option StoreFault) : Option (Nat × StoreFault) :=
  (List.finRange n).findSome? fun i => (f i).map fun x => (i.val, x)

/-- The action is allowed in the plan (R90). -/
def Action.allowedIn : Action → PlanId → Bool
  | .mark, _ => true
  | .shed, p | .park, p | .cut, p => p != .restart
  | .energize, p | .resume, p | .transfer, p => p == .restart

/-- The action is allowed for the target's kind (R90). -/
def Action.allowedFor : Action → NodeKind → Bool
  | .mark, _ => true
  | .transfer, k => k == .ups || k == .generator
  | _, k => k == .breaker || k == .pdu || k == .ups || k == .generator || k == .cooling

/-- The node of a non-MARK step's target is present (check 5). -/
def targetPresent (t : SiteTables) (c : StepCfg) : Bool :=
  c.action == .mark || (t.node (c.target.getD 0)).present

/-- The action is allowed for the target's kind (check 6). -/
def targetAllowed (t : SiteTables) (c : StepCfg) : Bool :=
  c.action == .mark || c.action.allowedFor (t.node (c.target.getD 0)).kind

/-- Checks 5 and 6 of one step against the site tables that apply, if any do. -/
def nodeChecks (site : Option SiteTables) (c : StepCfg) : List (Bool × StoreFault) :=
  match site with
  | some t => [(targetPresent t c, .targetAbsent), (targetAllowed t c, .targetKind)]
  | none => []

/-- Checks 1 to 6 of a step numbered below the step count. -/
def stepFault (p : PlanId) (plan : Plan) (site : Option SiteTables) (i : Fin 64) : Option StoreFault :=
  if plan.stepCount ≤ i.val then none
  else
    let c := plan.steps[i]
    firstFault ([(c.prereqs.all (fun q => q.val < i.val), .prerequisiteOrder),
      (decide c.prereqs.Nodup, .prerequisiteRepeated),
      (c.action.allowedIn p, .actionNotAllowed),
      (c.policy != .escalate || p == .l1, .policyNotAllowed)] ++ nodeChecks site c)

/-- Checks 5 and 6 alone (R140, check 5). -/
def stepNodeFault (plan : Plan) (t : SiteTables) (i : Fin 64) : Option StoreFault :=
  if plan.stepCount ≤ i.val then none else firstFault (nodeChecks (some t) plan.steps[i])

/-- The first fault of a plan block. -/
def planFault (p : PlanId) (plan : Plan) (site : Option SiteTables) : Option Found :=
  (firstIndex 64 (stepFault p plan site)).map fun (i, f) => ⟨p.block, .step, i, f⟩

/-- The first fault of a plan block under checks 5 and 6 alone. -/
def planNodeFault (p : PlanId) (plan : Plan) (t : SiteTables) : Option Found :=
  (firstIndex 64 (stepNodeFault plan t)).map fun (i, f) => ⟨p.block, .step, i, f⟩

/-- Checks 7 to 9 of a channel. -/
def channelFault (t : SiteTables) (i : Fin 32) : Option StoreFault :=
  let c := t.channels[i]
  firstFault [(c.ss + 4 ≤ c.ls, .shiftOrder), (c.rOff < c.rOn, .ratioOrder),
    (!c.enabled || (t.node c.sensor).present, .sensorAbsent)]

/-- No channel stands twice in the zone's list, or in a lower-numbered zone's list too (check 10). -/
def membersDistinct (t : SiteTables) (z : Fin 8) : Bool :=
  decide t.zones[z].members.Nodup &&
    (List.finRange 8).all fun y => z.val ≤ y.val || t.zones[y].members.all fun c => !t.zones[z].members.contains c

/-- Checks 10 and 11 of a zone. -/
def zoneFault (t : SiteTables) (z : Fin 8) : Option StoreFault :=
  let c := t.zones[z]
  firstFault [(membersDistinct t z, .memberRepeated),
    (c.members.isEmpty || (c.kOn ≤ c.members.length && c.kStrong ≤ c.members.length), .thresholdAboveMembers)]

/-- Check 12. -/
def siteFault (t : SiteTables) : Option StoreFault :=
  firstFault [(t.site.classAlert ≤ t.site.classL1 && t.site.classL1 ≤ t.site.classL2, .classOrder)]

/-- The first fault of block 3: channels, then zones, then the SITE record. -/
def tablesFault (t : SiteTables) : Option Found :=
  match firstIndex 32 (channelFault t) with
  | some (i, f) => some ⟨3, .channel, i, f⟩
  | none =>
    match firstIndex 8 (zoneFault t) with
    | some (i, f) => some ⟨3, .zone, i, f⟩
    | none => (siteFault t).map fun f => ⟨3, .site, 0, f⟩

/-- The first fault of a block of these contents, plans being checked against `site` where it is given. -/
def blockFault (b : Fin 4) (content : Blocks) (site : Option SiteTables) : Option Found :=
  match planIn b with
  | some p => planFault p (content.plan p) site
  | none => tablesFault content.site

end Sys2Proof.Machine
end

