-- ==== Sys2Proof/Machine/Store.lean ====
section
/-! DEFINITION. The plan store (07_plan_store_and_trip_records.md): the start-up load, commits and their ends, activation, the write queue's events, and what a reset or a loss of power leaves. -/

namespace Sys2Proof.Machine

/-! ### Responses of the management unit (R183, R184) -/

/-- The places of the response queue. -/
def responsePlaces : Nat := 4

/-- A response at the tail of the response queue (R183). -/
def joinResponse (r : Response) (s : State) : State :=
  { s with mgmt.responses := s.mgmt.responses ++ [r] }

/-- A place of the response queue is free, and no held response waits for it (R184). -/
def State.placeFree (s : State) : Bool := s.mgmt.held.isEmpty && s.mgmt.responses.length < responsePlaces

/-- A commit's response joins the queue if a place is free, and is held otherwise (R184; log 26). -/
def joinOrHold (r : Response) (s : State) : State :=
  if s.placeFree then joinResponse r s else { s with mgmt.held := s.mgmt.held ++ [r] }

/-! ### Activation (R142) -/

/-- The working copy of each block awaiting activation reloaded and valid, none awaiting any more (R142, stage 1). -/
def reloadAwaiting (s : State) : State :=
  let set := s.store.awaiting
  { s with
    store.work := (List.finRange 4).foldl (fun w b => if set[b] then copyBlock b s.nv.blocks w else w) s.store.work
    store.workValid := .ofFn fun b => s.store.workValid[b] || set[b]
    store.awaiting := .replicate 4 false
    site.activationPending := false }

/-- The router's node table under a new configuration: an entry present before and after keeps its runtime part, each
other takes its reset values (R167). -/
def routerTakesTables (old : SiteTables) (s : State) : State :=
  { s with router.nodes := .ofFn fun a =>
      if (old.node a.val).present ∧ (s.nodeCfg a.val).present then s.router.nodes[a] else {} }

/-- The feed dwell's new value, where its timer runs and that time has passed (R56). -/
def feedTakesTables (s : State) : State := if s.feedDue then feedRises s else s

/-- The new site tables taken by router, detector, zone voter and trigger unit (R142, stage 2; R28, R43, R50, R167). -/
def takeTables (old : SiteTables) (s : State) : State :=
  let s := routerTakesTables old s
  let s := evaluateAll (restartAllChannels s)
  formRequest (formRemote (feedTakesTables s))

/-- The run record's configuration changed item (R142, stage 3; R112; log 28). -/
def markConfigurationChanged (set : Vector Bool 4) (s : State) : State :=
  match s.runner.run.plan with
  | some p => if set[p.block] ∧ !s.runIsOn then { s with runner.run.cfgChanged := true } else s
  | none => s

/-- In UNCONFIGURED with all four working copies valid, the site enters its first state by the ring (R67). -/
def leaveUnconfigured (s : State) : State :=
  if s.site.state = .unconfigured ∧ s.store.workValid = .replicate 4 true then enterByRing s else s

/-- An activation (R142). -/
def activate (s : State) : State :=
  let set := s.store.awaiting
  let old := s.tables
  let s := reloadAwaiting s
  let s := if set[(3 : Fin 4)] then takeTables old s else s
  leaveUnconfigured (markConfigurationChanged set s)

/-- The site is at rest (R142). -/
def State.atRest (s : State) : Bool := s.site.state != .shutting && s.site.state != .restarting

/-! ### Commit (R140, R141) -/

/-- The site tables as they would stand after a commit (R139): the shadow's where block 3 is named, else the
non-volatile ones where VALID. -/
def State.tablesAfter (s : State) (named : Vector Bool 4) : Option SiteTables :=
  if named[(3 : Fin 4)] then some s.store.shadow.site
  else if s.store.cond[(3 : Fin 4)] = .valid then some s.nv.blocks.site else none

/-- The first fault of the named shadows (R140, check 4). -/
def State.shadowFault (s : State) (named : Vector Bool 4) : Option Found :=
  (List.finRange 4).findSome? fun b => if named[b] then blockFault b s.store.shadow (s.tablesAfter named) else none

/-- The first stored plan that a new block 3 would contradict (R140, check 5). -/
def State.inconsistency (s : State) (named : Vector Bool 4) : Option Found :=
  if named[(3 : Fin 4)] then
    (List.finRange 4).findSome? fun b =>
      match planIn b with
      | some p =>
        if !named[b] ∧ s.store.cond[b] = .valid then planNodeFault p (s.nv.blocks.plan p) s.store.shadow.site else none
      | none => none
  else none

/-- The programming items of a commit, in ascending block order (R141). -/
def commitItems (named : Vector Bool 4) : List OtherWrite :=
  ((List.finRange 4).filter fun b => named[b]).map .block

/-- An admitted commit (R141). -/
def admitCommit (src tag : Byte) (named : Vector Bool 4) (s : State) : State :=
  { s with
    store.commit := some ⟨src, tag, named, s.store.shadow⟩
    store.otherWrites := s.store.otherWrites ++ commitItems named }

/-- A commit's end: the commit in progress ends and its response goes to the response queue (R141). -/
def endCommit (c : CommitRun) (st : Status) (data : List Byte) (s : State) : State :=
  joinOrHold ⟨c.src, c.tag, 0x12#8, st, data, 0, .plain⟩ { s with store.commit := none }

/-- A commit ended with COMMITTED: its blocks await activation, which is applied at once where the site is at rest
(R142). -/
def committed (c : CommitRun) (s : State) : State :=
  let s := endCommit c .committed [] s
  let s := { s with store.awaiting := .ofFn fun b => s.store.awaiting[b] || c.named[b] }
  if s.atRest then activate s else { s with site.activationPending := true }

/-- An item that programs a block. -/
def OtherWrite.isBlock : OtherWrite → Bool
  | .block _ => true
  | .protection _ => false

/-- Non-volatile memory once a block of `content` has been written: the block and, where the read-back passes, the CRC
that goes with it (R134, R141). -/
def NonVolatile.program (n : NonVolatile) (b : Fin 4) (content : Blocks) (passes : Bool) : NonVolatile :=
  let blocks := copyBlock b content n.blocks
  { n with blocks := blocks, checks := n.checks.set b (if passes then some (blocks.crcOf b) else none) }

/-- The content a block is written with: that of the commit in progress (R141). -/
def State.programmed (s : State) : Blocks :=
  match s.store.commit with
  | some c => c.content
  | none => s.nv.blocks

/-- A block's write has ended and its read-back has passed or failed (R141). -/
def blockWritten (b : Fin 4) (passes : Bool) (s : State) : State :=
  let s := { s with
    store.writing := none
    store.cond := s.store.cond.set b (if passes then .valid else .invalid)
    nv := s.nv.program b s.programmed passes }
  match s.store.commit with
  | none => s
  | some c =>
    if passes then
      if s.store.otherWrites.any OtherWrite.isBlock then s else committed c s
    else
      endCommit c .verifyFailed (u8 b.val)
        { s with store.otherWrites := s.store.otherWrites.filter fun w => !w.isBlock }

/-- A record write has ended: the slot holds its image (R144). -/
def recordWritten (w : RecordWrite) (s : State) : State :=
  { s with store.writing := none, nv.ring := s.nv.ring.set w.slot (.record w.image) }

/-- A protection word write has ended: the word holds the set with its check (R143). Until then the word is as it was,
and READ_STATUS shows it so (DESIGN CHOICE, log 46). -/
def protectionWritten (set : Vector Bool 4) (s : State) : State :=
  { s with store.writing := none, nv.protection := .names set (protectionCrc set) }

/-- The write in progress is this item and its time is over. -/
def State.writeEnded (s : State) : Option WriteItem :=
  match s.store.writing with
  | some w => if w.left = 0 then some w.item else none
  | none => none

/-- No write is in progress and one waits (R144). -/
def State.writeWaits (s : State) : Bool :=
  s.store.writing.isNone && !(s.store.recordWrites.isEmpty && s.store.otherWrites.isEmpty)

/-! ### Protection (R143) -/

/-- The protection that a word gives the load and RELOAD_PROTECTION: a word whose check fails protects every block
(R143). -/
def ProtectionWord.active : ProtectionWord → Vector Bool 4
  | .neverWritten => .replicate 4 false
  | .checkFails => .replicate 4 true
  | .names set check => if check = protectionCrc set then set else .replicate 4 true

/-- A waiting protection write replaced in its place. -/
def replaceProtection (set : Vector Bool 4) : List OtherWrite → Option (List OtherWrite)
  | [] => none
  | .protection _ :: rest => some (.protection set :: rest)
  | w :: rest => (replaceProtection set rest).map (w :: ·)

/-- A protection write queued, or put in the place of one that waits (R143). -/
def queueProtection (set : Vector Bool 4) (s : State) : State :=
  { s with store.otherWrites :=
      (replaceProtection set s.store.otherWrites).getD (s.store.otherWrites ++ [.protection set]) }

/-- An item that writes the protection word. -/
def OtherWrite.isProtection : OtherWrite → Bool
  | .block _ => false
  | .protection _ => true

/-- A protection write is waiting or in progress (R143). -/
def State.protectionBusy (s : State) : Bool :=
  s.store.otherWrites.any OtherWrite.isProtection ||
    match s.store.writing with
    | some ⟨.other w, _⟩ => w.isProtection
    | _ => false

/-! ### The start-up load (R136, R149) -/

/-- A block passes its CRC: the one stored with it is that of its content (R134, R154). -/
def NonVolatile.passes (n : NonVolatile) (b : Fin 4) : Bool :=
  match n.checks[b] with
  | some c => c == n.blocks.crcOf b
  | none => false

/-- Block 3 passes its CRC and its checks (R136, step 2). -/
def NonVolatile.tablesValid (n : NonVolatile) : Bool := n.passes 3 && (tablesFault n.blocks.site).isNone

/-- A block's condition at the load (R134, R136). -/
def NonVolatile.valid (n : NonVolatile) (b : Fin 4) : Bool :=
  n.passes b && (blockFault b n.blocks (if n.tablesValid then some n.blocks.site else none)).isNone

/-- The content a working copy and a shadow take at the load: the block's where VALID, else the default (R136). -/
def NonVolatile.loaded (n : NonVolatile) : Blocks :=
  (List.finRange 4).foldl (fun w b => if n.valid b then copyBlock b n.blocks w else w) {}

/-- The slot as the scan finds it: a record is valid when its record CRC passes, and damaged otherwise (R149). -/
def Slot.found : Slot → Slot
  | .record r => if r.crc = r.crcOf then .record r else .damaged
  | .blank => .blank
  | .damaged => .damaged

/-- The ring's slots as the scan finds them (R149). -/
def foundRing (ring : Vector Slot 16) : Vector Slot 16 := ring.map Slot.found

/-- The ring image from the slots as found (R149): should several records be OPEN, the highest write sequence's is, and
each other slot is damaged. -/
def oneOpen (ring : Vector Slot 16) : Vector Slot 16 :=
  match highestSlot (fun r => r.closure == .isOpen) ring with
  | none => ring
  | some i => .ofFn fun j =>
    match ring[j].held with
    | some r => if r.closure = .isOpen ∧ j ≠ i then .damaged else ring[j]
    | none => ring[j]

/-- The ring image from the non-volatile ring (R149). -/
def scanRing (ring : Vector Slot 16) : Vector Slot 16 := oneOpen (foundRing ring)

/-- The write sequence of the newest record among the slots as found (R149). -/
def newestSeq (ring : Vector Slot 16) : Word32 :=
  match highestSlot (fun _ => true) ring with
  | some i => (ring[i].held.map TripRecord.seq).getD 0
  | none => 0

/-- The write sequence counter after the scan of the non-volatile ring (R149). -/
def scanSeq (ring : Vector Slot 16) : Word32 := newestSeq (foundRing ring)

/-- The OPEN record's slot in a scanned ring image (R149). -/
def openSlot (ring : Vector Slot 16) : Option (Fin 16) := highestSlot (fun r => r.closure == .isOpen) ring

/-- The current trip number after the scan (R66, R149). -/
def scanTrip (ring : Vector Slot 16) : Nat :=
  match openSlot ring with
  | some i => (ring[i].held.map TripRecord.trip).getD 0
  | none =>
    match highestSlot (fun _ => true) ring with
    | some i => (ring[i].held.map TripRecord.trip).getD 0
    | none => 0

/-- The plan store's state when the load completes (R136). A VALID block marks its working copy and its shadow valid; of
an INVALID block the rule marks the working copy, and the shadow's mark stays as the part reset left it, not valid
(DEDUCED, log 47). -/
def loadStore (s : State) : State :=
  let ring := scanRing s.nv.ring
  { s with
    store.work := s.nv.loaded
    store.shadow := s.nv.loaded
    store.workValid := .ofFn s.nv.valid
    store.shadowValid := .ofFn s.nv.valid
    store.cond := .ofFn fun b => if s.nv.valid b then .valid else .invalid
    store.activeProtection := s.nv.protection.active
    store.ring := ring
    store.writeSeq := scanSeq s.nv.ring }

/-- The site state controller enters its first state (R66); TRIP_OUT for a damaged slot and for a level-2 OPEN record
(R64). -/
def enterService (s : State) : State :=
  let s := { s with site.record := openSlot s.store.ring, site.trip := scanTrip s.store.ring }
  if s.store.workValid = .replicate 4 true then
    let out := s.anyDamaged || (s.currentRecord.map TripRecord.level) == some 2
    enterByRing { s with trig.tripOut := s.trig.tripOut || out }
  else raiseNotice none (setSite .unconfigured 0 none s)

/-- The start-up load completes (R26, R43, R62, R66, R136). -/
def completeLoad (s : State) : State :=
  let s := loadStore { s with phase := .running }
  let s := evaluateAll (restartAllChannels s)
  enterService (reloadQuiet s)

/-! ### Resets and loss of power (R146, R189) -/

/-- The non-volatile memory after writes are cut short (R146). -/
def interruptWrites (s : State) : NonVolatile :=
  let n := { s.nv with checks := .ofFn fun b => if s.store.cond[b] = .programming then none else s.nv.checks[b] }
  match s.store.writing with
  | some ⟨.record w, _⟩ => { n with ring := n.ring.set w.slot .damaged }
  | some ⟨.other (.protection _), _⟩ => { n with protection := .checkFails }
  | _ => n

/-- Every volatile item at its reset value, non-volatile memory as cut short, what no part reset clears kept: site time,
reset causes, straps, the pins and the queue of commands (R189, What each reset keeps). -/
def partReset (phase : Phase) (s : State) : State :=
  { State.reset with
    pending := s.pending, freeIndex := s.freeIndex, pins := s.pins, phase := phase
    mgmt := { siteTime := s.mgmt.siteTime, siteMs := s.mgmt.siteMs, secondDue := s.mgmt.secondDue
              causes := s.mgmt.causes, straps := s.mgmt.straps }
    nv := interruptWrites s }

end Sys2Proof.Machine
end

