-- ==== Sys2Proof/Machine/Reports.lean ====
section
/-! DEFINITION. The data of the READ responses, in the fields' order and coding (R182, R185, R25, R44, R181, R112, R132, R61, R150, R186). Where the coding is a reading of the rules it is in logs 17 to 19. -/

namespace Sys2Proof.Machine

/-- A 24-source mask: 4 characters (R182, log 18). -/
def sourceMask (p : Fin 24 → Bool) : List Byte := u32 (maskOf ((List.finRange 24).map p))

/-! ### READ_STATUS (R185) -/

/-- Site state. An item listed as "set, clear" is a yes-or-no field, set being 1 (DESIGN CHOICE, log 18). -/
def State.statusSite (s : State) : List Byte :=
  u8 s.site.state.code ++ u8 s.site.level ++ u8None (s.site.hold.map HoldReason.code) ++ u16 s.site.trip
    ++ u8None (s.site.record.map Fin.val) ++ u8 s.site.requestLevel ++ u8None (s.site.cause.map Fin.val)
    ++ yesNo s.site.restartIncomplete ++ yesNo s.site.activationPending

/-- Trigger sources: flags, enables, the further mask if there is one, levels (a bit is 1 for level 2), FORCED's level.
R185's "three masks and a levels mask" can mean three masks in all or four; the further mask is a free value (DESIGN
CHOICE, log 18). -/
def State.statusSources (s : State) (further : Option Word32) : List Byte :=
  sourceMask (fun i => s.trig.flags[i]) ++ sourceMask (fun i => s.tables.sources[i].enabled)
    ++ ((further.map word32Chars).getD []) ++ sourceMask (fun i => s.sourceLevel i == 2) ++ u8 s.trig.forcedLevel

/-- The feed dwell remaining in ms, none where its timer does not run. -/
def State.feedRemaining (s : State) : Option Nat :=
  s.trig.feedStart.map fun t => s.params.feedDwell * 1000 - msSince s.now t

/-- Inputs. An item listed as "true, false" is a yes-or-no field, true being 1 (DESIGN CHOICE, log 18). -/
def State.statusInputs (s : State) : List Byte :=
  yesNo s.activeCondition ++ s.trig.inputs.toList.flatMap (fun d => yesNo d.active) ++ yesNo s.trig.feedStable
    ++ u32None s.feedRemaining ++ yesNo s.trig.quietElapsed ++ u32None s.trig.quiet
    ++ u8 s.params.classAlert ++ u8 s.params.classL1 ++ u8 s.params.classL2

/-- Outputs. Each is 1 where it is asserted, which on these active-low pins is a driven LOW (DESIGN CHOICE, log 18). -/
def State.statusOutputs (s : State) : List Byte := yesNo s.trig.alertOut ++ yesNo s.trig.tripOut

/-- Zones. A vote is 1 where it is true (DESIGN CHOICE, log 18). -/
def State.statusZones (s : State) : List Byte :=
  s.voter.zones.toList.flatMap (fun z => yesNo z.onsetVote ++ yesNo z.strongVote ++ u8 z.condition.code)
    ++ u8 (maskOf (s.voter.zones.toList.map Zone.isolated))

/-- The set that the protection word holds, as reported: every block where its check fails, none where it was never
written (R143, log 18). -/
def ProtectionWord.shown (w : ProtectionWord) : Vector Bool 4 := w.active

/-- Store. The set of the protection word is that of the word as it stands, the old one while a protection write is
waiting or in progress (DESIGN CHOICE, log 46). -/
def State.statusStore (s : State) : List Byte :=
  s.store.cond.toList.flatMap (fun c => u8 c.code) ++ s.store.workValid.toList.flatMap yesNo
    ++ blockMask s.store.awaiting ++ yesNo s.store.commit.isSome ++ blockMask s.store.activeProtection
    ++ blockMask s.nv.protection.shown

/-- Management. -/
def State.statusMgmt (s : State) : List Byte :=
  yesNo s.mgmt.causes.power ++ yesNo s.mgmt.causes.pin ++ yesNo s.mgmt.causes.commanded
    ++ u8 s.mgmt.straps.addr.val ++ u8 s.mgmt.straps.rate.val ++ u32 s.mgmt.siteTime.toNat

/-- READ_STATUS data with the further source mask given (R185). -/
def State.statusWith (s : State) (further : Option Word32) : List Byte :=
  s.statusSite ++ s.statusSources further ++ s.statusInputs ++ s.statusOutputs ++ s.statusZones ++ s.statusStore
    ++ s.statusMgmt

/-- READ_STATUS data (R185). -/
def State.statusData (s : State) : List Byte := s.statusWith (Config.furtherSourceMask (s.statusWith none))

/-! ### READ_CHANNEL and READ_ZONE (R25, R44) -/

/-- A channel's runtime record, in the order of R2. -/
def Channel.chars (c : Channel) : List Byte :=
  u8 c.state.code ++ yesNo c.seeded ++ u16 c.priming ++ u8 c.expected.toNat ++ i32 c.baseX ++ i32 c.baseY
    ++ i32 c.baseZ ++ i32 c.sta ++ i32 c.lta ++ u8 c.below ++ u16 c.inOnset ++ u32 c.onsetAt.toNat
    ++ u32 c.strongAt.toNat ++ u16 c.peakH ++ u16 c.peakU ++ u32None c.staleTimer ++ u16 c.missed
    ++ u16 c.duplicates ++ u16 c.resyncs ++ u16 c.staleEntries

/-- READ_CHANNEL data (R25). -/
def State.channelData (s : State) (i : Fin 32) : List Byte :=
  s.tables.channels[i].chars ++ s.channels[i].chars

/-- A member's stamps and image (R44). -/
def Member.chars (m : Member) (now : Time) : List Byte :=
  u8 m.state.code ++ yesNo m.seeded ++ u32None (m.onsetUntil.map (msUntil now))
    ++ u32None (m.strongUntil.map (msUntil now))

/-- A zone's configuration in a response: its member list is a count and its items (R182, log 19). -/
def ZoneCfg.listed (c : ZoneCfg) : List Byte :=
  u8 c.members.length ++ (c.members.flatMap fun m => u8 m.val) ++ u8 c.kOn ++ u8 c.kStrong ++ u16 c.w
    ++ u8 c.degrade.code

/-- The results of an evaluation. -/
def Counts.chars (k : Counts) : List Byte :=
  u8 k.onsetActive ++ u8 k.strongActive ++ u8 k.capableOn ++ u8 k.capableStrong ++ u8 k.kEffOn ++ u8 k.kEffStrong

/-- READ_ZONE data (R44). Each of the two votes, which R31 lists as "true, false", is a yes-or-no field, true being 1
(DESIGN CHOICE, log 18). -/
def State.zoneData (s : State) (z : Fin 8) : List Byte :=
  let cfg := s.tables.zones[z]
  let r := s.voter.zones[z]
  cfg.listed ++ yesNo r.isolated ++ (cfg.members.flatMap fun c => u8 c.val ++ s.voter.members[c].chars s.now)
    ++ (s.zoneCounts z).chars ++ yesNo r.onsetVote ++ yesNo r.strongVote ++ u8 r.condition.code

/-! ### READ_NODE, READ_STEP, READ_OUTSTANDING, READ_WARNINGS (R181, R112, R132, R61) -/

/-- READ_NODE data (R181). -/
def State.nodeData (s : State) (a : Nat) : List Byte :=
  (s.nodeCfg a).chars ++ u8 (s.nodeRt a).reported.code ++ u32 (s.nodeRt a).heard

/-- The run record (R112). -/
def Run.chars (r : Run) : List Byte :=
  u8None (r.plan.map PlanId.code) ++ u8 r.status.code ++ u8 r.stepCount ++ u8 r.slotLimit ++ u32 r.start.toNat
    ++ u32None (r.finish.map BitVec.toNat) ++ u8 r.failed ++ yesNo r.cfgChanged

/-- A step's runtime record (R112). -/
def Step.chars (r : Step) (now : Time) (within : Bool) : List Byte :=
  u8 r.state.code ++ u32 (msSince now r.entry) ++ u32None r.timer ++ u8None (r.reason.map FailReason.code)
    ++ yesNo within

/-- READ_STEP data (R112); the configuration is absent where the run record's plan is none. -/
def State.stepData (s : State) (i : Fin 64) : List Byte :=
  s.runner.run.chars ++ (s.stepAt i).chars s.now (i.val < s.runner.run.stepCount)
    ++ (if s.runner.run.plan.isSome then (s.stepCfg i).chars else [])

/-- An entry of the outstanding command list (R132). -/
def Entry.chars (e : Entry) : List Byte :=
  u8 e.step.val ++ u8 e.target ++ u8 e.action.code ++ u8 e.tag.toNat ++ u8 e.phase.code ++ u32None e.deadline
    ++ u8 e.left

/-- A frame of the injection queue (R132). -/
def Injected.chars (f : Injected) : List Byte :=
  u8 f.tag.toNat ++ u8 f.target ++ u8 f.action.code ++ yesNo f.feed

/-- READ_OUTSTANDING data (R132). -/
def State.outstandingData (s : State) : List Byte :=
  u8None (s.runner.run.plan.map PlanId.code) ++ u8 s.runner.run.slotLimit ++ u8 s.runner.outstanding.length
    ++ s.runner.outstanding.flatMap Entry.chars
    ++ u8 s.runner.injection.length ++ s.runner.injection.flatMap Injected.chars ++ u8 s.runner.tagCounter.toNat

/-- A slot of the warning table (R61): free 0, live 1 with its fields. -/
def warningChars (now : Time) : Option Warning → List Byte
  | none => u8 0
  | some w => u8 1 ++ u16 w.event ++ u8 w.cls ++ u16 w.lead ++ u32 (msSince now w.arrival) ++ u32 (msUntil now w.expiry)

/-- READ_WARNINGS data (R61). -/
def State.warningsData (s : State) : List Byte := s.trig.warnings.toList.flatMap (warningChars s.now)

/-! ### READ_TRIP_RECORD (R150) -/

/-- A slot's condition, blank 0, damaged 1, record 2, with its record's fields (R150). "All its fields" are those of
R147's table, without the record CRC (DEDUCED, log 45). -/
def Slot.chars : Slot → List Byte
  | .blank => u8 0
  | .damaged => u8 1
  | .record r => u8 2 ++ r.fields

/-- The write in progress is of this slot. -/
def PlanStore.writingSlot (p : PlanStore) (i : Fin 16) : Bool :=
  match p.writing with
  | some ⟨.record w, _⟩ => w.slot == i
  | _ => false

/-- A write for the slot is waiting or in progress (R150). -/
def PlanStore.slotBusy (p : PlanStore) (i : Fin 16) : Bool :=
  p.recordWrites.any (fun w => w.slot == i) || p.writingSlot i

/-- READ_TRIP_RECORD data (R150). -/
def State.recordData (s : State) (i : Fin 16) : List Byte :=
  s.store.ring[i].chars ++ yesNo (s.site.record == some i) ++ yesNo (s.store.slotBusy i)
    ++ u32 s.store.writeSeq.toNat ++ u8 s.store.recordWrites.length

/-! ### READ_COUNTERS (R186) -/

/-- One port's counters in the order of R162. -/
def PortCount.chars (c : PortCount) : List Byte :=
  u16 c.received ++ u16 c.framing ++ u16 c.abandoned ++ u16 c.truncated ++ u16 c.length ++ u16 c.check ++ u16 c.stray
    ++ u16 c.malformed ++ u16 c.sent

/-- The router's counters in the order of R180. -/
def RouterCount.chars (c : RouterCount) : List Byte :=
  u16 c.unknownSources ++ u16 c.unknownStates ++ u16 c.pDiscards ++ u16 c.sDiscards ++ u16 c.refusals
    ++ u16 c.sToPDrops ++ u16 c.pToSLosses ++ u16 c.noticesReplaced

/-- READ_COUNTERS data by group, none for a group outside 0..4 (R186). -/
def State.counterData (s : State) : Nat → Option (List Byte)
  | 0 => some s.link.sCount.chars
  | 1 => some s.link.pCount.chars
  | 2 => some s.router.count.chars
  | 3 => some (u16 s.trig.warningsDropped ++ u16 s.trig.warningsIgnored ++ u16 s.runner.commandsSent
      ++ u16 s.runner.reissues ++ u16 s.runner.strays ++ u16 s.store.suspensions)
  | 4 => some (u16 s.mgmt.handled ++ u16 s.mgmt.discarded)
  | _ => none

end Sys2Proof.Machine
end

