-- ==== Sys2Proof/Machine/Router.lean ====
section
/-! DEFINITION. The frame router (09_routing_and_the_command_interlock.md): the node table, the stages of a P-port frame, the command interlock, replies on a node's behalf, and the two forwarding queues. -/

namespace Sys2Proof.Machine

/-! ### The forwarding queues (R174, R175) -/

/-- The places of the P→S queue. -/
def pToSPlaces : Nat := 16

/-- The places of the S→P queue. -/
def sToPPlaces : Nat := 8

/-- The frame is a SAMPLE. -/
def Frame.isSample (f : Frame) : Bool := f.kind == kindSample

/-- The P→S queue after a frame arrives, with whether one was lost (R175). -/
def pushPToS (f : Frame) (l : List Frame) : List Frame × Bool :=
  if l.length < pToSPlaces then (l ++ [f], false)
  else if l.any Frame.isSample then (l.eraseP Frame.isSample ++ [f], true)
  else (l, true)

/-- A frame arrives at the P→S queue (R175). -/
def queueToS (f : Frame) (s : State) : State :=
  let (l, lost) := pushPToS f s.router.pToS
  { s with
    router.pToS := l
    router.count.pToSLosses := if lost then bump s.router.count.pToSLosses else s.router.count.pToSLosses }

/-- The results of a reply that the router itself builds (R160, R173). -/
def resultBusy : Byte := 2#8

/-- INTERLOCKED. -/
def resultInterlocked : Byte := 3#8

/-- A node state as a reply on the node's behalf carries it: FAULT and UNKNOWN alike are 3 (R173). -/
def NodeState.onBehalf : NodeState → Byte
  | .run => 0#8
  | .idle => 1#8
  | .safe => 2#8
  | .fault | .unknown => 3#8

/-- The REPLY on behalf of the node a command is addressed to (R173). -/
def State.replyFor (s : State) (f : Frame) (result : Byte) : Frame :=
  ⟨s.supAddress, f.dst, kindReply, f.tag, [result, (s.nodeRt f.dst.toNat).reported.onBehalf]⟩

/-- A reply on a node's behalf arrives at the P→S queue, where the command is addressed to a node (R172, R174). -/
def answerFor (f : Frame) (result : Byte) (s : State) : State :=
  if isNode f.dst then queueToS (s.replyFor f result) s else s

/-- A frame arrives at the S→P queue (R174). -/
def queueToP (f : Frame) (s : State) : State :=
  if s.router.sToP.length < sToPPlaces then { s with router.sToP := s.router.sToP ++ [f] }
  else
    let s := { s with router.count.sToPDrops := bump s.router.count.sToPDrops }
    if f.kind = kindCommand then answerFor f resultBusy s else s

/-! ### Stage 1: the node table (R166, R168) -/

/-- The node state character that a REPLY or STATUS of well-formed length carries (R158, R160). -/
def Frame.stateCode (f : Frame) : Option Byte :=
  if f.kind = kindReply then
    match f.payload with
    | [_, code] => some code
    | _ => none
  else if f.kind = kindStatus ∧ f.wellFormed then f.payload.head?
  else none

/-- An unknown source counted (R168). -/
def countUnknownSource (s : State) : State :=
  { s with router.count.unknownSources := bump s.router.count.unknownSources }

/-- A node table entry's runtime part replaced. -/
def setNodeRt (a : Nat) (r : NodeRt) (s : State) : State := { s with router.nodes := putAt s.router.nodes a r }

/-- A node state reported by a present node (R166). -/
def takeNodeState (a : Nat) (code : Byte) (s : State) : State :=
  let s := setNodeRt a ⟨nodeStateOf code, 0⟩ s
  if 3 < code.toNat then { s with router.count.unknownStates := bump s.router.count.unknownStates } else s

/-- Stage 1 of a P-port frame (R166, R168). -/
def hearSource (f : Frame) (s : State) : State :=
  let a := f.src.toNat
  if (s.nodeCfg a).present then
    match f.stateCode with
    | some code => takeNodeState a code s
    | none => setNodeRt a ⟨(s.nodeRt a).reported, 0⟩ s
  else countUnknownSource s

/-! ### Stage 2: the blocks that act on the content (R168) -/

/-- A REPLY or STATUS that carries a node state, handed to the executor (R118, R123, R168; log 24). -/
def handToExecutor (f : Frame) (code : Byte) (s : State) : State :=
  if f.kind = kindReply ∧ f.dst = s.ownAddress then
    runEvent (takeReply f.src f.tag (f.payload.headD 0) (nodeStateOf code)) s
  else if (s.nodeCfg f.src.toNat).present then runEvent (takeReport f.src (nodeStateOf code)) s
  else s

/-- Stage 2 of a P-port frame (R168). -/
def handToBlocks (f : Frame) (s : State) : State :=
  if f.isSample then sampleFrame f.src f.payload s
  else if f.kind = kindWarning ∧ f.wellFormed then warningFrame f.src f.payload s
  else
    match f.stateCode with
    | some code => handToExecutor f code s
    | none => s

/-! ### Stage 3: forwarding (R169) -/

/-- A P-port frame discarded (R169). -/
def discardP (s : State) : State := { s with router.count.pDiscards := bump s.router.count.pDiscards }

/-- A frame to the part's own address that stage 2 has taken: REPLY, SAMPLE, WARNING. A malformed one is of a kind that
the router does not inspect (R158, DEDUCED, log 23). -/
def Frame.takenByPart (f : Frame) : Bool :=
  (f.kind == kindReply || f.kind == kindSample || f.kind == kindWarning) && f.wellFormed

/-- The frame goes to the supervisory controller or to broadcast. -/
def State.toSupervisor (s : State) (f : Frame) : Bool := f.dst == s.supAddress || isBroadcast f.dst

/-- A SAMPLE is forwarded: its source is present with forward_samples yes. -/
def State.forwardsSamples (s : State) (f : Frame) : Bool :=
  (s.nodeCfg f.src.toNat).present && (s.nodeCfg f.src.toNat).forward

/-- Stage 3 of a P-port frame (R169). -/
def forwardP (f : Frame) (s : State) : State :=
  if s.toSupervisor f then
    if f.isSample && !s.forwardsSamples f then s else queueToS f s
  else if f.dst = s.ownAddress then
    if f.takenByPart then s else discardP s
  else if isNode f.dst then s
  else discardP s

/-- A frame completed on the P-port (R168). -/
def routeP (f : Frame) (s : State) : State := forwardP f (handToBlocks f (hearSource f s))

/-! ### The command interlock (R171, R172) -/

/-- The place of a command's action class in the filter table: SHED to QUERY are 0..6, OTHER is 7 (R160, R171). A COMMAND
of ill-formed length is of class OTHER (R158). -/
def Frame.actionClass (f : Frame) : Fin 8 :=
  if f.wellFormed then
    match f.payload with
    | c :: _ => if h : 1 ≤ c.toNat ∧ c.toNat ≤ 7 then ⟨c.toNat - 1, by omega⟩ else 7
    | [] => 7
  else 7

/-- The class QUERY. -/
def classQuery : Fin 8 := 6

/-- The setting in the column of a site state, none where no column applies (R171). -/
def FilterCfg.column (f : FilterCfg) : SiteState → Option Setting
  | .unconfigured => none
  | .armed => some f.armed
  | .shutting => some f.shutting
  | .safeHold => some f.safeHold
  | .restarting => some f.restarting

/-- The destination is a present node of an isolated zone (R171, case 3). -/
def State.toIsolated (s : State) (f : Frame) : Bool :=
  isNode f.dst && (s.nodeCfg f.dst.toNat).present && s.nodeIsolated f.dst.toNat

/-- The filter's decision (R171). -/
def State.refuses (s : State) (f : Frame) : Bool :=
  if s.site.state = .unconfigured then false
  else if f.actionClass = classQuery then false
  else if s.toIsolated f then false
  else s.tables.filter[f.actionClass].column s.site.state == some .refuse

/-- A command taken by the interlock (R171 to R174). -/
def interlock (f : Frame) (s : State) : State :=
  if s.refuses f then
    answerFor f resultInterlocked { s with router.count.refusals := bump s.router.count.refusals }
  else queueToP f s

/-! ### S-port frames but for requests (R170) -/

/-- An S-port frame discarded (R170). -/
def discardS (s : State) : State := { s with router.count.sDiscards := bump s.router.count.sDiscards }

/-- The frame is a request to the part (R170, row 1). -/
def State.isRequest (s : State) (f : Frame) : Bool := f.dst == s.ownAddress && f.kind == kindRequest

/-- A frame completed on the S-port that is no request to the part (R170, rows 2 to 5). -/
def routeThroughS (f : Frame) (s : State) : State :=
  if f.dst = s.ownAddress then discardS s
  else if isNode f.dst || isBroadcast f.dst then
    if f.kind = kindCommand then interlock f s else queueToP f s
  else discardS s

end Sys2Proof.Machine
end

