-- ==== Sys2Proof/Machine/Management.lean ====
section
/-! DEFINITION. The management unit's handling of a request (10_management_requests.md): one definition for each request, its checks in the order of its rule, and the taking or discarding of a request. -/

namespace Sys2Proof.Machine

/-- Who asked, and how: the request's source, tag and code (R182). -/
structure Asker where
  src : Byte
  tag : Byte
  code : Byte
  deriving DecidableEq, Repr

/-- The response to a request (R182, R183), with its mark. -/
def Asker.response (q : Asker) (st : Status) (data : List Byte) (mark : ResponseMark) : Response :=
  ⟨q.src, q.tag, q.code, st, data, 0, mark⟩

/-- A response joins the response queue (R183). -/
def answer (q : Asker) (st : Status) (data : List Byte) (s : State) : State :=
  joinResponse (q.response st data .plain) s

/-- A request refused, with no data. -/
def refuse (q : Asker) (st : Status) (s : State) : State := answer q st [] s

/-! ### Reads -/

def reqReadStatus (q : Asker) (s : State) : State := answer q .ok s.statusData s

/-- R25. -/
def reqReadChannel (q : Asker) (channel : Byte) (s : State) : State :=
  match readFin 32 channel with
  | some i => answer q .ok (s.channelData i) s
  | none => refuse q .badArgument s

/-- R44. -/
def reqReadZone (q : Asker) (zone : Byte) (s : State) : State :=
  match readFin 8 zone with
  | some z => answer q .ok (s.zoneData z) s
  | none => refuse q .badArgument s

/-- R181. -/
def reqReadNode (q : Asker) (address : Byte) (s : State) : State :=
  if address.toNat < 128 then answer q .ok (s.nodeData address.toNat) s else refuse q .badArgument s

/-- R112. -/
def reqReadStep (q : Asker) (step : Byte) (s : State) : State :=
  match readFin 64 step with
  | some i => answer q .ok (s.stepData i) s
  | none => refuse q .badArgument s

/-- R132. -/
def reqReadOutstanding (q : Asker) (s : State) : State := answer q .ok s.outstandingData s

/-- R61. -/
def reqReadWarnings (q : Asker) (s : State) : State := answer q .ok s.warningsData s

/-- R150. -/
def reqReadTripRecord (q : Asker) (slot : Byte) (s : State) : State :=
  match readFin 16 slot with
  | some i => answer q .ok (s.recordData i) s
  | none => refuse q .badArgument s

/-- R186. -/
def reqReadCounters (q : Asker) (group : Byte) (s : State) : State :=
  match s.counterData group.toNat with
  | some d => answer q .ok d s
  | none => refuse q .badArgument s

/-! ### Shadows and commit (R137, R138, R140) -/

/-- The place that a shadow request names, none where an argument lies outside its set (R137). -/
def readPlace (block kind first count : Byte) : Option (Fin 4 × RecordKind) :=
  match readFin 4 block, RecordKind.ofCode kind.toNat with
  | some b, some k =>
    if k.belongs b.val ∧ (List.range count.toNat).all (fun j => k.hasIndex (first.toNat + j)) then some (b, k) else none
  | _, _ => none

/-- The most data that 8 parts carry (R183, R184). -/
def dataLimit : Nat := 352

/-- R138. -/
def reqReadShadow (q : Asker) (block kind first count : Byte) (s : State) : State :=
  match readPlace block kind first count with
  | some (b, k) =>
    if count.toNat * k.size ≤ dataLimit then
      answer q .ok (s.store.shadow.recordsChars b k first.toNat count.toNat) s
    else refuse q .badArgument s
  | none => refuse q .badArgument s

/-- R137. -/
def reqWriteShadow (q : Asker) (block kind first count : Byte) (records : List Byte) (s : State) : State :=
  match readPlace block kind first count with
  | some (b, k) =>
    match s.store.shadow.writeRecords b k first.toNat count.toNat records with
    | some (shadow, wasClamped) =>
      if s.store.commit.isSome then refuse q .busy s
      else answer q (if wasClamped then .okClamped else .ok) [] { s with store.shadow := shadow }
    | none => refuse q .badArgument s
  | none => refuse q .badArgument s

/-- A named block is in the active protection (R140, check 3). -/
def State.protects (s : State) (named : Vector Bool 4) : Bool :=
  (List.finRange 4).any fun b => named[b] && s.store.activeProtection[b]

/-- The checks of R140 and the admission. -/
def commitNamed (q : Asker) (named : Vector Bool 4) (s : State) : State :=
  if !s.atRest then refuse q .wrongState s
  else if s.store.commit.isSome then refuse q .busy s
  else if s.protects named then refuse q .isProtected s
  else
    match s.shadowFault named with
    | some f => answer q .invalidPlan f.data s
    | none =>
      match s.inconsistency named with
      | some f => answer q .inconsistent f.data s
      | none => admitCommit q.src q.tag named s

/-- R140. An admitted commit is answered when it ends (R183). -/
def reqCommit (q : Asker) (mask : Byte) (s : State) : State :=
  match readBlockSet mask with
  | some named => if anyOf named then commitNamed q named s else refuse q .badArgument s
  | none => refuse q .badArgument s

/-- R143. -/
def reqSetProtection (q : Asker) (mask : Byte) (s : State) : State :=
  match readBlockSet mask with
  | some set => answer q .ok [] (queueProtection set s)
  | none => refuse q .badArgument s

/-- R143. -/
def reqReloadProtection (q : Asker) (s : State) : State :=
  if s.protectionBusy then refuse q .busy s
  else answer q .ok [] { s with store.activeProtection := s.nv.protection.active }

/-! ### Site (R76 to R78, R82, R48, R49, R41, R42) -/

/-- The restart that an accepted authorization starts (R77, R79). -/
def startRestart (s : State) : State :=
  let s := clearPeaks (clearFlags (fun _ => true) s)
  let s := recoverSlot { s with trig.tripOut := false, site.restartIncomplete := false }
  let (s, report) := startPlan .restart s
  let s := raiseNotice none (setSite .restarting s.site.level none s)
  match report with
  | some r => takeCompletion r s
  | none => s

/-- R76, R77. -/
def reqAuthorizeRestart (q : Asker) (s : State) : State :=
  if s.site.state ≠ .safeHold then refuse q .wrongState s
  else if s.trig.quietElapsed = false then refuse q .tooEarly s
  else if s.activeCondition then refuse q .sourceActive s
  else answer q .ok [] (startRestart s)

/-- The restart abandoned on request (R82). -/
def holdAborted (s : State) : State :=
  let s := abandonRun s
  let level := (s.currentRecord.map TripRecord.level).getD 2
  raiseNotice none (setSite .safeHold level (some .restartAborted) s)

/-- R82. -/
def reqAbortRestart (q : Asker) (s : State) : State :=
  if s.site.state = .restarting then answer q .ok [] (holdAborted s) else refuse q .wrongState s

/-- FORCED's level is set and its condition rises (R48). -/
def forceAt (level : Nat) (s : State) : State :=
  formRequest (setFlag srcForced { s with trig.forcedLevel := level })

/-- R48. -/
def reqForceTrip (q : Asker) (level : Byte) (s : State) : State :=
  if level.toNat = 1 ∨ level.toNat = 2 then answer q .ok [] (forceAt level.toNat s) else refuse q .badArgument s

/-- TRIP_OUT released by CLEAR_TRIGGERS (R49, R64). -/
def releaseTripOut (s : State) : State :=
  if s.site.state = .unconfigured ∧ s.activeCondition = false then { s with trig.tripOut := false } else s

/-- R49. -/
def reqClearTriggers (q : Asker) (s : State) : State :=
  answer q .ok [] (releaseTripOut (clearFlags (fun _ => true) s))

/-- R41. -/
def reqIsolateZone (q : Asker) (zone : Byte) (s : State) : State :=
  match readFin 8 zone with
  | some z => if s.atRest then answer q .ok [] (isolate z s) else refuse q .wrongState s
  | none => refuse q .badArgument s

/-- R42. -/
def reqRestoreZone (q : Asker) (zone : Byte) (s : State) : State :=
  match readFin 8 zone with
  | some z => if s.atRest then answer q .ok [] (restore z s) else refuse q .wrongState s
  | none => refuse q .badArgument s

/-! ### The unit's own (R187, R186, R188, R163, R164, R189) -/

/-- R187. -/
def reqSetTime (q : Asker) (seconds : Word32) (s : State) : State :=
  answer q .ok [] { s with mgmt.siteTime := seconds, mgmt.siteMs := 0, mgmt.secondDue := false }

/-- A channel with its four counters at 0 (R24). -/
def Channel.uncounted (c : Channel) : Channel :=
  { c with missed := 0, duplicates := 0, resyncs := 0, staleEntries := 0 }

/-- Every counter returned by READ_COUNTERS or READ_CHANNEL is 0 (R186). -/
def clearAllCounters (s : State) : State :=
  { s with
    link.sCount := {}, link.pCount := {}, router.count := {}
    channels := s.channels.map Channel.uncounted
    trig.warningsDropped := 0, trig.warningsIgnored := 0
    runner.commandsSent := 0, runner.reissues := 0, runner.strays := 0
    store.suspensions := 0
    mgmt.handled := 0, mgmt.discarded := 0 }

/-- R186. -/
def reqClearCounters (q : Asker) (s : State) : State := answer q .ok [] (clearAllCounters s)

/-- R188. -/
def reqClearCause (q : Asker) (s : State) : State :=
  answer q .ok [] { s with mgmt.causes := ⟨false, false, false⟩ }

/-- The S-port's reset accepted (R164; log 37). -/
def acceptResetS (q : Asker) (s : State) : State :=
  joinResponse (q.response .ok [] .portReset) { s with link.sReset := .pending }

/-- The P-port's reset, refused while a plan runs (R163). -/
def acceptResetP (q : Asker) (s : State) : State :=
  if s.atRest then answer q .ok [] { s with link.pReset := true } else refuse q .wrongState s

/-- R163, R164. -/
def reqResetPort (q : Asker) (port : Byte) (s : State) : State :=
  if port.toNat = 0 then acceptResetS q s
  else if port.toNat = 1 then acceptResetP q s
  else refuse q .badArgument s

/-- R189. An S-port reset that is pending or due stays so, and ends with the part reset (R164). -/
def reqResetPart (q : Asker) (s : State) : State :=
  joinResponse (q.response .ok [] .partReset) { s with mgmt.cmdReset := .pending }

/-! ### Taking a request (R183, R184, R189) -/

/-- A request by what it asks. -/
def perform (q : Asker) (r : Req) (s : State) : State :=
  match r with
  | .readStatus => reqReadStatus q s
  | .readChannel c => reqReadChannel q c s
  | .readZone z => reqReadZone q z s
  | .readNode a => reqReadNode q a s
  | .readStep i => reqReadStep q i s
  | .readOutstanding => reqReadOutstanding q s
  | .readWarnings => reqReadWarnings q s
  | .readTripRecord i => reqReadTripRecord q i s
  | .readCounters g => reqReadCounters q g s
  | .readShadow b k f c => reqReadShadow q b k f c s
  | .writeShadow b k f c r => reqWriteShadow q b k f c r s
  | .commit m => reqCommit q m s
  | .setProtection m => reqSetProtection q m s
  | .reloadProtection => reqReloadProtection q s
  | .authorizeRestart => reqAuthorizeRestart q s
  | .abortRestart => reqAbortRestart q s
  | .forceTrip l => reqForceTrip q l s
  | .clearTriggers => reqClearTriggers q s
  | .isolateZone z => reqIsolateZone q z s
  | .restoreZone z => reqRestoreZone q z s
  | .setTime t => reqSetTime q t s
  | .clearCounters => reqClearCounters q s
  | .clearCause => reqClearCause q s
  | .resetPort p => reqResetPort q p s
  | .resetPart => reqResetPart q s

/-- The request of a payload, or BAD_REQUEST (R183). -/
def performPayload (src tag : Byte) (payload : List Byte) (s : State) : State :=
  match payload with
  | [] => refuse ⟨src, tag, 0⟩ .badRequest s
  | code :: args =>
    match parseRequest code args with
    | some r => perform ⟨src, tag, code⟩ r s
    | none => refuse ⟨src, tag, code⟩ .badRequest s

/-- The unit takes a request: no commanded reset is pending, and a place of the response queue is free and not promised
to a held response (R183, R184, R189). -/
def State.takesRequest (s : State) : Bool := s.mgmt.cmdReset == .none && s.placeFree

/-- A request counted as handled (R186). -/
def countHandled (s : State) : State := { s with mgmt.handled := bump s.mgmt.handled }

/-- A request discarded unhandled (R183). -/
def discardRequest (s : State) : State := { s with mgmt.discarded := bump s.mgmt.discarded }

/-- A request handed over by the router (R170, R183). -/
def handleRequest (src tag : Byte) (payload : List Byte) (s : State) : State :=
  if s.takesRequest then performPayload src tag payload (countHandled s) else discardRequest s

end Sys2Proof.Machine
end

