-- ==== Sys2Proof/Machine/Link.lean ====
section
/-! DEFINITION. The receive side of the link ports (08_the_facility_link.md, 8.3): a character, a gap, a whole frame; and the way of a complete frame to the router and the management unit. -/

namespace Sys2Proof.Machine

/-- The start-up load has completed: the ports work (R136, R155, R161). -/
def State.isRunning (s : State) : Bool := s.phase == .running

/-! ### Per-port access -/

/-- A port's receiver. -/
def State.rx (s : State) : Port → Receiver
  | .s => s.link.sRx
  | .p => s.link.pRx

/-- A port's counters. -/
def State.portCount (s : State) : Port → PortCount
  | .s => s.link.sCount
  | .p => s.link.pCount

/-- A port's receiver and counters replaced. -/
def setPort (port : Port) (r : Receiver) (c : PortCount) (s : State) : State :=
  match port with
  | .s => { s with link.sRx := r, link.sCount := c }
  | .p => { s with link.pRx := r, link.pCount := c }

/-! ### Errors found while assembling (R156, R159) -/

/-- The lengths of a SAMPLE's payload (R158). -/
def isSampleLength (n : Nat) : Bool := n == 8 || n == 14 || n == 20 || n == 26

/-- The characters received so far hold a length error (R156, R159). -/
def lengthError : List Byte → Bool
  | _ :: _ :: kind :: _ :: len :: rest =>
    48 < len.toNat ||
      (kind == kindSample &&
        (!isSampleLength len.toNat ||
          match rest with
          | _ :: count :: _ => 6 * count.toNat + 2 != len.toNat
          | _ => false))
  | _ => false

/-- The frame that the characters make, with its check characters, once all 7+n are there (R153). -/
def wholeFrame : List Byte → Option (Frame × List Byte)
  | dst :: src :: kind :: tag :: len :: rest =>
    if rest.length = len.toNat + 2 then some (⟨dst, src, kind, tag, rest.take len.toNat⟩, rest.drop len.toNat)
    else none
  | _ => none

/-- What a character makes of a receiver and its counters, with the frame it completes. -/
structure Taken where
  rx : Receiver
  count : PortCount
  frame : Option Frame
  deriving DecidableEq, Repr

/-- A receiver passing over the rest of a damaged frame. -/
def Receiver.discarding : Receiver := ⟨.discarding, []⟩

/-- A frame begun with a marked character. -/
def Receiver.begun (v : Byte) : Receiver := ⟨.assembling, [v]⟩

/-- A frame's completion on its port: counted, malformed or not, the receiver IDLE (R155, R158). -/
def PortCount.completed (c : PortCount) (f : Frame) : PortCount :=
  { c with received := bump c.received, malformed := if f.wellFormed then c.malformed else bump c.malformed }

/-- An unmarked character added to the frame being assembled (R155, R156). -/
def addChar (v : Byte) (r : Receiver) (c : PortCount) : Taken :=
  let chars := r.chars ++ [v]
  if lengthError chars then ⟨.discarding, { c with length := bump c.length }, none⟩
  else
    match wholeFrame chars with
    | some (f, check) =>
      if check = checkChars f.body then ⟨{}, c.completed f, some f⟩
      else ⟨{}, { c with check := bump c.check }, none⟩
    | none => ⟨⟨.assembling, chars⟩, c, none⟩

/-- A character with its stop bit low (R155, R156). -/
def takeFramingError (r : Receiver) (c : PortCount) : Taken :=
  match r.phase with
  | .idle => ⟨r, { c with framing := bump c.framing }, none⟩
  | .assembling => ⟨.discarding, { c with framing := bump c.framing }, none⟩
  | .discarding => ⟨r, c, none⟩

/-- A marked character (R155, R156). -/
def takeMarked (v : Byte) (r : Receiver) (c : PortCount) : Taken :=
  match r.phase with
  | .assembling => ⟨.begun v, { c with abandoned := bump c.abandoned }, none⟩
  | .idle | .discarding => ⟨.begun v, c, none⟩

/-- An unmarked character (R155 to R157). -/
def takeUnmarked (v : Byte) (r : Receiver) (c : PortCount) : Taken :=
  match r.phase with
  | .idle => ⟨r, { c with stray := bump c.stray }, none⟩
  | .assembling => addChar v r c
  | .discarding => ⟨r, c, none⟩

/-- A character taken by a receiver (R155). -/
def takeChar (v : Byte) (marker framing : Bool) (r : Receiver) (c : PortCount) : Taken :=
  if framing then takeFramingError r c else if marker then takeMarked v r c else takeUnmarked v r c

/-! ### Completed frames (R155, R168, R170) -/

/-- A frame completed on the S-port (R170). -/
def routeS (f : Frame) (s : State) : State :=
  if s.isRequest f then handleRequest f.src f.tag f.payload s else routeThroughS f s

/-- A completed frame handed to the router with its port. -/
def route (port : Port) (f : Frame) (s : State) : State :=
  match port with
  | .s => routeS f s
  | .p => routeP f s

/-- A character arrives on a port (R155); one that completes a frame has the frame routed in the same event. -/
def characterArrives (port : Port) (v : Byte) (marker framing : Bool) (s : State) : State :=
  if s.isRunning then
    let t := takeChar v marker framing (s.rx port) (s.portCount port)
    let s := setPort port t.rx t.count s
    match t.frame with
    | some f => route port f s
    | none => s
  else s

/-- The bits of a character arrive on a port (R152). -/
def bitsArrive (port : Port) (bits : List Bool) (s : State) : State :=
  match readChar bits with
  | some (v, marker, framing) => characterArrives port v marker framing s
  | none => s

/-- The gap timer runs out (R155, R156). -/
def gapExpires (port : Port) (s : State) : State :=
  if s.isRunning then
    let c := s.portCount port
    match (s.rx port).phase with
    | .idle => s
    | .assembling => setPort port {} { c with truncated := bump c.truncated } s
    | .discarding => setPort port {} c s
  else s

/-- The receiver already holds the first characters of this frame. -/
def Receiver.holdsStartOf (r : Receiver) (f : Frame) : Bool :=
  r.chars.isPrefixOf f.chars && r.chars.length < f.chars.length

/-- The counters as a frame's first character leaves them: another frame being assembled is abandoned (R155, R156). -/
def startCount (r : Receiver) (c : PortCount) (f : Frame) : PortCount :=
  if r.phase = .assembling ∧ !r.holdsStartOf f then { c with abandoned := bump c.abandoned } else c

/-- The characters of a whole frame that are still to come arrive on a port (log 7). A frame that is too long, or a
SAMPLE whose length or count is wrong, is damaged by its length error (R156, R159). -/
def frameArrives (port : Port) (f : Frame) (s : State) : State :=
  if s.isRunning then
    let c := startCount (s.rx port) (s.portCount port) f
    if f.sizeOk then route port f (setPort port {} (c.completed f) s)
    else setPort port .discarding { c with length := bump c.length } s
  else s

/-- The MGMT_REQUEST frame to the part with this payload (R182). -/
def State.requestFrame (s : State) (src tag : Byte) (payload : List Byte) : Frame :=
  ⟨s.ownAddress, src, kindRequest, tag, payload⟩

/-- A request arrives on the S-port (R170, R182). -/
def requestArrives (src tag : Byte) (r : Req) (s : State) : State :=
  frameArrives .s (s.requestFrame src tag r.payload) s

end Sys2Proof.Machine
end

