-- ==== Sys2Proof/Machine/Transmit.lean ====
section
/-! DEFINITION. The transmit side of the link ports and the two arbiters (8.5, 8.7, 9.5), response parts (R182 to R184), and the port resets as they take effect (R163, R164). -/

namespace Sys2Proof.Machine

/-! ### Transmission ends (R161) -/

/-- The bits that a port's line carries for the frame it is sending, and its level at rest (R152, R161). -/
def State.txBits (s : State) : Port → List Bool
  | .s => lineBits (s.link.sTx.map SSending.line)
  | .p => lineBits (s.link.pTx.map PSending.line)

/-- The P-port's transmission ends; the executor hears of an injected frame's (R117, R161). -/
def pEnds (s : State) : State :=
  match s.link.pTx with
  | none => s
  | some t =>
    let s := { s with link.pTx := none, link.pCount.sent := bump s.link.pCount.sent }
    match t.source with
    | .injected tag => commandSent tag s
    | .trip | .forwarded => s

/-- A response to a RESET_PORT for the S-port is waiting (R164). -/
def State.awaitsPortReset (s : State) : Bool := s.mgmt.responses.any fun r => r.mark == .portReset

/-- The end of a marked response makes its reset due (R164, R189). -/
def resetAfter (m : ResponseMark) (s : State) : State :=
  match m with
  | .plain => s
  | .portReset =>
    if s.link.sReset = .pending ∧ s.mgmt.cmdReset = .none ∧ !s.awaitsPortReset then { s with link.sReset := .due }
    else s
  | .partReset => if s.mgmt.cmdReset = .pending then { s with mgmt.cmdReset := .due } else s

/-- The S-port's transmission ends (R161, R164, R189). -/
def sEnds (s : State) : State :=
  match s.link.sTx with
  | none => s
  | some t => resetAfter t.mark { s with link.sTx := none, link.sCount.sent := bump s.link.sCount.sent }

/-! ### The P-port arbiter (R177, R178) -/

/-- The level of the trip record that the current trip number belongs to (R177; log 25): the current record's, else that
of the record of this number changed last. -/
def State.tripLevel (s : State) : Nat :=
  match s.currentRecord with
  | some r => r.level
  | none =>
    match highestSlot (fun r => r.trip == s.site.trip && r.closure != .recovered) s.store.ring with
    | some i => (s.store.ring[i].held.map TripRecord.level).getD 2
    | none => 2

/-- The TRIP broadcast (R177). -/
def State.tripFrame (s : State) : Frame :=
  ⟨127, s.ownAddress, kindTrip, 0, u8 s.tripLevel ++ u16 s.site.trip⟩

/-- The COMMAND frame of an injection queue entry (R115, R160). -/
def State.commandFrame (s : State) (i : Injected) : Frame :=
  ⟨BitVec.ofNat 8 i.target, s.ownAddress, kindCommand, i.tag, u8 i.action.code ++ yesNo i.feed⟩

/-- The P-port starts to send a frame (R161). -/
def pSends (f : Frame) (src : PSource) (s : State) : State := { s with link.pTx := some ⟨f.line, src⟩ }

/-- The P-port arbiter may choose: its transmitter is IDLE (R178). -/
def State.pMayChoose (s : State) : Bool := s.isRunning && s.link.pTx.isNone

/-- The P-port arbiter's choice (R178). -/
def pChooses (s : State) : State :=
  if s.pMayChoose then
    if s.site.tripPending then pSends s.tripFrame .trip { s with site.tripPending := false }
    else
      match s.runner.injection, s.router.sToP with
      | i :: rest, _ => pSends (s.commandFrame i) (.injected i.tag) { s with runner.injection := rest }
      | [], f :: rest => pSends f .forwarded { s with router.sToP := rest }
      | [], [] => s
  else s

/-- Something is ready for the P-port (R178). -/
def State.pReady (s : State) : Bool :=
  s.pMayChoose && (s.site.tripPending || !s.runner.injection.isEmpty || !s.router.sToP.isEmpty)

/-! ### Response parts (R182, R184) -/

/-- The data of one part (R184). -/
def partSize : Nat := 44

/-- The parts of a response (R184). -/
def Response.parts (r : Response) : Nat := max 1 ((r.data.length + (partSize - 1)) / partSize)

/-- The payload of the part that is sent next (R182). -/
def Response.payload (r : Response) : List Byte :=
  [r.code] ++ u8 r.status.code ++ u8 r.sent ++ u8 r.parts ++ (r.data.drop (partSize * r.sent)).take partSize

/-- The frame of the part that is sent next (R182). -/
def State.responseFrame (s : State) (r : Response) : Frame :=
  ⟨r.dst, s.ownAddress, kindResponse, r.tag, r.payload⟩

/-- The response's next part is its last. -/
def Response.atLast (r : Response) : Bool := r.parts ≤ r.sent + 1

/-- The response queue once the head's next part has begun transmission (R183). -/
def afterPart (r : Response) (rest : List Response) : List Response :=
  if r.atLast then rest else { r with sent := r.sent + 1 } :: rest

/-! ### The S-port arbiter (R179) -/

/-- The S-port starts to send a frame (R161). -/
def sSends (f : Frame) (m : ResponseMark) (s : State) : State := { s with link.sTx := some ⟨f.line, m⟩ }

/-- A held response can join (R184). -/
def State.heldJoins (s : State) : Bool := !s.mgmt.held.isEmpty && s.mgmt.responses.length < responsePlaces

/-- The S-port reset is due. While a commanded reset is pending it does not take effect, and ends with it (R164, R189). -/
def State.sResetDue (s : State) : Bool := s.link.sReset == .due && s.mgmt.cmdReset == .none

/-- The S-port arbiter may choose: its transmitter is IDLE (R179). -/
def State.sMayChoose (s : State) : Bool := s.isRunning && s.link.sTx.isNone

/-- The arbiter takes from the response queue alone (R164, R189). -/
def State.responsesOnly (s : State) : Bool := s.link.sReset != .none || s.mgmt.cmdReset != .none

/-- The choice of notice or forwarded frame (R179). -/
def sChoosesOther (s : State) : State :=
  match s.router.notice, s.router.pToS with
  | some f, _ => sSends f .plain { s with router.notice := none }
  | none, f :: rest => sSends f .plain { s with router.pToS := rest }
  | none, [] => s

/-- The S-port arbiter's choice (R179). -/
def sChooses (s : State) : State :=
  if s.sMayChoose then
    match s.mgmt.responses with
    | r :: rest =>
      sSends (s.responseFrame r) (if r.atLast then r.mark else .plain)
        { s with mgmt.responses := afterPart r rest }
    | [] => if s.responsesOnly then s else sChoosesOther s
  else s

/-- Something is ready for the S-port (R179). -/
def State.sReady (s : State) : Bool :=
  s.sMayChoose &&
    (!s.mgmt.responses.isEmpty || (!s.responsesOnly && (s.router.notice.isSome || !s.router.pToS.isEmpty)))

/-! ### Held responses (R184) -/

/-- The first held response joins the response queue where a place is free (R184). -/
def heldResponseJoins (s : State) : State :=
  match s.mgmt.held with
  | r :: rest =>
    if s.mgmt.responses.length < responsePlaces then joinResponse r { s with mgmt.held := rest } else s
  | [] => s

/-- Every held response for which there is a place joins, in turn (R184). -/
def heldResponsesJoin (s : State) : State :=
  let places := responsePlaces - s.mgmt.responses.length
  { s with
    mgmt.responses := s.mgmt.responses ++ s.mgmt.held.take places
    mgmt.held := s.mgmt.held.drop places }

/-! ### Port resets (R163, R164) -/

/-- The S-port reset takes effect (R164, R184). -/
def sResetTakesEffect (s : State) : State :=
  if s.sResetDue then
    { s with
      link.sRx := {}, link.sCount := {}, link.sReset := .none
      router.pToS := [], router.notice := none
      mgmt.responses := [], mgmt.held := [] }
  else s

/-- The P-port reset is due (R163). -/
def State.pResetDue (s : State) : Bool := s.link.pReset && s.link.pTx.isNone

/-- The P-port reset takes effect (R163). -/
def pResetTakesEffect (s : State) : State :=
  if s.pResetDue then
    { s with link.pRx := {}, link.pCount := {}, link.pReset := false, router.sToP := [] }
  else s

end Sys2Proof.Machine
end

