-- ==== Sys2Proof/Machine/FollowUps.lean ====
section
/-! DEFINITION. What follows an event at once (R84, R144, R163, R164, R178, R179, R184, R189): the table has a row for each of these follow-ups, and no other command comes between an event and what follows it (log 3). -/

namespace Sys2Proof.Machine

/-! ### Each follow-up, where it is due -/

/-- A part reset's start-up load begins with the straps as read (R136, R152, R188). -/
def beginLoad (addr rate : Fin 4) (s : State) : State :=
  { s with phase := .loading, mgmt.straps := ⟨addr, rate⟩, mgmt.loadTimer := 5 }

/-- The commanded reset takes effect, where it is due (R189). -/
def commandedReset (addr rate : Fin 4) (s : State) : State :=
  if s.isRunning ∧ s.mgmt.cmdReset = .due then
    beginLoad addr rate
      { partReset .loading s with mgmt.causes := { s.mgmt.causes with commanded := true } }
  else s

/-- The commanded reset where no command gives the straps: they are as last read (log 11). -/
def commandedResetFollows (s : State) : State := commandedReset s.mgmt.straps.addr s.mgmt.straps.rate s

/-- The site is in ARMED or SAFE_HOLD with a deferred activation (R84). -/
def State.activationDue (s : State) : Bool :=
  s.site.activationPending && (s.site.state == .armed || s.site.state == .safeHold)

/-- The deferred activation is applied, where it is due (R84, R142). -/
def activationFollows (s : State) : State := if s.isRunning && s.activationDue then activate s else s

/-- The S-port reset takes effect, where it is due (R164). -/
def sResetFollows (s : State) : State := if s.isRunning then sResetTakesEffect s else s

/-- The P-port reset takes effect, where it is due (R163). -/
def pResetFollows (s : State) : State := if s.isRunning then pResetTakesEffect s else s

/-- Held responses join the response queue, where it has places (R184). -/
def heldFollow (s : State) : State := if s.isRunning then heldResponsesJoin s else s

/-- The write queue takes up its next write, where none is in progress (R144). -/
def takeUpFollows (s : State) : State :=
  if s.isRunning && s.writeWaits then { s with store := s.store.takeUp } else s

/-! ### All of them, in their order -/

/-- The follow-ups in the order in which they are taken. Resets come before the arbiters' choices (R163, R164, R189), and so
does the deferred activation, which belongs to the entry that lets it be applied (R84): the arbiters choose at the end of the
event (R178, R179). A place that the S-port arbiter frees is a held response's in the same event (R184). -/
def followUpSteps : List (State → State) :=
  [commandedResetFollows, activationFollows, sResetFollows, pResetFollows, heldFollow, pChooses, sChooses, heldFollow,
    takeUpFollows]

/-- The state with the first `k` follow-ups taken, where they are due. -/
def State.caughtUpTo (k : Nat) (s : State) : State := (followUpSteps.take k).foldl (fun s f => f s) s

/-- The state with every follow-up taken. -/
def State.caughtUp (s : State) : State := s.caughtUpTo 9

/-- The meaning of a command that is an event of its own: it finds taken all that follows the events before it. An arbiter's
choice on an idle port is thereby made before anything else is taken, as at the end of the event that made something ready
(R178, R179; log 3). -/
def event (f : State → State) (s : State) : Host.Outcome State Fault Refusal := .next (f s.caughtUp)

end Sys2Proof.Machine
end

