-- ==== Sys2Proof/Machine/Time.lean ====
section
/-! DEFINITION. What happens with time (00_scope.md, Numbers and units): one tick of the 1 ms time base, and which event the part takes next of itself on an empty queue (logs 2, 3). -/

namespace Sys2Proof.Machine

/-! ### One tick -/

/-- The millisecond count's advance; past 999 the second becomes due (R187; log 15). -/
def advanceMs (m : Mgmt) : Mgmt :=
  if 999 ≤ m.siteMs then { m with secondDue := true } else { m with siteMs := m.siteMs + 1 }

/-- A channel's timer (R12). A timer that has run down holds 0 until its expiry is taken at the same time base value, and
READ_CHANNEL taken in between shows 0 ms, beside R2's "stopped, or 1..2000" (DESIGN CHOICE, log 43). -/
def Channel.tick (c : Channel) : Channel := { c with staleTimer := countDown c.staleTimer }

/-- A node's time since heard (R166). -/
def NodeRt.tick (r : NodeRt) : NodeRt := { r with heard := bump r.heard }

/-- A step's timer (R94). One that has run down holds 0 until its expiry is taken at the same time base value, and
READ_STEP taken in between shows 0 ms (DESIGN CHOICE, log 43). -/
def Step.tick (r : Step) : Step := { r with timer := countDown r.timer }

/-- An entry's deadline (R113). A deadline that has run down holds 0 until its expiry is taken at the same time base value,
and READ_OUTSTANDING (R132) taken in between shows 0 ms, beside R113's "not running, or 1..10000" (DESIGN CHOICE,
log 43). -/
def Entry.tick (e : Entry) : Entry := { e with deadline := countDown e.deadline }

/-- The executor's timers. -/
def Runner.tick (r : Runner) : Runner :=
  { r with steps := r.steps.map Step.tick, outstanding := r.outstanding.map Entry.tick }

/-- The write in progress (R144). -/
def Writing.tick (w : Writing) : Writing := { w with left := w.left - 1 }

/-- Every timer of the blocks after one tick. The quiet timer too holds 0, and READ_STATUS shows 0 ms and quiet_elapsed
not yet true, until its expiry is taken at the same time base value (DESIGN CHOICE, log 43). -/
def tickTimers (s : State) : State :=
  { s with
    now := s.now + 1
    mgmt := advanceMs s.mgmt
    channels := s.channels.map Channel.tick
    router.nodes := s.router.nodes.map NodeRt.tick
    trig.quiet := countDown s.trig.quiet
    runner := s.runner.tick
    store.writing := s.store.writing.map Writing.tick }

/-- All five inputs sampled (R53). -/
def sampleAll (s : State) : State := (List.finRange 5).foldl (fun s i => sampleInput i s) s

/-- One millisecond by the part's situation: in service every timer runs; in the start-up load only the time base, site
time and the load itself; held or unpowered, nothing (R136, R187; logs 10, 12). -/
def tick (s : State) : State :=
  match s.phase with
  | .running => sampleAll (tickTimers s)
  | .loading =>
    { s with now := s.now + 1, mgmt := { advanceMs s.mgmt with loadTimer := s.mgmt.loadTimer - 1 } }
  | .held | .unpowered => s

/-! ### What is due -/

/-- The event of the first place of a row for which it is due. -/
def firstDue {n : Nat} (due : Fin n → Bool) (c : Fin n → Instr) : Option Instr := ((List.finRange n).find? due).map c

/-- A command, if it is due. -/
def ifDue (due : Bool) (c : Instr) : Option Instr := if due then some c else none

/-- The stamps of a channel that are due (R34). -/
def State.onsetStampDue (s : State) (i : Fin 32) : Bool := stampDue s.now s.voter.members[i].onsetUntil

/-- As for onset. -/
def State.strongStampDue (s : State) (i : Fin 32) : Bool := stampDue s.now s.voter.members[i].strongUntil

/-- The quiet timer has run out (R62). -/
def State.quietDue (s : State) : Bool := s.trig.quiet == some 0

/-- The event in which a finished write ends (R141, R143, R144); a block's read-back is a free value (log 5). -/
def State.writeEndDue (s : State) : Option Instr :=
  match s.writeEnded with
  | some (.record _) => some .recordWriteEnd
  | some (.other (.block _)) => some (.blockProgramEnd (Config.readBackPasses s.freeIndex))
  | some (.other (.protection _)) => some .protectionWriteEnd
  | none => none

/-- The follow-ups of an event just taken, each as its own row: on an empty queue they come one after another before
anything else (log 3). -/
def State.followUps (s : State) : List (Option Instr) :=
  [ifDue (s.mgmt.cmdReset == .due) (.commandedReset s.mgmt.straps.addr s.mgmt.straps.rate),
    ifDue s.activationDue .deferredActivation,
    ifDue s.sResetDue .sPortResetEffect,
    ifDue s.pResetDue .pPortResetEffect,
    ifDue s.heldJoins .heldResponseJoin,
    ifDue s.pReady .pArbiterChoice,
    ifDue s.sReady .sArbiterChoice,
    ifDue s.writeWaits .nvWriteTakeUp]

/-- No follow-up is due. -/
def State.nothingFollows (s : State) : Bool := s.followUps.all Option.isNone

/-- The timers and inputs that are due. -/
def State.timeouts (s : State) : List (Option Instr) :=
  [ifDue s.mgmt.secondDue .siteTimeSecond,
    firstDue (n := 4) (fun i => s.inputDue i.castSucc) .tripInDebouncedChange,
    ifDue (s.inputDue 4) .utilityOkDebouncedChange,
    ifDue s.feedDue .feedDwellExpiry,
    firstDue s.warningDue .warningExpiry,
    firstDue s.staleDue .staleTimerExpiry,
    firstDue s.onsetStampDue .onsetUntilExpiry,
    firstDue s.strongStampDue .strongUntilExpiry,
    ifDue s.quietDue .quietTimerExpiry,
    firstDue (s.stepDue .waitingDwell) .dwellExpiry,
    firstDue s.deadlineDue .replyDeadlineExpiry,
    firstDue (s.stepDue .awaitingState) .readyTimeoutExpiry,
    firstDue (s.stepDue .settling) .settleExpiry,
    s.writeEndDue]

/-- What the part does next of itself: the first due event, none where it only waits. -/
def State.nextDue (s : State) : Option Instr :=
  match s.phase with
  | .running => (s.followUps ++ s.timeouts).findSome? id
  | .loading => if s.mgmt.secondDue then some .siteTimeSecond else ifDue (s.mgmt.loadTimer == 0) .startUpLoadComplete
  | .held | .unpowered => none

/-- The state in which the next due event is taken: a free value that it uses is used up (log 5). -/
def State.afterDraw (s : State) : State :=
  match s.nextDue with
  | some (.blockProgramEnd _) => { s with freeIndex := s.freeIndex + 1 }
  | _ => s

end Sys2Proof.Machine
end

