-- ==== Sys2Proof/Machine/Receiving.lean ====
section
/-! DEFINITION. The meanings of the receiving rows: characters, gaps and whole frames. -/

namespace Sys2Proof.Machine

/-- RECEIVE_CHARACTER: the 11 bits of the character arrive, the stop bit low where it has a framing error (R152, R155 to
R157). -/
def execReceiveCharacter (port : Port) (value : Byte) (marker framing : Bool) (s : State) :
    Host.Outcome State Fault Refusal := event (bitsArrive port (charBits value marker !framing)) s

/-- RECEIVE_GAP_EXPIRY (R155, R156). -/
def execReceiveGapExpiry (port : Port) (s : State) : Host.Outcome State Fault Refusal := event (gapExpires port) s

/-- P_SAMPLE_FRAME (R4, R5, R168, R169). -/
def execPSampleFrame (dst src tag : Byte) (payload : List Byte) (s : State) : Host.Outcome State Fault Refusal :=
  event (frameArrives .p ⟨dst, src, kindSample, tag, payload⟩) s

/-- P_WARNING_FRAME (R57 to R60, R168, R169). -/
def execPWarningFrame (dst src tag : Byte) (payload : List Byte) (s : State) : Host.Outcome State Fault Refusal :=
  event (frameArrives .p ⟨dst, src, kindWarning, tag, payload⟩) s

/-- P_REPLY_FRAME (R118 to R124, R168, R169). -/
def execPReplyFrame (dst src tag : Byte) (payload : List Byte) (s : State) : Host.Outcome State Fault Refusal :=
  event (frameArrives .p ⟨dst, src, kindReply, tag, payload⟩) s

/-- P_STATUS_FRAME (R123, R124, R168, R169). -/
def execPStatusFrame (dst src tag : Byte) (payload : List Byte) (s : State) : Host.Outcome State Fault Refusal :=
  event (frameArrives .p ⟨dst, src, kindStatus, tag, payload⟩) s

/-- P_OTHER_FRAME (R168, R169). -/
def execPOtherFrame (dst src kind tag : Byte) (payload : List Byte) (s : State) : Host.Outcome State Fault Refusal :=
  event (frameArrives .p ⟨dst, src, kind, tag, payload⟩) s

/-- S_COMMAND_FRAME (R171 to R174). -/
def execSCommandFrame (dst src tag : Byte) (payload : List Byte) (s : State) : Host.Outcome State Fault Refusal :=
  event (frameArrives .s ⟨dst, src, kindCommand, tag, payload⟩) s

/-- S_OTHER_FRAME (R170, R174). -/
def execSOtherFrame (dst src kind tag : Byte) (payload : List Byte) (s : State) : Host.Outcome State Fault Refusal :=
  event (frameArrives .s ⟨dst, src, kind, tag, payload⟩) s

end Sys2Proof.Machine
end

