-- ==== Sys2Proof/Machine/Requests.lean ====
section
/-! DEFINITION. The meanings of the request rows: each is the arrival of its MGMT_REQUEST on the S-port (R170, R182, R183), whose effect stands in Management.lean. -/

namespace Sys2Proof.Machine

/-- UNKNOWN_REQUEST (R183). -/
def execUnknownRequest (src tag : Byte) (payload : List Byte) (s : State) : Host.Outcome State Fault Refusal :=
  event (fun s => frameArrives .s (s.requestFrame src tag payload) s) s

/-- READ_STATUS (R185). -/
def execReadStatus (src tag : Byte) (s : State) : Host.Outcome State Fault Refusal :=
  event (requestArrives src tag .readStatus) s

/-- READ_CHANNEL (R25). -/
def execReadChannel (src tag channel : Byte) (s : State) : Host.Outcome State Fault Refusal :=
  event (requestArrives src tag (.readChannel channel)) s

/-- READ_ZONE (R44). -/
def execReadZone (src tag zone : Byte) (s : State) : Host.Outcome State Fault Refusal :=
  event (requestArrives src tag (.readZone zone)) s

/-- READ_NODE (R181). -/
def execReadNode (src tag address : Byte) (s : State) : Host.Outcome State Fault Refusal :=
  event (requestArrives src tag (.readNode address)) s

/-- READ_STEP (R112). -/
def execReadStep (src tag step : Byte) (s : State) : Host.Outcome State Fault Refusal :=
  event (requestArrives src tag (.readStep step)) s

/-- READ_OUTSTANDING (R132). -/
def execReadOutstanding (src tag : Byte) (s : State) : Host.Outcome State Fault Refusal :=
  event (requestArrives src tag .readOutstanding) s

/-- READ_WARNINGS (R61). -/
def execReadWarnings (src tag : Byte) (s : State) : Host.Outcome State Fault Refusal :=
  event (requestArrives src tag .readWarnings) s

/-- READ_TRIP_RECORD (R150). -/
def execReadTripRecord (src tag slot : Byte) (s : State) : Host.Outcome State Fault Refusal :=
  event (requestArrives src tag (.readTripRecord slot)) s

/-- READ_COUNTERS (R186). -/
def execReadCounters (src tag group : Byte) (s : State) : Host.Outcome State Fault Refusal :=
  event (requestArrives src tag (.readCounters group)) s

/-- READ_SHADOW (R138). -/
def execReadShadow (src tag block kind first count : Byte) (s : State) : Host.Outcome State Fault Refusal :=
  event (requestArrives src tag (.readShadow block kind first count)) s

/-- WRITE_SHADOW (R137). -/
def execWriteShadow (src tag block kind first count : Byte) (records : List Byte) (s : State) :
    Host.Outcome State Fault Refusal :=
  event (requestArrives src tag (.writeShadow block kind first count records)) s

/-- COMMIT (R140, R141). -/
def execCommit (src tag mask : Byte) (s : State) : Host.Outcome State Fault Refusal :=
  event (requestArrives src tag (.commit mask)) s

/-- SET_PROTECTION (R143). -/
def execSetProtection (src tag mask : Byte) (s : State) : Host.Outcome State Fault Refusal :=
  event (requestArrives src tag (.setProtection mask)) s

/-- RELOAD_PROTECTION (R143). -/
def execReloadProtection (src tag : Byte) (s : State) : Host.Outcome State Fault Refusal :=
  event (requestArrives src tag .reloadProtection) s

/-- AUTHORIZE_RESTART (R76 to R79). -/
def execAuthorizeRestart (src tag : Byte) (s : State) : Host.Outcome State Fault Refusal :=
  event (requestArrives src tag .authorizeRestart) s

/-- ABORT_RESTART (R82). -/
def execAbortRestart (src tag : Byte) (s : State) : Host.Outcome State Fault Refusal :=
  event (requestArrives src tag .abortRestart) s

/-- FORCE_TRIP (R48). -/
def execForceTrip (src tag level : Byte) (s : State) : Host.Outcome State Fault Refusal :=
  event (requestArrives src tag (.forceTrip level)) s

/-- CLEAR_TRIGGERS (R49, R64). -/
def execClearTriggers (src tag : Byte) (s : State) : Host.Outcome State Fault Refusal :=
  event (requestArrives src tag .clearTriggers) s

/-- ISOLATE_ZONE (R41). -/
def execIsolateZone (src tag zone : Byte) (s : State) : Host.Outcome State Fault Refusal :=
  event (requestArrives src tag (.isolateZone zone)) s

/-- RESTORE_ZONE (R42). -/
def execRestoreZone (src tag zone : Byte) (s : State) : Host.Outcome State Fault Refusal :=
  event (requestArrives src tag (.restoreZone zone)) s

/-- SET_TIME (R187). -/
def execSetTime (src tag : Byte) (seconds : Word32) (s : State) : Host.Outcome State Fault Refusal :=
  event (requestArrives src tag (.setTime seconds)) s

/-- CLEAR_COUNTERS (R186). -/
def execClearCounters (src tag : Byte) (s : State) : Host.Outcome State Fault Refusal :=
  event (requestArrives src tag .clearCounters) s

/-- CLEAR_CAUSE (R188). -/
def execClearCause (src tag : Byte) (s : State) : Host.Outcome State Fault Refusal :=
  event (requestArrives src tag .clearCause) s

/-- RESET_PORT_S (R164). -/
def execResetPortS (src tag : Byte) (s : State) : Host.Outcome State Fault Refusal :=
  event (requestArrives src tag (.resetPort 0)) s

/-- RESET_PORT_P (R163). -/
def execResetPortP (src tag : Byte) (s : State) : Host.Outcome State Fault Refusal :=
  event (requestArrives src tag (.resetPort 1)) s

/-- RESET_PART (R189). -/
def execResetPart (src tag : Byte) (s : State) : Host.Outcome State Fault Refusal :=
  event (requestArrives src tag .resetPart) s

end Sys2Proof.Machine
end

