-- ==== Sys2Proof/Machine/Resets.lean ====
section
/-! DEFINITION. The meanings of the reset and power rows. -/

namespace Sys2Proof.Machine

/-- POWER_ON_RESET (R136, R187, R188). -/
def execPowerOnReset (addr rate : Fin 4) (s : State) : Host.Outcome State Fault Refusal :=
  event (fun s => beginLoad addr rate
    { partReset .loading s with
      mgmt.siteTime := 0, mgmt.siteMs := 0, mgmt.secondDue := false, mgmt.causes := ⟨true, false, false⟩ }) s

/-- RESET_PIN_ASSERT (R188): the part holds its reset values. -/
def execResetPinAssert (s : State) : Host.Outcome State Fault Refusal :=
  event (fun s => match s.phase with
    | .running | .loading => { partReset .held s with mgmt.causes := { s.mgmt.causes with pin := true } }
    | .held | .unpowered => s) s

/-- RESET_PIN_RELEASE (R136, R187). -/
def execResetPinRelease (addr rate : Fin 4) (s : State) : Host.Outcome State Fault Refusal :=
  event (fun s => match s.phase with
    | .held => beginLoad addr rate s
    | .running | .loading | .unpowered => s) s

/-- START_UP_LOAD_COMPLETE (R66, R136). -/
def execStartUpLoadComplete (s : State) : Host.Outcome State Fault Refusal :=
  event (fun s => match s.phase with
    | .loading => completeLoad s
    | .running | .held | .unpowered => s) s

/-- COMMANDED_RESET (R189): the first of the follow-ups, with the straps read. -/
def execCommandedReset (addr rate : Fin 4) (s : State) : Host.Outcome State Fault Refusal :=
  .next (commandedReset addr rate s)

/-- LOSS_OF_POWER (R146). -/
def execLossOfPower (s : State) : Host.Outcome State Fault Refusal := event (partReset .unpowered) s

end Sys2Proof.Machine
end

