-- ==== Sys2Proof/Machine/Timers.lean ====
section
/-! DEFINITION. The meanings of the timer and input rows. An expiry that is not due, or that falls while the part is not in service, changes nothing (log 1). -/

namespace Sys2Proof.Machine

/-- An event of the part's own takes place where the part is in service and the event is due (log 1). -/
def whenDue (due : State → Bool) (f : State → State) (s : State) : Host.Outcome State Fault Refusal :=
  event (fun s => if s.isRunning && due s then f s else s) s

/-- STALE_TIMER_EXPIRY (R12). -/
def execStaleTimerExpiry (i : Fin 32) (s : State) : Host.Outcome State Fault Refusal :=
  whenDue (fun s => s.staleDue i) (staleExpired i) s

/-- ONSET_UNTIL_EXPIRY (R34). -/
def execOnsetUntilExpiry (i : Fin 32) (s : State) : Host.Outcome State Fault Refusal :=
  whenDue (fun s => s.onsetStampDue i) (onsetStampExpired i) s

/-- STRONG_UNTIL_EXPIRY (R34). -/
def execStrongUntilExpiry (i : Fin 32) (s : State) : Host.Outcome State Fault Refusal :=
  whenDue (fun s => s.strongStampDue i) (strongStampExpired i) s

/-- The debounced level of a trip station changes; its CONTACT condition rises or ends (R53, R54). -/
def contactChanges (i : Fin 4) (s : State) : State :=
  let s := flipInput i.castSucc s
  if s.trig.inputs[i.castSucc].active then latch (srcContact i) s else s

/-- TRIP_IN_DEBOUNCED_CHANGE (R53, R54). -/
def execTripInDebouncedChange (i : Fin 4) (s : State) : Host.Outcome State Fault Refusal :=
  whenDue (fun s => s.inputDue i.castSucc) (contactChanges i) s

/-- UTILITY_OK_DEBOUNCED_CHANGE (R53, R55). -/
def execUtilityOkDebouncedChange (s : State) : Host.Outcome State Fault Refusal :=
  whenDue (fun s => s.inputDue 4) utilityChanged s

/-- FEED_DWELL_EXPIRY (R55, R56, R102). -/
def execFeedDwellExpiry (s : State) : Host.Outcome State Fault Refusal := whenDue State.feedDue feedRises s

/-- WARNING_EXPIRY (R60). -/
def execWarningExpiry (i : Fin 4) (s : State) : Host.Outcome State Fault Refusal :=
  whenDue (fun s => s.warningDue i) (warningExpired i) s

/-- The quiet timer reaches 0: it stops, and the quiet time has elapsed (R62). -/
def quietEnds (s : State) : State := { s with trig.quiet := none, trig.quietElapsed := true }

/-- QUIET_TIMER_EXPIRY (R62). -/
def execQuietTimerExpiry (s : State) : Host.Outcome State Fault Refusal := whenDue State.quietDue quietEnds s

/-- DWELL_EXPIRY (R99, R100). -/
def execDwellExpiry (i : Fin 64) (s : State) : Host.Outcome State Fault Refusal :=
  whenDue (fun s => s.stepDue .waitingDwell i) (runEvent (dwellExpired i)) s

/-- REPLY_DEADLINE_EXPIRY (R121). -/
def execReplyDeadlineExpiry (i : Fin 64) (s : State) : Host.Outcome State Fault Refusal :=
  whenDue (fun s => s.deadlineDue i) (runEvent (deadlineExpired i)) s

/-- READY_TIMEOUT_EXPIRY (R125). -/
def execReadyTimeoutExpiry (i : Fin 64) (s : State) : Host.Outcome State Fault Refusal :=
  whenDue (fun s => s.stepDue .awaitingState i) (runEvent (readyExpired i)) s

/-- SETTLE_EXPIRY (R126). -/
def execSettleExpiry (i : Fin 64) (s : State) : Host.Outcome State Fault Refusal :=
  whenDue (fun s => s.stepDue .settling i) (runEvent (settleExpired i)) s

/-- Site time runs: in service and through the start-up load (R187). -/
def State.timeRuns (s : State) : Bool := s.phase == .running || s.phase == .loading

/-- SITE_TIME_SECOND (R187). -/
def execSiteTimeSecond (s : State) : Host.Outcome State Fault Refusal :=
  event (fun s => if s.timeRuns && s.mgmt.secondDue then
      { s with mgmt.siteTime := s.mgmt.siteTime + 1, mgmt.siteMs := 0, mgmt.secondDue := false }
    else s) s

/-- A pin's level set (8.10). -/
def setPin (i : Fin 5) (high : Bool) (p : Pins) : Pins :=
  if h : i.val < 4 then { p with trip := p.trip.set i.val high } else { p with utility := high }

/-- The level of a pin. -/
def Pins.level (p : Pins) (i : Fin 5) : Bool := if h : i.val < 4 then p.trip[i.val] else p.utility

/-- RAW_INPUT_LEVEL_CHANGE: the pin takes its new level, which the next millisecond's sample finds (R53; log 16). -/
def execRawInputLevelChange (i : Fin 5) (high : Bool) (s : State) : Host.Outcome State Fault Refusal :=
  event (fun s => { s with pins := setPin i high s.pins }) s

end Sys2Proof.Machine
end

