-- ==== Sys2Proof/Machine/Transmitting.lean ====
section
/-! DEFINITION. The meanings of the transmitting rows and of the port resets as they take effect. -/

namespace Sys2Proof.Machine

/-- P_TRANSMISSION_END (R117, R161). -/
def execPTransmissionEnd (s : State) : Host.Outcome State Fault Refusal :=
  event (fun s => if s.isRunning then pEnds s else s) s

/-- S_TRANSMISSION_END (R161, R164, R189). -/
def execSTransmissionEnd (s : State) : Host.Outcome State Fault Refusal :=
  event (fun s => if s.isRunning then sEnds s else s) s

/-! ### Follow-ups: each finds those before it in their order taken (log 3) -/

/-- S_PORT_RESET_EFFECT (R164). -/
def execSPortResetEffect (s : State) : Host.Outcome State Fault Refusal := .next (sResetFollows (s.caughtUpTo 2))

/-- P_PORT_RESET_EFFECT (R163). -/
def execPPortResetEffect (s : State) : Host.Outcome State Fault Refusal := .next (pResetFollows (s.caughtUpTo 3))

/-- One held response joins (R184). -/
def heldJoin (s : State) : State := if s.isRunning then heldResponseJoins s else s

/-- HELD_RESPONSE_JOIN (R184). -/
def execHeldResponseJoin (s : State) : Host.Outcome State Fault Refusal := .next (heldJoin (s.caughtUpTo 4))

/-- P_ARBITER_CHOICE (R177, R178). -/
def execPArbiterChoice (s : State) : Host.Outcome State Fault Refusal := .next (pChooses (s.caughtUpTo 5))

/-- S_ARBITER_CHOICE (R179, R183). -/
def execSArbiterChoice (s : State) : Host.Outcome State Fault Refusal := .next (sChooses (s.caughtUpTo 6))

end Sys2Proof.Machine
end

