-- ==== Sys2Proof/Machine/Writes.lean ====
section
/-! DEFINITION. The meanings of the non-volatile write rows and of the deferred activation. -/

namespace Sys2Proof.Machine

/-- NV_WRITE_TAKE_UP (R144). -/
def execNvWriteTakeUp (s : State) : Host.Outcome State Fault Refusal :=
  .next (takeUpFollows (s.caughtUpTo 8))

/-- RECORD_WRITE_END (R144). -/
def execRecordWriteEnd (s : State) : Host.Outcome State Fault Refusal :=
  event (fun s => match s.isRunning, s.writeEnded with
    | true, some (.record w) => recordWritten w s
    | _, _ => s) s

/-- BLOCK_PROGRAM_END (R141, R142). -/
def execBlockProgramEnd (passes : Bool) (s : State) : Host.Outcome State Fault Refusal :=
  event (fun s => match s.isRunning, s.writeEnded with
    | true, some (.other (.block b)) => blockWritten b passes s
    | _, _ => s) s

/-- PROTECTION_WRITE_END (R143). -/
def execProtectionWriteEnd (s : State) : Host.Outcome State Fault Refusal :=
  event (fun s => match s.isRunning, s.writeEnded with
    | true, some (.other (.protection set)) => protectionWritten set s
    | _, _ => s) s

/-- DEFERRED_ACTIVATION (R84, R142). -/
def execDeferredActivation (s : State) : Host.Outcome State Fault Refusal :=
  .next (activationFollows (s.caughtUpTo 1))

end Sys2Proof.Machine
end

