-- ==== Sys2Proof/Machine/Dispatch.lean ====
section
/-! DEFINITION. Every command with its meaning. -/

namespace Sys2Proof.Machine

/-- The effect of a command on everything but the queue of waiting commands. -/
def exec (i : Instr) (s : State) : Host.Outcome State Fault Refusal :=
  match i with
  | .powerOnReset addr rate => Sys2Proof.Machine.execPowerOnReset addr rate s
  | .resetPinAssert => Sys2Proof.Machine.execResetPinAssert s
  | .resetPinRelease addr rate => Sys2Proof.Machine.execResetPinRelease addr rate s
  | .startUpLoadComplete => Sys2Proof.Machine.execStartUpLoadComplete s
  | .commandedReset addr rate => Sys2Proof.Machine.execCommandedReset addr rate s
  | .sPortResetEffect => Sys2Proof.Machine.execSPortResetEffect s
  | .pPortResetEffect => Sys2Proof.Machine.execPPortResetEffect s
  | .receiveCharacter port value marker framing => Sys2Proof.Machine.execReceiveCharacter port value marker framing s
  | .receiveGapExpiry port => Sys2Proof.Machine.execReceiveGapExpiry port s
  | .pSampleFrame dst src tag payload => Sys2Proof.Machine.execPSampleFrame dst src tag payload s
  | .pWarningFrame dst src tag payload => Sys2Proof.Machine.execPWarningFrame dst src tag payload s
  | .pReplyFrame dst src tag payload => Sys2Proof.Machine.execPReplyFrame dst src tag payload s
  | .pStatusFrame dst src tag payload => Sys2Proof.Machine.execPStatusFrame dst src tag payload s
  | .pOtherFrame dst src kind tag payload => Sys2Proof.Machine.execPOtherFrame dst src kind tag payload s
  | .sCommandFrame dst src tag payload => Sys2Proof.Machine.execSCommandFrame dst src tag payload s
  | .sOtherFrame dst src kind tag payload => Sys2Proof.Machine.execSOtherFrame dst src kind tag payload s
  | .unknownRequest src tag payload => Sys2Proof.Machine.execUnknownRequest src tag payload s
  | .readStatus src tag => Sys2Proof.Machine.execReadStatus src tag s
  | .readChannel src tag channel => Sys2Proof.Machine.execReadChannel src tag channel s
  | .readZone src tag zone => Sys2Proof.Machine.execReadZone src tag zone s
  | .readNode src tag address => Sys2Proof.Machine.execReadNode src tag address s
  | .readStep src tag step => Sys2Proof.Machine.execReadStep src tag step s
  | .readOutstanding src tag => Sys2Proof.Machine.execReadOutstanding src tag s
  | .readWarnings src tag => Sys2Proof.Machine.execReadWarnings src tag s
  | .readTripRecord src tag slot => Sys2Proof.Machine.execReadTripRecord src tag slot s
  | .readCounters src tag group => Sys2Proof.Machine.execReadCounters src tag group s
  | .readShadow src tag block kind first count => Sys2Proof.Machine.execReadShadow src tag block kind first count s
  | .writeShadow src tag block kind first count records => Sys2Proof.Machine.execWriteShadow src tag block kind first count records s
  | .commit src tag mask => Sys2Proof.Machine.execCommit src tag mask s
  | .setProtection src tag mask => Sys2Proof.Machine.execSetProtection src tag mask s
  | .reloadProtection src tag => Sys2Proof.Machine.execReloadProtection src tag s
  | .authorizeRestart src tag => Sys2Proof.Machine.execAuthorizeRestart src tag s
  | .abortRestart src tag => Sys2Proof.Machine.execAbortRestart src tag s
  | .forceTrip src tag level => Sys2Proof.Machine.execForceTrip src tag level s
  | .clearTriggers src tag => Sys2Proof.Machine.execClearTriggers src tag s
  | .isolateZone src tag zone => Sys2Proof.Machine.execIsolateZone src tag zone s
  | .restoreZone src tag zone => Sys2Proof.Machine.execRestoreZone src tag zone s
  | .setTime src tag seconds => Sys2Proof.Machine.execSetTime src tag seconds s
  | .clearCounters src tag => Sys2Proof.Machine.execClearCounters src tag s
  | .clearCause src tag => Sys2Proof.Machine.execClearCause src tag s
  | .resetPortS src tag => Sys2Proof.Machine.execResetPortS src tag s
  | .resetPortP src tag => Sys2Proof.Machine.execResetPortP src tag s
  | .resetPart src tag => Sys2Proof.Machine.execResetPart src tag s
  | .pTransmissionEnd => Sys2Proof.Machine.execPTransmissionEnd s
  | .sTransmissionEnd => Sys2Proof.Machine.execSTransmissionEnd s
  | .pArbiterChoice => Sys2Proof.Machine.execPArbiterChoice s
  | .sArbiterChoice => Sys2Proof.Machine.execSArbiterChoice s
  | .heldResponseJoin => Sys2Proof.Machine.execHeldResponseJoin s
  | .staleTimerExpiry channel => Sys2Proof.Machine.execStaleTimerExpiry channel s
  | .onsetUntilExpiry channel => Sys2Proof.Machine.execOnsetUntilExpiry channel s
  | .strongUntilExpiry channel => Sys2Proof.Machine.execStrongUntilExpiry channel s
  | .tripInDebouncedChange input => Sys2Proof.Machine.execTripInDebouncedChange input s
  | .utilityOkDebouncedChange => Sys2Proof.Machine.execUtilityOkDebouncedChange s
  | .feedDwellExpiry => Sys2Proof.Machine.execFeedDwellExpiry s
  | .warningExpiry slot => Sys2Proof.Machine.execWarningExpiry slot s
  | .quietTimerExpiry => Sys2Proof.Machine.execQuietTimerExpiry s
  | .dwellExpiry step => Sys2Proof.Machine.execDwellExpiry step s
  | .replyDeadlineExpiry step => Sys2Proof.Machine.execReplyDeadlineExpiry step s
  | .readyTimeoutExpiry step => Sys2Proof.Machine.execReadyTimeoutExpiry step s
  | .settleExpiry step => Sys2Proof.Machine.execSettleExpiry step s
  | .nvWriteTakeUp => Sys2Proof.Machine.execNvWriteTakeUp s
  | .recordWriteEnd => Sys2Proof.Machine.execRecordWriteEnd s
  | .blockProgramEnd passes => Sys2Proof.Machine.execBlockProgramEnd passes s
  | .deferredActivation => Sys2Proof.Machine.execDeferredActivation s
  | .protectionWriteEnd => Sys2Proof.Machine.execProtectionWriteEnd s
  | .siteTimeSecond => Sys2Proof.Machine.execSiteTimeSecond s
  | .rawInputLevelChange input high => Sys2Proof.Machine.execRawInputLevelChange input high s
  | .lossOfPower => Sys2Proof.Machine.execLossOfPower s

end Sys2Proof.Machine
end

