-- ==== Sys2Proof/Safety.lean ====
section
/-! DEFINITION. The terms that claims about the part use: what a part reset leaves, when a port or the management unit is free, what a cascade of triggers leaves and the notices it raises, which slot of the ring is newest and takes the next record, which fault a block shows, the records of a block one by one, what a step's frame or request is, which events are due and which follow another, and the invariants of a run. -/

namespace Sys2Proof.Machine

/-! ### Resets -/

/-- Every volatile item holds its reset value (What each reset keeps, 10_management_requests.md). -/
structure State.VolatileReset (t : State) : Prop where
  now : t.now = 0
  link : t.link = {}
  router : t.router = {}
  channels : t.channels = .replicate 32 {}
  voter : t.voter = {}
  trig : t.trig = {}
  site : t.site = {}
  runner : t.runner = {}
  store : t.store = {}
  cmdReset : t.mgmt.cmdReset = .none
  responses : t.mgmt.responses = []
  held : t.mgmt.held = []
  handled : t.mgmt.handled = 0
  discarded : t.mgmt.discarded = 0

/-! ### What a cascade leaves -/

/-- `s` but for all that the cascade of a trigger or of a settling can change: flags, request, quiet timer and outputs of
the trigger unit, the site controller, the executor, the ring image, the write queue, the notice and the free order. -/
def State.fixed (s : State) : State :=
  { s with
    freeIndex := 0
    trig := { s.trig with
      flags := .replicate 24 false, requestLevel := 0, cause := none, quiet := none, quietElapsed := false
      alertOut := false, tripOut := false }
    site := {}
    runner := {}
    store := { s.store with
      ring := .replicate 16 .blank, writeSeq := 0, recordWrites := [], otherWrites := [], writing := none
      suspensions := 0 }
    router := { s.router with notice := none, count := { s.router.count with noticesReplaced := 0 } } }

/-- `fixed` with the voter's state blanked too. -/
def State.fixedButVoter (s : State) : State := { s.fixed with voter := {} }

/-! ### Notices -/

/-- The notice of the site's last transition, with the cause and the outcome of a record, where there is one: from the part
to SUP_ADDR, tag 0; site state, level, hold reason, cause source, trip number, shutdown outcome (R85, R176, R182). -/
def State.noticeOf (s : State) (r : Option TripRecord) : Frame :=
  let none255 := fun o : Option Nat => BitVec.ofNat 8 (o.getD 255)
  ⟨BitVec.ofNat 8 s.params.supAddr, BitVec.ofNat 8 (120 + s.mgmt.straps.addr.val), 0x42#8, 0#8,
    [BitVec.ofNat 8 s.site.state.code, BitVec.ofNat 8 s.site.level, none255 (s.site.hold.map HoldReason.code),
      none255 ((r.bind TripRecord.cause).map Fin.val), BitVec.ofNat 8 (s.site.trip / 256), BitVec.ofNat 8 s.site.trip,
      none255 (r.map fun x => x.outcome.code)]⟩

/-- The notices replaced counter after `n` more notices: each replaces one that has not left the slot (R176). -/
def State.replacedBy (s : State) : Nat → Nat
  | 0 => s.router.count.noticesReplaced
  | 1 => if s.router.notice = none then s.router.count.noticesReplaced else bump s.router.count.noticesReplaced
  | n + 2 => bump (s.replacedBy (n + 1))

/-- From `s` on, `n` notices have been raised; the last of them, of the state `t`, is in the slot (R85, R176). -/
structure State.Notified (t s : State) (n : Nat) (r : Option TripRecord) : Prop where
  slot : t.router.notice = some (t.noticeOf r)
  replaced : t.router.count.noticesReplaced = s.replacedBy n

/-! ### The trip record ring -/

/-- The ring holds a write sequence below 1073741824 and one at or above 3221225472 (R147). -/
abbrev AtBothEnds (ring : Vector Slot 16) : Prop :=
  (∃ r ∈ ring.toList.filterMap Slot.held, r.seq.toNat < 1073741824) ∧
    ∃ r ∈ ring.toList.filterMap Slot.held, 3221225472 ≤ r.seq.toNat

/-- Write sequence `a` ranks above `b` in a ring: by value, but where the ring holds both ends, every one below 2147483648
ranks above every one at or above it (R147). -/
abbrev RanksAbove (ring : Vector Slot 16) (a b : Word32) : Prop :=
  (AtBothEnds ring → a.toNat < 2147483648 ∧ 2147483648 ≤ b.toNat ∨
    (a.toNat < 2147483648 ↔ b.toNat < 2147483648) ∧ b.toNat < a.toNat) ∧
  (¬AtBothEnds ring → b.toNat < a.toNat)

/-- Among the records that pass `p`, the slot's has the highest write sequence; of two with one sequence the lower-numbered
slot's is taken (R147, R149). -/
abbrev Newest (p : TripRecord → Bool) (ring : Vector Slot 16) (i : Fin 16) : Prop :=
  ∃ r ∈ ring[i].held.toList, p r = true ∧ ∀ j : Fin 16, ∀ x ∈ ring[j].held.toList, p x = true →
    ¬RanksAbove ring x.seq r.seq ∧ (j < i → x.seq ≠ r.seq)

/-- The slot that a record is opened in: the lowest-numbered damaged one; without one, that after the slot with the highest
write sequence, 15 followed by 0; slot 0 of a ring without a record (R148). -/
abbrev OpensIn (ring : Vector Slot 16) (i : Fin 16) : Prop :=
  (ring[i] = .damaged ∧ ∀ j : Fin 16, j < i → ring[j] ≠ .damaged) ∨
  (∀ j : Fin 16, ring[j] ≠ .damaged) ∧
    (Newest (fun _ => true) ring (i - 1) ∨ (∀ j : Fin 16, ring[j] = .blank) ∧ i = 0)

/-! ### Faults of a block (R139) -/

/-- Step `i` of a plan shows the fault (R139, checks 1 to 6; R90). Checks 5 and 6 look up the target in `site`, and are not
made without it. -/
def StepShows (p : PlanId) (i : Nat) (c : StepCfg) (site : Option SiteTables) : StoreFault → Prop
  | .prerequisiteOrder => ∃ q ∈ c.prereqs, i ≤ q.val
  | .prerequisiteRepeated => ¬c.prereqs.Nodup
  | .actionNotAllowed =>
    (p = .restart ∧ (c.action = .shed ∨ c.action = .park ∨ c.action = .cut)) ∨
      (p ≠ .restart ∧ (c.action = .energize ∨ c.action = .resume ∨ c.action = .transfer))
  | .policyNotAllowed => c.policy = .escalate ∧ p ≠ .l1
  | .targetAbsent => c.action ≠ .mark ∧ ∃ t, site = some t ∧ (t.node (c.target.getD 0)).present = false
  | .targetKind => c.action ≠ .mark ∧ ∃ t, site = some t ∧
      let kind := (t.node (c.target.getD 0)).kind
      kind = .sensor ∨ kind = .gateway ∨ kind = .other ∨
        c.action = .transfer ∧ (kind = .breaker ∨ kind = .pdu ∨ kind = .cooling)
  | _ => False

/-- A channel shows the fault (R139, checks 7 to 9). -/
def ChannelShows (t : SiteTables) (c : ChanCfg) : StoreFault → Prop
  | .shiftOrder => c.ls < c.ss + 4
  | .ratioOrder => c.rOn ≤ c.rOff
  | .sensorAbsent => c.enabled = true ∧ (t.node c.sensor).present = false
  | _ => False

/-- A zone shows the fault (R139, checks 10 and 11): a channel twice in its list, or in that of a lower-numbered zone too;
a threshold above the member count of a list that is not empty. -/
def ZoneShows (t : SiteTables) (z : Fin 8) : StoreFault → Prop
  | .memberRepeated => ¬t.zones[z].members.Nodup ∨
      ∃ y : Fin 8, y < z ∧ ∃ c ∈ t.zones[y].members, c ∈ t.zones[z].members
  | .thresholdAboveMembers => t.zones[z].members ≠ [] ∧
      (t.zones[z].members.length < t.zones[z].kOn ∨ t.zones[z].members.length < t.zones[z].kStrong)
  | _ => False

/-- The SITE record shows the fault (R139, check 12). -/
def SiteShows (c : SiteCfg) : StoreFault → Prop
  | .classOrder => ¬(c.classAlert ≤ c.classL1 ∧ c.classL1 ≤ c.classL2)
  | _ => False

/-- The record that `x` names shows the fault that `x` names, in blocks of this content (R139): steps are those numbered
below the step count, channels and zones are those of block 3. -/
def Shows (bs : Blocks) (site : Option SiteTables) (x : Found) : Prop :=
  match x.kind with
  | .step => ∃ (p : PlanId) (i : Fin 64), x.block = p.block ∧ x.index = i.val ∧ i.val < (bs.plan p).stepCount ∧
      StepShows p i.val (bs.plan p).steps[i] site x.fault
  | .channel => x.block = 3 ∧ ∃ i : Fin 32, x.index = i.val ∧ ChannelShows bs.site bs.site.channels[i] x.fault
  | .zone => x.block = 3 ∧ ∃ z : Fin 8, x.index = z.val ∧ ZoneShows bs.site z x.fault
  | .site => x.block = 3 ∧ x.index = 0 ∧ SiteShows bs.site.site x.fault
  | _ => False

/-- The order of the checks: by block, within a block by record kind, within a kind by index, and for one record by the
table (R139). -/
def Found.place (x : Found) : Nat := ((x.block.val * 9 + x.kind.code) * 256 + x.index) * 12 + x.fault.code

/-- `found` is the first of the faults that there are, none where there is none (R139). -/
def FirstOf (there : Found → Prop) : Option Found → Prop
  | some x => there x ∧ ∀ y, there y → x.place ≤ y.place
  | none => ∀ y, ¬there y

/-! ### The records of a block (R134, R137) -/

/-- A record of any of the nine kinds; a HEADER is its step count and slot limit. -/
inductive AnyRecord where
  | header (stepCount slotLimit : Nat)
  | step (c : StepCfg)
  | node (c : NodeCfg)
  | channel (c : ChanCfg)
  | zone (c : ZoneCfg)
  | cls (c : ClassCfg)
  | source (c : SourceCfg)
  | filter (c : FilterCfg)
  | site (c : SiteCfg)
  deriving DecidableEq, Repr

/-- The record of a kind at an index of a block, none where there is none (R134). -/
def recordIn (bs : Blocks) (b : Fin 4) (k : RecordKind) (i : Nat) : Option AnyRecord :=
  match planIn b, k with
  | some p, .header => if i = 0 then some (.header (bs.plan p).stepCount (bs.plan p).slotLimit) else none
  | some p, .step => ((bs.plan p).steps.toList[i]?).map .step
  | none, .node => if i = 0 then none else (bs.site.nodes.toList[i - 1]?).map .node
  | none, .channel => (bs.site.channels.toList[i]?).map .channel
  | none, .zone => (bs.site.zones.toList[i]?).map .zone
  | none, .cls => (bs.site.classes.toList[i]?).map .cls
  | none, .source => (bs.site.sources.toList[i]?).map .source
  | none, .filter => (bs.site.filter.toList[i]?).map .filter
  | none, .site => if i = 0 then some (.site bs.site.site) else none
  | _, _ => none

/-- A record read from its characters, with whether a field was clamped; none where a field names nothing of its set
(R137). -/
def readRecord (k : RecordKind) (d : List Byte) : Option (AnyRecord × Bool) :=
  match k with
  | .header => (readHeader d).map fun (x, c) => (.header x.1 x.2, c)
  | .step => (readStep d).map fun (x, c) => (.step x, c)
  | .node => (readNodeCfg d).map fun (x, c) => (.node x, c)
  | .channel => (readChannelCfg d).map fun (x, c) => (.channel x, c)
  | .zone => (readZoneCfg d).map fun (x, c) => (.zone x, c)
  | .cls => (readClassCfg d).map fun (x, c) => (.cls x, c)
  | .source => (readSourceCfg d).map fun (x, c) => (.source x, c)
  | .filter => (readFilterCfg d).map fun (x, c) => (.filter x, c)
  | .site => (readSiteCfg d).map fun (x, c) => (.site x, c)

/-! ### Frames and requests -/

/-- The port works and is not in the middle of a frame (R155). -/
def State.portFree (s : State) (port : Port) : Prop := s.isRunning = true ∧ (s.rx port).phase ≠ .assembling

/-- `s` with one more complete frame counted on a port, its receiver IDLE (R155, R158). -/
def State.gotFrame (s : State) (port : Port) (f : Frame) : State :=
  setPort port {} ((s.portCount port).completed f) s

/-- The characters of a frame arrive one after another, the marker on the first (R153, R155). -/
def feed (port : Port) : Bool → List Byte → State → State
  | _, [], s => s
  | first, v :: rest, s => feed port false rest (characterArrives port v first false s)

/-- The frame that a P-port frame row stands for. -/
def pFrameOf : Instr → Option Frame
  | .pSampleFrame dst src tag payload => some ⟨dst, src, kindSample, tag, payload⟩
  | .pWarningFrame dst src tag payload => some ⟨dst, src, kindWarning, tag, payload⟩
  | .pReplyFrame dst src tag payload => some ⟨dst, src, kindReply, tag, payload⟩
  | .pStatusFrame dst src tag payload => some ⟨dst, src, kindStatus, tag, payload⟩
  | .pOtherFrame dst src kind tag payload => some ⟨dst, src, kind, tag, payload⟩
  | _ => none

/-- The frame that an S-port frame row stands for. -/
def sFrameOf : Instr → Option Frame
  | .sCommandFrame dst src tag payload => some ⟨dst, src, kindCommand, tag, payload⟩
  | .sOtherFrame dst src kind tag payload => some ⟨dst, src, kind, tag, payload⟩
  | _ => none

/-- The source, tag and request of a request row that carries one of R182's requests. -/
def requestOf : Instr → Option (Byte × Byte × Req)
  | .readStatus src tag => some (src, tag, .readStatus)
  | .readChannel src tag c => some (src, tag, .readChannel c)
  | .readZone src tag z => some (src, tag, .readZone z)
  | .readNode src tag a => some (src, tag, .readNode a)
  | .readStep src tag i => some (src, tag, .readStep i)
  | .readOutstanding src tag => some (src, tag, .readOutstanding)
  | .readWarnings src tag => some (src, tag, .readWarnings)
  | .readTripRecord src tag i => some (src, tag, .readTripRecord i)
  | .readCounters src tag g => some (src, tag, .readCounters g)
  | .readShadow src tag b k f c => some (src, tag, .readShadow b k f c)
  | .writeShadow src tag b k f c r => some (src, tag, .writeShadow b k f c r)
  | .commit src tag m => some (src, tag, .commit m)
  | .setProtection src tag m => some (src, tag, .setProtection m)
  | .reloadProtection src tag => some (src, tag, .reloadProtection)
  | .authorizeRestart src tag => some (src, tag, .authorizeRestart)
  | .abortRestart src tag => some (src, tag, .abortRestart)
  | .forceTrip src tag l => some (src, tag, .forceTrip l)
  | .clearTriggers src tag => some (src, tag, .clearTriggers)
  | .isolateZone src tag z => some (src, tag, .isolateZone z)
  | .restoreZone src tag z => some (src, tag, .restoreZone z)
  | .setTime src tag t => some (src, tag, .setTime t)
  | .clearCounters src tag => some (src, tag, .clearCounters)
  | .clearCause src tag => some (src, tag, .clearCause)
  | .resetPortS src tag => some (src, tag, .resetPort 0)
  | .resetPortP src tag => some (src, tag, .resetPort 1)
  | .resetPart src tag => some (src, tag, .resetPart)
  | _ => none

/-- A request's WRITE_SHADOW records fit their count and kind; every other request is of its one length (R182). -/
def Req.lengthOk : Req → Bool
  | .writeShadow _ k _ c r => shadowLengthOk k c r
  | _ => true

/-- A request that arrives now is handled: the S-port is free and the management unit takes it (R183, R184, R189). -/
structure State.OpenTo (s : State) : Prop where
  free : s.portFree .s
  takes : s.takesRequest = true

/-- `s` after a request has been received and counted, before its effect (R155, R186). -/
def State.asked (s : State) : State :=
  { s with
    link.sRx := {}
    link.sCount := { s.link.sCount with received := bump s.link.sCount.received }
    mgmt.handled := bump s.mgmt.handled }

/-- `s` with a response at the tail of its response queue (R182, R183). -/
def State.replied (s : State) (src tag code : Byte) (st : Status) (data : List Byte) : State :=
  { s with mgmt.responses := s.mgmt.responses ++ [⟨src, tag, code, st, data, 0, .plain⟩] }

/-- The number in the `n` characters of response data from place `k` on, high byte first (R182). -/
def fieldAt (d : List Byte) (k n : Nat) : Nat := beNat ((d.drop k).take n)

/-! ### Events -/

/-- The rows that stand for what follows an event at once (log 3). -/
def followsEvent : Instr → Bool
  | .commandedReset _ _ | .deferredActivation | .sPortResetEffect | .pPortResetEffect | .heldResponseJoin
  | .pArbiterChoice | .sArbiterChoice | .nvWriteTakeUp => true
  | _ => false

/-- `n` steps, one after another. -/
def steps : Nat → State → Host.Outcome State Fault Refusal
  | 0, s => .next s
  | n + 1, s =>
    match step s with
    | .next t => steps n t
    | x => x

/-- The rows that are events of the part's own, each with whether it is due (log 1). The other rows are none. -/
def State.eventDue (s : State) : Instr → Option Bool
  | .startUpLoadComplete => some (s.phase == .loading)
  | .commandedReset _ _ => some (s.isRunning && s.mgmt.cmdReset == .due)
  | .sPortResetEffect => some (s.isRunning && s.sResetDue)
  | .pPortResetEffect => some (s.isRunning && s.pResetDue)
  | .pTransmissionEnd => some (s.isRunning && s.link.pTx.isSome)
  | .sTransmissionEnd => some (s.isRunning && s.link.sTx.isSome)
  | .pArbiterChoice => some s.pReady
  | .sArbiterChoice => some s.sReady
  | .heldResponseJoin => some (s.isRunning && s.heldJoins)
  | .staleTimerExpiry i => some (s.isRunning && s.staleDue i)
  | .onsetUntilExpiry i => some (s.isRunning && s.onsetStampDue i)
  | .strongUntilExpiry i => some (s.isRunning && s.strongStampDue i)
  | .tripInDebouncedChange i => some (s.isRunning && s.inputDue i.castSucc)
  | .utilityOkDebouncedChange => some (s.isRunning && s.inputDue 4)
  | .feedDwellExpiry => some (s.isRunning && s.feedDue)
  | .warningExpiry i => some (s.isRunning && s.warningDue i)
  | .quietTimerExpiry => some (s.isRunning && s.quietDue)
  | .dwellExpiry i => some (s.isRunning && s.stepDue .waitingDwell i)
  | .replyDeadlineExpiry i => some (s.isRunning && s.deadlineDue i)
  | .readyTimeoutExpiry i => some (s.isRunning && s.stepDue .awaitingState i)
  | .settleExpiry i => some (s.isRunning && s.stepDue .settling i)
  | .nvWriteTakeUp => some (s.isRunning && s.writeWaits)
  | .deferredActivation => some (s.isRunning && s.activationDue)
  | .siteTimeSecond => some (s.timeRuns && s.mgmt.secondDue)
  | _ => none

/-! ### Invariants of a run -/

/-- The forwarding queues and the response queue keep to their places (R174, R184). -/
structure State.QueuesBounded (s : State) : Prop where
  sToP : s.router.sToP.length ≤ 8
  pToS : s.router.pToS.length ≤ 16
  responses : s.mgmt.responses.length ≤ 4

/-- The slot holds an OPEN record. -/
def Slot.isOpen : Slot → Bool
  | .record r => r.closure == .isOpen
  | .blank | .damaged => false

/-- The ring image and the site agree: the current record is the OPEN one; in ARMED there is no current record and no
damaged slot (R65, R68, R147); out of service the site is UNCONFIGURED (R65). -/
structure State.RingSound (s : State) : Prop where
  openIsCurrent : ∀ i : Fin 16, s.store.ring[i].isOpen = true ↔ s.site.record = some i
  armedClean : s.site.state = .armed → s.site.record = none ∧ s.anyDamaged = false
  outOfService : s.phase ≠ .running → s.site.state = .unconfigured

/-- The site state controller's copy is what the trigger unit last handed over (R65). -/
structure State.CopyAgrees (s : State) : Prop where
  level : s.site.requestLevel = s.trig.requestLevel
  cause : s.site.cause = s.trig.cause

/-- Level and hold reason fit the site state (R65). -/
structure State.SiteFits (s : State) : Prop where
  level : s.site.state = .unconfigured ∨ s.site.state = .armed → s.site.level = 0
  hold : s.site.state ≠ .safeHold → s.site.hold = none
  held : s.site.state = .safeHold → s.site.hold ≠ none

/-- The records of the ring image, of the write queue and of the non-volatile ring carry their record CRCs (R147). -/
structure State.RecordsChecked (s : State) : Prop where
  image : ∀ (i : Fin 16) r, s.store.ring[i] = .record r → r.crc = crc16 r.fields
  waiting : ∀ w ∈ s.store.recordWrites, w.image.crc = crc16 w.image.fields
  writing : ∀ w left, s.store.writing = some ⟨.record w, left⟩ → w.image.crc = crc16 w.image.fields
  stored : ∀ (i : Fin 16) r, s.nv.ring[i] = .record r → r.crc = crc16 r.fields

/-- ALERT_OUT is asserted exactly where one of R63's items holds. -/
def State.AlertFormed (s : State) : Prop :=
  s.trig.alertOut = true ↔
    (∃ c : Fin 32, s.channels[c].state = .onset ∨ s.channels[c].state = .strong) ∨
    (∃ z : Fin 8, s.voter.zones[z].onsetVote = true ∨ s.voter.zones[z].strongVote = true) ∨
    (∃ (i : Fin 4) (w : Warning), s.trig.warnings[i] = some w ∧ s.params.classAlert ≤ w.cls) ∨
    s.site.state = .shutting

/-- The sources' levels in these tables are at most 2 (R45). -/
def SiteTables.levelsInRange (t : SiteTables) : Prop := ∀ i : Fin 24, t.sources[i].level ≤ 2

/-- Every configured source level, and FORCED's, is at most 2 (R45). -/
structure State.LevelsInRange (s : State) : Prop where
  forced : s.trig.forcedLevel ≤ 2
  work : s.store.work.site.levelsInRange
  shadow : s.store.shadow.site.levelsInRange
  stored : s.nv.blocks.site.levelsInRange
  committing : ∀ c, s.store.commit = some c → c.content.site.levelsInRange

/-- TRIP_OUT is asserted at request level 2 and in SHUTTING(2) (R64), with what this rests on: the copy agrees and every
level is in range. -/
structure State.TripOutHeld (s : State) : Prop where
  copy : s.CopyAgrees
  levels : s.LevelsInRange
  request : s.trig.requestLevel ≤ 2
  atRequest : s.trig.requestLevel = 2 → s.trig.tripOut = true
  inShutting : s.site.state = .shutting → s.site.level = 2 → s.trig.tripOut = true

/-- No two live warning records hold one event id (R57). -/
def State.WarningsDistinct (s : State) : Prop :=
  ∀ (i j : Fin 4) (v w : Warning),
    s.trig.warnings[i] = some v → s.trig.warnings[j] = some w → v.event = w.event → i = j

/-- A port's counters are at most 65535 (R162). -/
def PortCount.Bounded (c : PortCount) : Prop :=
  c.received ≤ 65535 ∧ c.framing ≤ 65535 ∧ c.abandoned ≤ 65535 ∧ c.truncated ≤ 65535 ∧ c.length ≤ 65535 ∧
    c.check ≤ 65535 ∧ c.stray ≤ 65535 ∧ c.malformed ≤ 65535 ∧ c.sent ≤ 65535

/-- The router's counters are at most 65535 (R180). -/
def RouterCount.Bounded (c : RouterCount) : Prop :=
  c.unknownSources ≤ 65535 ∧ c.unknownStates ≤ 65535 ∧ c.pDiscards ≤ 65535 ∧ c.sDiscards ≤ 65535 ∧
    c.refusals ≤ 65535 ∧ c.sToPDrops ≤ 65535 ∧ c.pToSLosses ≤ 65535 ∧ c.noticesReplaced ≤ 65535

/-- A channel's counters are at most 65535 (R24). -/
def Channel.CountersBounded (c : Channel) : Prop :=
  c.missed ≤ 65535 ∧ c.duplicates ≤ 65535 ∧ c.resyncs ≤ 65535 ∧ c.staleEntries ≤ 65535

/-- Every counter that READ_COUNTERS or READ_CHANNEL returns is at most 65535 (R186). -/
structure State.CountersBounded (s : State) : Prop where
  sPort : s.link.sCount.Bounded
  pPort : s.link.pCount.Bounded
  router : s.router.count.Bounded
  channels : ∀ i : Fin 32, s.channels[i].CountersBounded
  trigger : s.trig.warningsDropped ≤ 65535 ∧ s.trig.warningsIgnored ≤ 65535
  executor : s.runner.commandsSent ≤ 65535 ∧ s.runner.reissues ≤ 65535 ∧ s.runner.strays ≤ 65535
  store : s.store.suspensions ≤ 65535
  unit : s.mgmt.handled ≤ 65535 ∧ s.mgmt.discarded ≤ 65535

/-- The executor's lists fit its steps (R113, R114, R116): an entry for a step is an entry of an ISSUED step; no two are of
one step or of one tag; there are at most as many as the slot limit; every frame of the injection queue, no two of one
tag, belongs to an entry that waits for its transmission; without a run there is no entry; and the steps beyond the
plan's are NOT_RUN. -/
structure State.RunnerSound (s : State) : Prop where
  issued : ∀ e ∈ s.runner.outstanding, s.runner.steps[e.step].state = .issued
  steps : (s.runner.outstanding.map Entry.step).Nodup
  tags : (s.runner.outstanding.map Entry.tag).Nodup
  slots : s.runner.outstanding.length ≤ s.runner.run.slotLimit
  frames : ∀ f ∈ s.runner.injection, ∃ e ∈ s.runner.outstanding,
    e.tag = f.tag ∧ e.target = f.target ∧ e.action = f.action ∧ e.phase = .waitingTx
  framesOnce : (s.runner.injection.map Injected.tag).Nodup
  idle : s.runner.run.status ≠ .running → s.runner.outstanding = []
  beyond : ∀ i : Fin 64, s.runner.run.stepCount ≤ i.val → s.runner.steps[i].state = .notRun

/-- No frame that still waits has the tag of the injected frame that is on the P-port line. -/
def State.LineTagUnique (s : State) : Prop :=
  ∀ tag t, s.link.pTx = some t → t.source = .injected tag → ∀ f ∈ s.runner.injection, f.tag ≠ tag

/-- A channel's arithmetic fields are in the ranges of R2. -/
structure Channel.InRange (c : Channel) : Prop where
  bx : -524288 ≤ c.baseX ∧ c.baseX ≤ 524272
  byy : -524288 ≤ c.baseY ∧ c.baseY ≤ 524272
  bz : -524288 ≤ c.baseZ ∧ c.baseZ ≤ 524272
  sta : 0 ≤ c.sta ∧ c.sta ≤ 524272
  lta : 0 ≤ c.lta ∧ c.lta ≤ 524272
  priming : c.priming ≤ 256
  peakH : c.peakH ≤ 49150
  peakU : c.peakU ≤ 32767

/-- A sample's axes are signed 16-bit numbers (R159). -/
structure Sample.InRange (a : Sample) : Prop where
  x : -32768 ≤ a.x ∧ a.x ≤ 32767
  y : -32768 ≤ a.y ∧ a.y ≤ 32767
  z : -32768 ≤ a.z ∧ a.z ≤ 32767

end Sys2Proof.Machine
end

