-- ==== Sys2Proof/WellFormed.lean ====
section
/-! DEFINITION. Which commands are well formed: the conditions under which a term of Instr spells one occurrence of its row. A meaning is given to every term (notes/assumptions/7.md); these checks say which ones the table's rows describe. -/

namespace Sys2Proof

/-- A payload is 0..48 characters (R153). -/
def payloadFits (payload : List Byte) : Bool := payload.length ≤ 48

/-- The two length checks of a SAMPLE payload (R159): n is 8, 14, 20 or 26, and the count character agrees with it. -/
def sampleSized (payload : List Byte) : Bool :=
  match payload with
  | _ :: count :: rest => 1 ≤ count.toNat && count.toNat ≤ 4 && rest.length == 6 * count.toNat
  | _ => false

/-- A link address that is a node's (1..119) or broadcast (127). -/
def nodeOrBroadcast (dst : Byte) : Bool := (1 ≤ dst.toNat && dst.toNat ≤ 119) || dst.toNat == 127

/-- The kinds that have a row of their own on the P-port: REPLY, STATUS, SAMPLE, WARNING (R158). -/
def ownPRow (kind : Byte) : Bool := kind == 0x11#8 || kind == 0x12#8 || kind == 0x20#8 || kind == 0x21#8

/-- The condition that makes a term one of its row's occurrences. Whether a MGMT_REQUEST is addressed to the part
depends on the ADDR strap, so the router (R170), not this check, tells it from the other frames of the S-port. -/
def Instr.wf : Instr → Bool
  | .pSampleFrame _ _ _ payload => sampleSized payload
  | .pWarningFrame _ _ _ payload => payloadFits payload
  | .pReplyFrame _ _ _ payload => payloadFits payload
  | .pStatusFrame _ _ _ payload => payloadFits payload
  | .pOtherFrame _ _ kind _ payload => payloadFits payload && !ownPRow kind
  | .sCommandFrame dst _ _ payload => payloadFits payload && nodeOrBroadcast dst
  | .sOtherFrame dst _ kind _ payload =>
      payloadFits payload && !(kind == 0x10#8 && nodeOrBroadcast dst)
        && !(kind == 0x20#8 && !sampleSized payload)
  | .unknownRequest _ _ payload => payloadFits payload
  | .writeShadow _ _ _ _ _ _ records => records.length ≤ 43
  | .powerOnReset _ _ | .resetPinAssert | .resetPinRelease _ _ | .startUpLoadComplete | .commandedReset _ _
  | .sPortResetEffect | .pPortResetEffect | .receiveCharacter _ _ _ _ | .receiveGapExpiry _
  | .readStatus _ _ | .readChannel _ _ _ | .readZone _ _ _ | .readNode _ _ _ | .readStep _ _ _
  | .readOutstanding _ _ | .readWarnings _ _ | .readTripRecord _ _ _ | .readCounters _ _ _
  | .readShadow _ _ _ _ _ _ | .commit _ _ _ | .setProtection _ _ _ | .reloadProtection _ _
  | .authorizeRestart _ _ | .abortRestart _ _ | .forceTrip _ _ _ | .clearTriggers _ _ | .isolateZone _ _ _
  | .restoreZone _ _ _ | .setTime _ _ _ | .clearCounters _ _ | .clearCause _ _ | .resetPortS _ _
  | .resetPortP _ _ | .resetPart _ _ | .pTransmissionEnd | .sTransmissionEnd | .pArbiterChoice
  | .sArbiterChoice | .heldResponseJoin | .staleTimerExpiry _ | .onsetUntilExpiry _ | .strongUntilExpiry _
  | .tripInDebouncedChange _ | .utilityOkDebouncedChange | .feedDwellExpiry | .warningExpiry _
  | .quietTimerExpiry | .dwellExpiry _ | .replyDeadlineExpiry _ | .readyTimeoutExpiry _ | .settleExpiry _
  | .nvWriteTakeUp | .recordWriteEnd | .blockProgramEnd _ | .deferredActivation | .protectionWriteEnd
  | .siteTimeSecond | .rawInputLevelChange _ _ | .lossOfPower => true

end Sys2Proof
end

