-- ==== Sys2Proof/Certificates/Slice0/Obligations.lean ====
section
/-! DEFINITION. The statements about the model. OBLIGATIONS.json gives each its title, rules and tier. A command taken in `s₀` acts on `s₀.caughtUp`, the state in which all that the rules let follow the earlier events at once has been taken (log 3); PortResetsAndHeldResponsesTakeEffect says what that state is. -/

open Sys2Proof Sys2Proof.Machine

/-! ### The step -/

/-- A step takes the command at the front of the queue and runs it with the rest of the queue. -/
def Obligations.StepRunsTheFrontCommand : Prop :=
  ∀ (c : Instr) (rest : List Instr) (s : State),
    s.pending = c :: rest → step s = exec c { s with pending := rest }

/-- MODEL'S CHOICE (log 2). On an empty queue the part takes its own next due event, and where none is due a
millisecond passes. In service one millisecond moves every clock of the rules: the time base, the millisecond of site
time (R187; the second that it makes due is taken as a step of its own, log 15), the stale timers (R12), the times since
heard (R166), the quiet timer (R62), one sample of each input (R53), the step timers (R94), the reply deadlines (R113)
and the write in progress (R144). Of R53 the clause of the inputs is log 16's choice: the tick is the moment of the sample,
and a count that reaches N is kept and sets the model's own flag due, for the level to change as a step of its own, where
R53 has the sample change it. In the start-up load only the time base, site time and the load run; held or unpowered nothing
does (logs 10, 12). -/
def Obligations.EmptyQueueTakesTheDueEventOrTicks : Prop :=
  ∀ s : State,
    (s.pending = [] →
      (∀ c, s.nextDue = some c → step s = exec c s.afterDraw) ∧ (s.nextDue = none → step s = .next (tick s))) ∧
    (s.phase = .running → tick s = { s with
      now := s.now + 1
      mgmt := if s.mgmt.siteMs < 999 then { s.mgmt with siteMs := s.mgmt.siteMs + 1 }
        else { s.mgmt with secondDue := true }
      channels := s.channels.map fun c => { c with staleTimer := c.staleTimer.map (· - 1) }
      router.nodes := s.router.nodes.map fun n => { n with heard := min (n.heard + 1) 65535 }
      trig.quiet := s.trig.quiet.map (· - 1)
      trig.inputs := .ofFn fun i =>
        let d := s.trig.inputs[i]
        if s.rawActive i = d.active then ⟨d.active, 0, false⟩
        else ⟨d.active, min (d.count + 1) 255, decide (s.params.debounce[i] ≤ min (d.count + 1) 255)⟩
      runner.steps := s.runner.steps.map fun r => { r with timer := r.timer.map (· - 1) }
      runner.outstanding := s.runner.outstanding.map fun e => { e with deadline := e.deadline.map (· - 1) }
      store.writing := s.store.writing.map fun w => { w with left := w.left - 1 } }) ∧
    (∀ i : Fin 4, s.rawActive i.castSucc = true ↔
      (s.pins.trip[i] = true ↔ s.tables.sources[srcContact i].polarity = .high)) ∧
    (s.rawActive 4 = true ↔ s.pins.utility = true) ∧
    (s.phase = .loading → tick s = { s with
      now := s.now + 1
      mgmt.siteMs := if s.mgmt.siteMs < 999 then s.mgmt.siteMs + 1 else s.mgmt.siteMs
      mgmt.secondDue := s.mgmt.secondDue || decide (999 ≤ s.mgmt.siteMs)
      mgmt.loadTimer := s.mgmt.loadTimer - 1 }) ∧
    (s.phase = .held ∨ s.phase = .unpowered → tick s = s)

/-- No command stops the part, and none touches the queue of waiting commands. -/
def Obligations.EveryCommandCompletesAndKeepsTheQueue : Prop :=
  ∀ (c : Instr) (s : State), ∃ t, exec c s = .next t ∧ t.pending = s.pending

/-! ### Resets, loss of power, start-up load -/

/-- POWER_ON_RESET, and COMMANDED_RESET when due: volatile items at their reset values, the straps read, the load begun,
non-volatile memory as interrupted writes leave it, the pins as they are. Site time is 0 and POWER alone among the causes
after the first; site time is kept and COMMANDED added after the second. MODEL'S CHOICES in it: the block conditions are
INVALID until the load sets them (log 8), the pins keep their levels (log 9), POWER_ON_RESET is taken in every phase and
begins the load at once (log 10), and the straps come as operands (log 11). The command finds taken what follows the
events before it (log 3). -/
def Obligations.PowerOnAndCommandedResetsRestoreResetValues : Prop :=
  ∀ (addr rate : Fin 4) (s : State),
    (∃ t, exec (.powerOnReset addr rate) s = .next t ∧ t.VolatileReset ∧ t.phase = .loading ∧
      t.mgmt.siteTime = 0 ∧ t.mgmt.siteMs = 0 ∧ t.mgmt.causes = ⟨true, false, false⟩ ∧
      t.mgmt.straps = ⟨addr, rate⟩ ∧ t.nv = interruptWrites s.caughtUp ∧ t.pins = s.pins) ∧
    (s.phase = .running → s.mgmt.cmdReset = .due →
      ∃ t, exec (.commandedReset addr rate) s = .next t ∧ t.VolatileReset ∧ t.phase = .loading ∧
        t.mgmt.siteTime = s.mgmt.siteTime ∧ t.mgmt.siteMs = s.mgmt.siteMs ∧
        t.mgmt.causes = { s.mgmt.causes with commanded := true } ∧ t.mgmt.straps = ⟨addr, rate⟩ ∧
        t.nv = interruptWrites s ∧ t.pins = s.pins)

/-- RESET_PIN_ASSERT from service or the load, and RESET_PIN_RELEASE while held: reset values and site time kept while
RESET is low; PIN added to the causes; at the rise the straps are read and the load begins. MODEL'S CHOICES in it: the
block conditions are INVALID while the part is held and until the load (log 8), and the pins keep their levels (log 9).
The command finds taken what follows the events before it (log 3). -/
def Obligations.PinResetHoldsThenLoads : Prop :=
  (∀ s₀ : State,
    let s := s₀.caughtUp
    s.phase = .running ∨ s.phase = .loading →
    ∃ t, exec .resetPinAssert s₀ = .next t ∧ t.VolatileReset ∧ t.phase = .held ∧
      t.mgmt.siteTime = s.mgmt.siteTime ∧ t.mgmt.siteMs = s.mgmt.siteMs ∧
      t.mgmt.causes = { s.mgmt.causes with pin := true } ∧ t.mgmt.straps = s.mgmt.straps ∧
      t.nv = interruptWrites s ∧ t.pins = s.pins) ∧
  (∀ (addr rate : Fin 4) (s₀ : State),
    let s := s₀.caughtUp
    s.phase = .held →
    exec (.resetPinRelease addr rate) s₀ =
      .next { s with phase := .loading, mgmt.straps := ⟨addr, rate⟩, mgmt.loadTimer := 5 })

/-- LOSS_OF_POWER, row by row of R146: what was being written is damaged, what only waited is untouched. MODEL'S CHOICES
in it: a block cut short fails its check by losing its CRC, a record or protection word cut short is damaged (log 31),
the block's content is left as it was, since nothing reads it (log 32), and the part is then unpowered (log 10). The
command finds taken what follows the events before it (log 3). -/
def Obligations.LossOfPowerCutsWritesShort : Prop :=
  ∀ s₀ : State,
    let s := s₀.caughtUp
    ∃ t, exec .lossOfPower s₀ = .next t ∧ t.store.recordWrites = [] ∧ t.store.otherWrites = [] ∧
    t.store.writing = none ∧ t.nv.blocks = s.nv.blocks ∧
    (∀ w left, s.store.writing = some ⟨.record w, left⟩ →
      t.nv.ring[w.slot] = .damaged ∧ ∀ j : Fin 16, j ≠ w.slot → t.nv.ring[j] = s.nv.ring[j]) ∧
    ((∀ w left, s.store.writing ≠ some ⟨.record w, left⟩) → t.nv.ring = s.nv.ring) ∧
    (∀ b : Fin 4, s.store.cond[b] = .programming → t.nv.valid b = false) ∧
    (∀ b : Fin 4, s.store.cond[b] ≠ .programming → t.nv.passes b = s.nv.passes b) ∧
    (∀ set left, s.store.writing = some ⟨.other (.protection set), left⟩ → t.nv.protection = .checkFails) ∧
    ((∀ set left, s.store.writing ≠ some ⟨.other (.protection set), left⟩) → t.nv.protection = s.nv.protection)

/-- START_UP_LOAD_COMPLETE at any moment of any start-up load, whatever the time base, site time and the load's own timer
show: the store, the channels, the quiet timer, TRIP_OUT, a notice, and the first site state by the checks of R66 in their
order. A block is VALID where its CRC is that of its content and no record of it shows a fault of R139's table, and a slot
whose record's CRC is not that of its other fields is damaged in the ring image (R134, R147, R149). Of several OPEN records
the newest stays and the others are damaged, the write sequence counter is the newest record's, and the current trip number
is the OPEN record's, else the newest's, else 0, by R147's ranking (R66, R149). Working copy and shadow of a VALID block are
marked valid; that the shadow of an INVALID block is not is a reading of R136's table (log 47). -/
def Obligations.StartUpLoadEntersServiceByTheStore : Prop :=
  ∀ s : State, s.phase = .loading → ({ s with now := 0 } : State).VolatileReset →
    let found : Vector Slot 16 := s.nv.ring.map fun x => match x with
      | .record r => if r.crc = crc16 r.fields then x else .damaged
      | x => x
    let isOpen := fun r : TripRecord => r.closure == .isOpen
    let any := fun _ : TripRecord => true
    ∃ t, exec .startUpLoadComplete s = .next t ∧ t.phase = .running ∧
      t.store.work = s.nv.loaded ∧ t.store.shadow = s.nv.loaded ∧
      (∀ b : Fin 4, t.store.workValid[b] = s.nv.valid b ∧ t.store.shadowValid[b] = s.nv.valid b) ∧
      (∀ b : Fin 4, t.store.cond[b] = if s.nv.valid b then .valid else .invalid) ∧
      (∀ b : Fin 4, s.nv.valid b = true ↔ s.nv.checks[b] = some (crc16 (s.nv.blocks.content b)) ∧
        ∀ x : Found, x.block = b →
          ¬Shows s.nv.blocks (if s.nv.valid 3 then some s.nv.blocks.site else none) x) ∧
      (∀ p : PlanId, t.store.work.plan p = if s.nv.valid p.block then s.nv.blocks.plan p else {}) ∧
      t.store.work.site = (if s.nv.valid 3 then s.nv.blocks.site else {}) ∧
      t.store.activeProtection = s.nv.protection.active ∧ t.store.ring = scanRing s.nv.ring ∧
      (∀ i : Fin 16,
        (s.nv.ring[i] = .blank → t.store.ring[i] = .blank) ∧
        (s.nv.ring[i] = .damaged → t.store.ring[i] = .damaged) ∧
        (∀ r, s.nv.ring[i] = .record r → r.crc ≠ crc16 r.fields → t.store.ring[i] = .damaged) ∧
        (∀ r, s.nv.ring[i] = .record r → r.crc = crc16 r.fields →
          (r.closure ≠ .isOpen ∨ Newest isOpen found i → t.store.ring[i] = .record r) ∧
          (r.closure = .isOpen → ¬Newest isOpen found i → t.store.ring[i] = .damaged))) ∧
      (∀ i r, Newest any found i → found[i] = .record r → t.store.writeSeq = r.seq) ∧
      ((∀ i : Fin 16, found[i].held = none) → t.store.writeSeq = 0 ∧ t.site.trip = 0) ∧
      (∀ i : Fin 16, t.site.record = some i ↔ t.store.ring[i].isOpen = true) ∧
      (∀ i r, t.site.record = some i → t.store.ring[i] = .record r → t.site.trip = r.trip) ∧
      (∀ i r, t.site.record = none → Newest any found i → found[i] = .record r → t.site.trip = r.trip) ∧
      (∀ i : Fin 32, t.channels[i].seeded = false ∧
        t.channels[i].state = if s.nv.loaded.site.channels[i].enabled then .priming else .off) ∧
      t.trig.quiet = some (s.nv.loaded.site.site.q * 1000) ∧ t.trig.quietElapsed = false ∧
      t.Notified s 1 t.currentRecord ∧
      (if ∃ b : Fin 4, s.nv.valid b = false then
        t.site.state = .unconfigured ∧ t.site.level = 0 ∧ t.site.hold = none ∧ t.trig.tripOut = false
      else if ∃ i : Fin 16, t.store.ring[i] = .damaged then
        t.site.state = .safeHold ∧ t.site.level = 2 ∧ t.site.hold = some .recordDamaged ∧ t.trig.tripOut = true
      else
        match t.site.record with
        | some i => t.site.state = .safeHold ∧ t.site.hold = some .powerOnOpen ∧
            ∃ r, t.store.ring[i] = .record r ∧ t.site.level = r.level ∧ (t.trig.tripOut = true ↔ r.level = 2)
        | none => t.site.state = .armed ∧ t.site.level = 0 ∧ t.site.hold = none ∧ t.trig.tripOut = false)

/-- The reset values that the rules' tables state, item by item, in the state after a power-on reset: the ring image is
blank and the write sequence 0 by R136, whatever the non-volatile ring holds. The items are those of R2 (the channels), R31
(the zones and their members), R45, R53, R55, R57, R62 to R64 (the trigger unit), R65 and R74 (the site), R93, R94, R113 to
R115 (the executor), R136 (the store), R155, R161, R163, R164 (the ports), R166, R174, R176 (the router), R183, R187 to R189
(the management unit), and every counter. -/
def Obligations.ResetStateHoldsTheTablesValues : Prop :=
  let t := State.reset
  t.now = 0 ∧
  -- the channels, R2: state, seeded, priming, expected, baselines, averages, below, in onset, entry times, peaks, stale
  -- timer, counters
  (∀ i : Fin 32, t.channels[i] = ⟨.off, false, 0, 0, 0, 0, 0, 0, 0, 0, 0, 0, 0, 0, 0, none, 0, 0, 0, 0⟩) ∧
  -- the zone voter, R31
  (∀ c : Fin 32, t.voter.members[c] = ⟨.off, false, none, none⟩) ∧
  (∀ z : Fin 8, t.voter.zones[z] = ⟨false, false, false, .blind⟩) ∧
  -- the trigger unit, R45, R53, R55, R57, R60, R62 to R64
  (∀ i : Fin 24, t.trig.flags[i] = false) ∧ t.trig.forcedLevel = 1 ∧ t.trig.requestLevel = 0 ∧ t.trig.cause = none ∧
  t.trig.remoteSevere = false ∧ t.trig.remoteModerate = false ∧
  (∀ i : Fin 5, t.trig.inputs[i].active = false ∧ t.trig.inputs[i].count = 0) ∧
  t.trig.feedStable = false ∧ t.trig.feedStart = none ∧ (∀ i : Fin 4, t.trig.warnings[i] = none) ∧
  t.trig.warningsDropped = 0 ∧ t.trig.warningsIgnored = 0 ∧ t.trig.quiet = none ∧ t.trig.quietElapsed = false ∧
  t.trig.alertOut = false ∧ t.trig.tripOut = false ∧
  -- the site state controller, R65, R74
  t.site.state = .unconfigured ∧ t.site.level = 0 ∧ t.site.hold = none ∧ t.site.trip = 0 ∧ t.site.record = none ∧
  t.site.requestLevel = 0 ∧ t.site.cause = none ∧ t.site.restartIncomplete = false ∧ t.site.activationPending = false ∧
  t.site.tripPending = false ∧
  -- the executor, R93, R94, R113 to R115, R117
  t.runner.run = ⟨none, .noRun, 0, 0, 0, none, 0, false⟩ ∧ (∀ i : Fin 64, t.runner.steps[i] = ⟨.notRun, 0, none, none⟩) ∧
  t.runner.outstanding = [] ∧ t.runner.injection = [] ∧ t.runner.tagCounter = 0 ∧ t.runner.commandsSent = 0 ∧
  t.runner.reissues = 0 ∧ t.runner.strays = 0 ∧
  -- the plan store, R136
  (∀ p : PlanId, (t.store.work.plan p).stepCount = 0 ∧ (t.store.shadow.plan p).stepCount = 0) ∧
  (∀ b : Fin 4, t.store.workValid[b] = false ∧ t.store.shadowValid[b] = false ∧ t.store.activeProtection[b] = true ∧
    t.store.awaiting[b] = false) ∧
  (∀ i : Fin 16, t.store.ring[i] = .blank) ∧ t.store.writeSeq = 0 ∧ t.store.recordWrites = [] ∧
  t.store.otherWrites = [] ∧ t.store.writing = none ∧ t.store.commit = none ∧ t.store.suspensions = 0 ∧
  -- the ports, R155, R161 to R164
  t.link.sRx = ⟨.idle, []⟩ ∧ t.link.pRx = ⟨.idle, []⟩ ∧ t.link.sTx = none ∧ t.link.pTx = none ∧
  t.link.sCount = ⟨0, 0, 0, 0, 0, 0, 0, 0, 0⟩ ∧ t.link.pCount = ⟨0, 0, 0, 0, 0, 0, 0, 0, 0⟩ ∧
  t.link.sReset = .none ∧ t.link.pReset = false ∧
  -- the router, R166, R174, R176, R180
  (∀ a : Fin 128, t.router.nodes[a] = ⟨.unknown, 65535⟩) ∧ t.router.sToP = [] ∧ t.router.pToS = [] ∧
  t.router.notice = none ∧ t.router.count = ⟨0, 0, 0, 0, 0, 0, 0, 0⟩ ∧
  -- the management unit, R183, R184, R187 to R189
  t.mgmt.siteTime = 0 ∧ t.mgmt.causes = ⟨true, false, false⟩ ∧ t.mgmt.cmdReset = .none ∧ t.mgmt.responses = [] ∧
  t.mgmt.held = [] ∧ t.mgmt.handled = 0 ∧ t.mgmt.discarded = 0

/-! ### Receiving -/

/-- RECEIVE_CHARACTER by R155's table for each receiver state; in ASSEMBLING an unmarked character is added, or is the
length error of R156, or completes the frame, which is then checked; out of service it is ignored. RECEIVE_GAP_EXPIRY: a
frame being assembled is truncated and counted, a DISCARDING receiver becomes IDLE without a count. The length error is
there from the fifth character on where it holds more than 48 or, in a SAMPLE, other than 8, 14, 20 and 26, and in a SAMPLE
from the seventh on where its count contradicts the length (R156, R159). A frame is whole with its 7+n characters (R153).
The command finds taken what follows the events before it (log 3). -/
def Obligations.ReceiverTakesCharactersAndGapsByItsState : Prop :=
  (∀ (port : Port) (v : Byte) (marker framing : Bool) (s₀ : State),
    let s := s₀.caughtUp
    let c := s.portCount port
    let chars := (s.rx port).chars ++ [v]
    (s.isRunning = true → exec (.receiveGapExpiry port) s₀ = .next
      (match (s.rx port).phase with
        | .idle => s
        | .assembling => setPort port {} { c with truncated := bump c.truncated } s
        | .discarding => setPort port {} c s)) ∧
    exec (.receiveCharacter port v marker framing) s₀ =
      if s.isRunning = false then .next s
      else
        match (s.rx port).phase, framing, marker with
        | .idle, true, _ => .next (setPort port (s.rx port) { c with framing := bump c.framing } s)
        | .assembling, true, _ => .next (setPort port .discarding { c with framing := bump c.framing } s)
        | .discarding, true, _ => .next s
        | .idle, false, true => .next (setPort port (.begun v) c s)
        | .discarding, false, true => .next (setPort port (.begun v) c s)
        | .assembling, false, true => .next (setPort port (.begun v) { c with abandoned := bump c.abandoned } s)
        | .idle, false, false => .next (setPort port (s.rx port) { c with stray := bump c.stray } s)
        | .discarding, false, false => .next s
        | .assembling, false, false =>
          if lengthError chars then .next (setPort port .discarding { c with length := bump c.length } s)
          else
            match wholeFrame chars with
            | none => .next (setPort port ⟨.assembling, chars⟩ c s)
            | some (f, check) =>
              if check = checkChars f.body then .next (route port f (s.gotFrame port f))
              else .next (setPort port {} { c with check := bump c.check } s)) ∧
  (∀ chars : List Byte, lengthError chars = true ↔
    5 ≤ chars.length ∧
      (48 < fieldAt chars 4 1 ∨
        fieldAt chars 2 1 = 0x20 ∧ (fieldAt chars 4 1 ∉ [8, 14, 20, 26] ∨
          7 ≤ chars.length ∧ fieldAt chars 4 1 ≠ 2 + 6 * fieldAt chars 6 1))) ∧
  (∀ (chars : List Byte) (f : Frame) (check : List Byte), wholeFrame chars = some (f, check) ↔
    ∃ n : Byte, n.toNat = f.payload.length ∧ check.length = 2 ∧
      chars = [f.dst, f.src, f.kind, f.tag, n] ++ f.payload ++ check)

/-- The characters of a frame, one after another, do exactly what the frame's own row does: layout, lengths and check are
read as they are written. A frame is of a size that the receiver takes where its payload has at most 48 characters and, in
a SAMPLE, 2+6c with a count c of 1 to 4; another is damaged: its characters, and its row, leave the receiver DISCARDING with
one more length error, and nothing else changes (R156, R159). What the frame's own row does, the characters still to come
arriving at once, is MODEL'S CHOICE (log 7). The command finds taken what follows the events before it (log 3). -/
def Obligations.CharactersOfAFrameDoWhatItsRowDoes : Prop :=
  (∀ (port : Port) (f : Frame) (s : State), s.portFree port → f.payload.length ≤ 255 →
    feed port true f.chars s = frameArrives port f s) ∧
  (∀ f : Frame, f.sizeOk = true ↔ f.payload.length ≤ 48 ∧
    (f.kind = 0x20 → ∃ c, 1 ≤ c ∧ c ≤ 4 ∧ f.payload.length = 2 + 6 * c ∧ fieldAt f.payload 1 1 = c)) ∧
  (∀ (port : Port) (f : Frame) (s : State), s.portFree port → f.sizeOk = false →
    frameArrives port f s =
      setPort port ⟨.discarding, []⟩ { s.portCount port with length := bump (s.portCount port).length } s) ∧
  (∀ (c : Instr) (f : Frame) (s₀ : State),
    let s := s₀.caughtUp
    (pFrameOf c = some f → exec c s₀ = .next (frameArrives .p f s)) ∧
    (sFrameOf c = some f → exec c s₀ = .next (frameArrives .s f s)) ∧
    (∀ src tag payload, exec (.unknownRequest src tag payload) s₀ =
      .next (frameArrives .s ⟨s.ownAddress, src, 0x40, tag, payload⟩ s)))

/-! ### The P-port side of the router -/

/-- The three stages of a SAMPLE, WARNING, REPLY or STATUS frame from the P-port: the node table first, then the block
that acts on the content, then forwarding. A REPLY or STATUS of ill-formed length reaches no block (R158). Forwarding
(R169), kind by kind: to SUP_ADDR or broadcast queued towards the S-port, a SAMPLE only where its source has
forward_samples; at the part itself what a block has taken stays, and the rest is discarded; to another node the frame
stays; to any other address it is discarded. That a malformed REPLY or WARNING to the part itself is discarded is the
reading of log 23. The command finds taken what follows the events before it (log 3). -/
def Obligations.PFrameStagesFollowOneAnother : Prop :=
  (∀ (dst src tag : Byte) (payload : List Byte) (s₀ : State),
    let s := s₀.caughtUp
    s.portFree .p →
    (let f : Frame := ⟨dst, src, kindSample, tag, payload⟩
     f.sizeOk = true → exec (.pSampleFrame dst src tag payload) s₀ =
       .next (forwardP f (sampleFrame src payload (hearSource f (s.gotFrame .p f))))) ∧
    (let f : Frame := ⟨dst, src, kindWarning, tag, payload⟩
     f.sizeOk = true → exec (.pWarningFrame dst src tag payload) s₀ =
       .next (forwardP f (if payload.length = 7 then warningFrame src payload (hearSource f (s.gotFrame .p f))
         else hearSource f (s.gotFrame .p f)))) ∧
    (∀ result code, payload = [result, code] →
      let f : Frame := ⟨dst, src, kindReply, tag, payload⟩
      let h := hearSource f (s.gotFrame .p f)
      exec (.pReplyFrame dst src tag payload) s₀ = .next (forwardP f
        (if dst = s.ownAddress then runEvent (takeReply src tag result (nodeStateOf code)) h
         else if (s.nodeCfg src.toNat).present then runEvent (takeReport src (nodeStateOf code)) h else h))) ∧
    (∀ code detail, payload = code :: detail → payload.length ≤ 9 →
      let f : Frame := ⟨dst, src, kindStatus, tag, payload⟩
      let h := hearSource f (s.gotFrame .p f)
      exec (.pStatusFrame dst src tag payload) s₀ = .next (forwardP f
        (if (s.nodeCfg src.toNat).present then runEvent (takeReport src (nodeStateOf code)) h else h))) ∧
    (payload.length ≤ 48 → payload.length ≠ 2 →
      let f : Frame := ⟨dst, src, kindReply, tag, payload⟩
      exec (.pReplyFrame dst src tag payload) s₀ = .next (forwardP f (hearSource f (s.gotFrame .p f)))) ∧
    (payload.length ≤ 48 → payload = [] ∨ 9 < payload.length →
      let f : Frame := ⟨dst, src, kindStatus, tag, payload⟩
      exec (.pStatusFrame dst src tag payload) s₀ = .next (forwardP f (hearSource f (s.gotFrame .p f))))) ∧
  (∀ (f : Frame) (h : State),
    let discarded : State := { h with router.count.pDiscards := bump h.router.count.pDiscards }
    (f.dst = h.supAddress ∨ f.dst = 127 →
      (f.kind ≠ kindSample → forwardP f h = queueToS f h) ∧
      (f.kind = kindSample → forwardP f h =
        if (h.nodeCfg f.src.toNat).present = true ∧ (h.nodeCfg f.src.toNat).forward = true then queueToS f h else h)) ∧
    (f.dst = h.ownAddress → f.dst ≠ h.supAddress →
      (f.kind = kindSample ∨ f.kind = kindReply ∧ f.payload.length = 2 ∨
        f.kind = kindWarning ∧ f.payload.length = 7 → forwardP f h = h) ∧
      (f.kind ≠ kindSample → (f.kind = kindReply → f.payload.length ≠ 2) →
        (f.kind = kindWarning → f.payload.length ≠ 7) → forwardP f h = discarded)) ∧
    (f.dst ≠ h.supAddress → 1 ≤ f.dst.toNat → f.dst.toNat ≤ 119 → forwardP f h = h) ∧
    (f.dst ≠ h.supAddress → f.dst ≠ h.ownAddress → f.dst ≠ 127 → f.dst.toNat = 0 ∨ 119 < f.dst.toNat →
      forwardP f h = discarded))

/-- Every complete P-port frame from a present node zeroes its time since heard; a REPLY or STATUS of well-formed length
sets its reported state too, RUN, IDLE, SAFE and FAULT for the codes 0 to 3, UNKNOWN for a higher one, which is counted;
every other entry stays; a frame from a node not present changes no entry and is counted. The command finds taken what
follows the events before it (log 3). -/
def Obligations.PFramesUpdateTheNodeTable : Prop :=
  ∀ (c : Instr) (f : Frame) (s₀ : State),
    let s := s₀.caughtUp
    pFrameOf c = some f → s.isRunning = true → f.sizeOk = true →
    let present := (s.nodeCfg f.src.toNat).present
    let code : Option Nat :=
      if f.kind = 0x11 ∧ f.payload.length = 2 then some (fieldAt f.payload 1 1)
      else if f.kind = 0x12 ∧ 1 ≤ f.payload.length ∧ f.payload.length ≤ 9 then some (fieldAt f.payload 0 1)
      else none
    ∃ t, exec c s₀ = .next t ∧
      (∀ a : Fin 128, a.val ≠ f.src.toNat → t.router.nodes[a] = s.router.nodes[a]) ∧
      (∀ a : Fin 128, a.val = f.src.toNat →
        (present = false → t.router.nodes[a] = s.router.nodes[a]) ∧
        (present = true → t.router.nodes[a].heard = 0 ∧
          (code = none → t.router.nodes[a].reported = s.router.nodes[a].reported) ∧
          (code = some 0 → t.router.nodes[a].reported = .run) ∧ (code = some 1 → t.router.nodes[a].reported = .idle) ∧
          (code = some 2 → t.router.nodes[a].reported = .safe) ∧ (code = some 3 → t.router.nodes[a].reported = .fault) ∧
          (∀ n, code = some n → 4 ≤ n → t.router.nodes[a].reported = .unknown))) ∧
      t.router.count.unknownStates = (if present = true ∧ ∃ n, code = some n ∧ 4 ≤ n
        then bump s.router.count.unknownStates else s.router.count.unknownStates) ∧
      t.router.count.unknownSources =
        (if present = true then s.router.count.unknownSources else bump s.router.count.unknownSources)

/-- A SAMPLE frame is processed by every channel that names its source and is not OFF, whatever its destination, and by
no other channel; a source that is not present reaches no channel. What the samples change of a channel's state or seeded
field is handed to the voter sample by sample and, within a sample, in ascending channel order; of two channels at one
sample the order is the model's reading (log 29). The command finds taken what follows the events before it (log 3). -/
def Obligations.SampleFrameReachesExactlyItsChannels : Prop :=
  (∀ (dst src tag seq count : Byte) (rest : List Byte) (s₀ : State),
    let s := s₀.caughtUp
    s.isRunning = true →
    Frame.sizeOk ⟨dst, src, kindSample, tag, seq :: count :: rest⟩ = true →
    ∃ t, exec (.pSampleFrame dst src tag (seq :: count :: rest)) s₀ = .next t ∧
      ∀ i : Fin 32, t.channels[i] =
        if (s.nodeCfg src.toNat).present && s.listens i src then
          let r := channelFrame s.tables.channels[i] s.now seq (readSamples rest) s.channels[i]
          r.2.getLastD r.1
        else s.channels[i]) ∧
  (∀ (dst src tag seq count : Byte) (rest : List Byte) (s₀ : State),
    let s := s₀.caughtUp
    s.portFree .p →
    let f : Frame := ⟨dst, src, kindSample, tag, seq :: count :: rest⟩
    f.sizeOk = true →
    let h := hearSource f (s.gotFrame .p f)
    let samples := readSamples rest
    let r := fun i : Fin 32 => channelFrame s.tables.channels[i] s.now seq samples s.channels[i]
    let u : State := { h with
      channels := .ofFn fun i => if s.listens i src then (r i).2.getLastD (r i).1 else s.channels[i] }
    let changes := (List.finRange 32).flatMap fun i =>
      if s.listens i src then changesOf i 0 (r i).1 (r i).2 else []
    ((s.nodeCfg src.toNat).present = false →
      exec (.pSampleFrame dst src tag (seq :: count :: rest)) s₀ = .next (forwardP f h)) ∧
    ((s.nodeCfg src.toNat).present = true →
      exec (.pSampleFrame dst src tag (seq :: count :: rest)) s₀ = .next (forwardP f
        (((List.range samples.length).flatMap fun k => (changes.filter fun c => c.1 == k).map Prod.snd).foldl
          (fun v c => handChange c v) u)))) ∧
  (∀ (i : Fin 32) (c : Channel) (trail : List Channel) (k : Nat) (x : Change),
    (k, x) ∈ changesOf i 0 c trail ↔ ∃ old new, (c :: trail)[k]? = some old ∧ trail[k]? = some new ∧
      (new.state ≠ old.state ∨ new.seeded ≠ old.seeded) ∧ x = ⟨i, new.state, new.seeded⟩)

/-- The frame sequence classes: what each does to expected sequence, stale timer and counters of a seeded channel (R7 to
R11), the samples that are then processed one after another, and the seeding from the first sample of a frame that
resyncs or that finds the channel unseeded (R6, R10). -/
def Obligations.FrameSequenceClassesOfASeededChannel : Prop :=
  ∀ (cfg : ChanCfg) (now : Time) (seq : Byte) (samples : List Sample) (c : Channel),
    let off := (seq - c.expected).toNat
    let r := channelFrame cfg now seq samples c
    let d := r.2.getLastD r.1
    let accepted := fun x : Channel => ({ x with expected := seq + 1, staleTimer := some cfg.staleTime } : Channel)
    let seeded := fun (x : Channel) (a : Sample) => ({ x with
      state := .priming, seeded := true, priming := 1, below := 0, inOnset := 0
      baseX := 16 * a.x, baseY := 16 * a.y, baseZ := 16 * a.z, sta := 0, lta := 0 } : Channel)
    (c.seeded = true →
      (off = 255 → d = { c with duplicates := bump c.duplicates }) ∧
      (off ≠ 255 → d.expected = seq + 1 ∧ d.staleTimer = some cfg.staleTime ∧ d.duplicates = c.duplicates) ∧
      (off = 0 → d.missed = c.missed ∧ d.resyncs = c.resyncs) ∧
      (1 ≤ off → off ≤ 8 → d.missed = bumpBy c.missed off ∧ d.resyncs = c.resyncs) ∧
      (9 ≤ off → off ≤ 254 → d.missed = c.missed ∧ d.resyncs = bump c.resyncs) ∧
      (off = 0 → d = samples.foldl (processSample cfg now) (accepted c)) ∧
      (1 ≤ off → off ≤ 8 →
        d = samples.foldl (processSample cfg now) (accepted { c with missed := bumpBy c.missed off })) ∧
      (9 ≤ off → off ≤ 254 → ∀ a rest, samples = a :: rest →
        d = rest.foldl (processSample cfg now) (seeded (accepted { c with resyncs := bump c.resyncs }) a))) ∧
    (c.seeded = false → ∀ a rest, samples = a :: rest →
      d = rest.foldl (processSample cfg now) (seeded (accepted c) a))

/-- One sample: the arithmetic of R13 to R16 with the long-term average frozen in ONSET and STRONG, and the tests of R17
to R22 by the state the sample was taken up in. It keeps baselines, averages, priming count and peaks in the ranges of
R2, for every configuration, and so does every step of the part for all 32 channels. -/
def Obligations.SampleArithmeticStaysInRange : Prop :=
  (∀ (cfg : ChanCfg) (now : Time) (c : Channel) (a : Sample), c.InRange → a.InRange →
    (processSample cfg now c a).InRange ∧ (seedChannel c a).InRange) ∧
  (∀ (cfg : ChanCfg) (now : Time) (c : Channel) (a : Sample),
    let diff := fun x b : Int => max (-32767) (min 32767 (x - b.fdiv 16))
    let base := fun x b : Int => b + (16 * x - b).tdiv 1024
    let dx := (diff a.x c.baseX).natAbs
    let dy := (diff a.y c.baseY).natAbs
    let h := max dx dy + min dx dy / 2
    let u := (diff a.z c.baseZ).natAbs
    let e : Channel := { c with
      baseX := base a.x c.baseX, baseY := base a.y c.baseY, baseZ := base a.z c.baseZ
      sta := c.sta + (16 * (u : Int) - c.sta).tdiv (2 ^ cfg.ss)
      lta := if c.state = .onset ∨ c.state = .strong then c.lta
        else c.lta + (16 * (u : Int) - c.lta).tdiv (2 ^ cfg.ls)
      priming := if c.priming < 256 then c.priming + 1 else c.priming
      peakH := max c.peakH h, peakU := max c.peakU u }
    let d := processSample cfg now c a
    (c.state = .strong →
      (h < cfg.g → cfg.h ≤ c.below + 1 →
        d = { e with state := if e.priming = 256 then .quiet else .priming, below := 0 }) ∧
      (h < cfg.g → c.below + 1 < cfg.h → d = { e with below := c.below + 1 }) ∧
      (cfg.g ≤ h → d = { e with below := 0 })) ∧
    (c.state = .priming ∨ c.state = .quiet ∨ c.state = .onset → cfg.g ≤ h →
      d = { e with state := .strong, below := 0, strongAt := now }) ∧
    (c.state = .priming → h < cfg.g → d = if e.priming = 256 then { e with state := .quiet, below := 0 } else e) ∧
    (c.state = .quiet → h < cfg.g →
      d = if cfg.rOn * e.lta ≤ 16 * e.sta ∧ 16 * (cfg.f : Int) ≤ e.sta then
        { e with state := .onset, below := 0, onsetAt := now, inOnset := 0 } else e) ∧
    (c.state = .onset → h < cfg.g →
      let n := c.inOnset + 1
      let b := if 16 * e.sta < cfg.rOff * e.lta then c.below + 1 else 0
      (cfg.tMax ≤ n → d = { e with state := .quiet, below := 0, inOnset := n, lta := e.sta }) ∧
      (n < cfg.tMax → cfg.h ≤ b → d = { e with state := .quiet, below := 0, inOnset := n }) ∧
      (n < cfg.tMax → b < cfg.h → d = { e with inOnset := n, below := b })) ∧
    (c.state = .off ∨ c.state = .stale → d = e)) ∧
  (∀ s t : State, (∀ i : Fin 32, s.channels[i].InRange) → step s = .next t → ∀ i : Fin 32, t.channels[i].InRange)

/-- A WARNING frame: its fields are clamped and its arrival is its completion (R57); one from a node that is not a present
GATEWAY is counted and changes nothing else of the trigger unit; one from a gateway updates its event's record, else takes
the lowest free slot, else replaces the record of the lowest class and the earliest arrival, unless all outrank it, when it
is counted as dropped and changes nothing else of the unit. Every other slot stays. After a change of the table the REMOTE
conditions are formed afresh, each that rises latches its flag, and the request is formed once (R60); the quiet timer is
reloaded by a latch (R46), by a new record at or above class_alert (R59) and by an update whose class is there and above the
one before (R58), and by nothing else; ALERT_OUT is formed (R63). Of two weakest records with one arrival time either is the
one replaced, a free value (log 48). The command finds taken what follows the events before it (log 3). -/
def Obligations.WarningFrameUpdatesTheTable : Prop :=
  (∀ (now : Time) (e1 e0 c l1 l0 v1 v0 : Byte),
    readWarning now [e1, e0, c, l1, l0, v1, v0] = some {
      event := 256 * e1.toNat + e0.toNat
      cls := min c.toNat 9
      lead := min (256 * l1.toNat + l0.toNat) 600
      arrival := now
      expiry := now + BitVec.ofNat 32 (max 1 (min (256 * v1.toNat + v0.toNat) 600) * 1000) }) ∧
  (∀ s : State,
    (∀ event i, s.warningSlot event = some i → ∃ b, s.trig.warnings[i] = some b ∧ b.event = event) ∧
    (∀ event, s.warningSlot event = none → ∀ (i : Fin 4) b, s.trig.warnings[i] = some b → b.event ≠ event) ∧
    (∀ i, s.freeWarningSlot = some i → s.trig.warnings[i] = none ∧ ∀ j : Fin 4, j < i → s.trig.warnings[j] ≠ none) ∧
    (s.freeWarningSlot = none → (∀ i : Fin 4, s.trig.warnings[i] ≠ none) ∧ s.weakestWarning.isSome = true) ∧
    (∀ i b, s.weakestWarning = some (i, b) → s.trig.warnings[i] = some b ∧
      ∀ (j : Fin 4) x, s.trig.warnings[j] = some x →
        b.cls < x.cls ∨ (b.cls = x.cls ∧ (s.now - x.arrival).toNat ≤ (s.now - b.arrival).toNat))) ∧
  (∀ (dst src tag : Byte) (payload : List Byte) (w : Warning) (s₀ : State),
    let s := s₀.caughtUp
    s.isRunning = true →
    readWarning s.now payload = some w →
    let gate := (s.nodeCfg src.toNat).present && (s.nodeCfg src.toNat).kind == .gateway
    ∃ t, exec (.pWarningFrame dst src tag payload) s₀ = .next t ∧
      (let taken := fun (i : Fin 4) (reloads : Bool) =>
        let u : State := { s with trig.warnings := s.trig.warnings.set i (some w) }
        let severe := u.anyWarning s.params.classL2
        let moderate := u.anyWarning s.params.classL1
        let severeRises := severe && !s.trig.remoteSevere
        let moderateRises := moderate && !s.trig.remoteModerate
        let latches := severeRises && !s.trig.flags[srcSevere] || moderateRises && !s.trig.flags[srcModerate]
        t.trig.warnings = u.trig.warnings ∧ t.trig.remoteSevere = severe ∧ t.trig.remoteModerate = moderate ∧
        (∀ k : Fin 24, t.trig.flags[k] = (s.trig.flags[k] || decide (k = srcSevere) && severeRises ||
          decide (k = srcModerate) && moderateRises)) ∧
        t.trig.quiet = (if reloads || latches then some (s.params.q * 1000) else s.trig.quiet) ∧
        t.trig.quietElapsed = (s.trig.quietElapsed && !(reloads || latches)) ∧
        t.trig.alertOut = (s.anyChannelActive || s.anyVote || u.anyWarning s.params.classAlert ||
          t.site.state == .shutting) ∧
        t.trig.warningsDropped = s.trig.warningsDropped ∧ t.trig.warningsIgnored = s.trig.warningsIgnored ∧
        ((severeRises || moderateRises) = true →
          t.trig.requestLevel = t.requestLevelNow ∧ t.trig.cause = t.causeNow) ∧
        ((severeRises || moderateRises) = false → t.site = s.site ∧ t.runner = s.runner ∧ t.trig = { s.trig with
          warnings := u.trig.warnings, remoteSevere := severe, remoteModerate := moderate
          quiet := t.trig.quiet, quietElapsed := t.trig.quietElapsed, alertOut := t.trig.alertOut })
      let alert := decide (s.params.classAlert ≤ w.cls)
      (gate = false → t.trig = { s.trig with warningsIgnored := bump s.trig.warningsIgnored }) ∧
      (gate = true → ∀ i b, s.warningSlot w.event = some i → s.trig.warnings[i] = some b →
        taken i (alert && decide (b.cls < w.cls))) ∧
      (gate = true → s.warningSlot w.event = none → ∀ i, s.freeWarningSlot = some i → taken i alert) ∧
      (gate = true → s.warningSlot w.event = none → s.freeWarningSlot = none →
        ∀ i b, s.weakestWarning = some (i, b) →
          (b.cls ≤ w.cls → taken i alert) ∧
          (w.cls < b.cls → t.trig = { s.trig with warningsDropped := bump s.trig.warningsDropped }))))

/-- P_OTHER_FRAME: the node table, then forwarding by the destination, and nothing else. The command finds taken what
follows the events before it (log 3). -/
def Obligations.POtherFrameIsForwardedByItsDestination : Prop :=
  ∀ (dst src kind tag : Byte) (payload : List Byte) (s₀ : State),
    let s := s₀.caughtUp
    s.portFree .p → payload.length ≤ 48 →
    ownPRow kind = false →
    let f : Frame := ⟨dst, src, kind, tag, payload⟩
    let h := hearSource f (s.gotFrame .p f)
    (dst = s.supAddress ∨ dst.toNat = 127 → exec (.pOtherFrame dst src kind tag payload) s₀ = .next (queueToS f h)) ∧
    (dst = s.ownAddress → dst ≠ s.supAddress →
      exec (.pOtherFrame dst src kind tag payload) s₀ = .next (discardP h)) ∧
    (dst ≠ s.ownAddress → dst ≠ s.supAddress → 1 ≤ dst.toNat → dst.toNat ≤ 119 →
      exec (.pOtherFrame dst src kind tag payload) s₀ = .next h) ∧
    (dst ≠ s.ownAddress → dst ≠ s.supAddress → dst.toNat = 0 ∨ 119 < dst.toNat → dst.toNat ≠ 127 →
      exec (.pOtherFrame dst src kind tag payload) s₀ = .next (discardP h))

/-! ### The S-port side of the router -/

/-- S_COMMAND_FRAME: passed and queued, refused and answered INTERLOCKED on the node's behalf, or dropped from a full queue
and answered BUSY; a broadcast command gets no answer. The answer goes to SUP_ADDR from the node, with the command's tag,
its result and the node's reported state, FAULT and UNKNOWN alike coded 3 (R173). The command finds taken what follows the
events before it (log 3). -/
def Obligations.CommandIsQueuedRefusedOrDropped : Prop :=
  ∀ (dst src tag : Byte) (payload : List Byte) (s₀ : State),
    let s := s₀.caughtUp
    s.portFree .s → payload.length ≤ 48 →
    nodeOrBroadcast dst = true →
    let f : Frame := ⟨dst, src, kindCommand, tag, payload⟩
    let u := s.gotFrame .s f
    let state : Byte := match (s.nodeRt dst.toNat).reported with
      | .run => 0
      | .idle => 1
      | .safe => 2
      | .fault => 3
      | .unknown => 3
    let answer := fun result : Byte => (⟨BitVec.ofNat 8 s.params.supAddr, dst, 0x11, tag, [result, state]⟩ : Frame)
    let refused : State := { u with router.count.refusals := bump u.router.count.refusals }
    let dropped : State := { u with router.count.sToPDrops := bump u.router.count.sToPDrops }
    (s.refuses f = false → s.router.sToP.length < 8 →
      exec (.sCommandFrame dst src tag payload) s₀ = .next { u with router.sToP := s.router.sToP ++ [f] }) ∧
    (s.refuses f = true → dst.toNat ≠ 127 →
      exec (.sCommandFrame dst src tag payload) s₀ = .next (queueToS (answer 3) refused)) ∧
    (s.refuses f = true → dst.toNat = 127 → exec (.sCommandFrame dst src tag payload) s₀ = .next refused) ∧
    (s.refuses f = false → 8 ≤ s.router.sToP.length → dst.toNat ≠ 127 →
      exec (.sCommandFrame dst src tag payload) s₀ = .next (queueToS (answer 2) dropped)) ∧
    (s.refuses f = false → 8 ≤ s.router.sToP.length → dst.toNat = 127 →
      exec (.sCommandFrame dst src tag payload) s₀ = .next dropped)

/-- The interlock's decision, case by case in its order. -/
def Obligations.InterlockDecidesByTheFirstCaseThatApplies : Prop :=
  ∀ (f : Frame) (s : State),
    (s.site.state = .unconfigured → s.refuses f = false) ∧
    (1 ≤ f.payload.length → f.payload.length ≤ 9 → f.kind = kindCommand → f.payload.head? = some 7 →
      s.refuses f = false) ∧
    (∀ z : Fin 8, isNode f.dst = true → (s.nodeCfg f.dst.toNat).present = true →
      (s.nodeCfg f.dst.toNat).zone = some z → s.voter.zones[z].isolated = true → s.refuses f = false) ∧
    (f.actionClass ≠ classQuery → s.toIsolated f = false →
      (s.site.state = .armed → (s.refuses f = true ↔ s.tables.filter[f.actionClass].armed = .refuse)) ∧
      (s.site.state = .shutting → (s.refuses f = true ↔ s.tables.filter[f.actionClass].shutting = .refuse)) ∧
      (s.site.state = .safeHold → (s.refuses f = true ↔ s.tables.filter[f.actionClass].safeHold = .refuse)) ∧
      (s.site.state = .restarting → (s.refuses f = true ↔ s.tables.filter[f.actionClass].restarting = .refuse)))

/-- S_OTHER_FRAME: discarded by its destination, or queued towards the P-port, where a full queue drops it without an
answer. A COMMAND from the S-port to the part itself, or to an address that is no node's and not broadcast, is discarded
and counted like any other frame (R170). The command finds taken what follows the events before it (log 3). -/
def Obligations.SOtherFrameIsQueuedOrDiscarded : Prop :=
  (∀ (dst src kind tag : Byte) (payload : List Byte) (s₀ : State),
    let s := s₀.caughtUp
    let f : Frame := ⟨dst, src, kind, tag, payload⟩
    let u := s.gotFrame .s f
    s.portFree .s → f.sizeOk = true → kind ≠ kindCommand → ¬(dst = s.ownAddress ∧ kind = kindRequest) →
    (nodeOrBroadcast dst = false → exec (.sOtherFrame dst src kind tag payload) s₀ = .next (discardS u)) ∧
    (nodeOrBroadcast dst = true → s.router.sToP.length < 8 →
      exec (.sOtherFrame dst src kind tag payload) s₀ = .next { u with router.sToP := s.router.sToP ++ [f] }) ∧
    (nodeOrBroadcast dst = true → 8 ≤ s.router.sToP.length →
      exec (.sOtherFrame dst src kind tag payload) s₀ =
        .next { u with router.count.sToPDrops := bump u.router.count.sToPDrops })) ∧
  (∀ (dst src tag : Byte) (payload : List Byte) (s₀ : State),
    let s := s₀.caughtUp
    s.portFree .s → payload.length ≤ 48 →
    nodeOrBroadcast dst = false →
    let u := s.gotFrame .s ⟨dst, src, kindCommand, tag, payload⟩
    let discarded : State := { u with router.count.sDiscards := bump s.router.count.sDiscards }
    exec (.sCommandFrame dst src tag payload) s₀ = .next discarded ∧
      exec (.sOtherFrame dst src kindCommand tag payload) s₀ = .next discarded)

/-- The P→S queue at a full queue: the oldest SAMPLE gives way, and without one the arriving frame is lost. -/
def Obligations.FullPToSQueueShedsItsOldestSample : Prop :=
  ∀ (f : Frame) (s : State),
    (s.router.pToS.length < 16 → queueToS f s = { s with router.pToS := s.router.pToS ++ [f] }) ∧
    (∀ (older newer : List Frame) (g : Frame), s.router.pToS = older ++ g :: newer → g.isSample = true →
      (∀ x ∈ older, x.isSample = false) → 16 ≤ s.router.pToS.length →
      queueToS f s = { s with
        router.pToS := older ++ newer ++ [f], router.count.pToSLosses := bump s.router.count.pToSLosses }) ∧
    (16 ≤ s.router.pToS.length → (∀ x ∈ s.router.pToS, x.isSample = false) →
      queueToS f s = { s with router.count.pToSLosses := bump s.router.count.pToSLosses })

/-! ### Management requests -/

/-- Every request row is the arrival of its payload, and UNKNOWN_REQUEST is that of any payload. A request is handled
where no commanded reset is pending, no held response waits for a place and the response queue has one; otherwise it is
discarded and counted, whatever its payload. The command finds taken what follows the events before it (log 3). -/
def Obligations.RequestsAreDiscardedWithoutAPlace : Prop :=
  ∀ s₀ : State,
    let s := s₀.caughtUp
    s.portFree .s →
    let discarded : State := { s with
      link.sRx := {}, link.sCount := { s.link.sCount with received := bump s.link.sCount.received }
      mgmt.discarded := bump s.mgmt.discarded }
    (s.takesRequest = true ↔ s.mgmt.cmdReset = .none ∧ s.mgmt.held = [] ∧ s.mgmt.responses.length < 4) ∧
    (∀ (c : Instr) (src tag : Byte) (r : Req), requestOf c = some (src, tag, r) → r.payload.length ≤ 48 →
      exec c s₀ = exec (.unknownRequest src tag r.payload) s₀ ∧
      (s.takesRequest = false → exec c s₀ = .next discarded) ∧
      (s.takesRequest = true → exec c s₀ = .next (performPayload src tag r.payload s.asked))) ∧
    (∀ (src tag : Byte) (payload : List Byte), payload.length ≤ 48 →
      (s.takesRequest = false → exec (.unknownRequest src tag payload) s₀ = .next discarded) ∧
      (s.takesRequest = true →
        exec (.unknownRequest src tag payload) s₀ = .next (performPayload src tag payload s.asked)))

/-- UNKNOWN_REQUEST: an empty payload, a code not in the table or a wrong length is answered BAD_REQUEST, with code 0 for
an empty payload, and changes nothing else. The command finds taken what follows the events before it (log 3). -/
def Obligations.BadRequestsAreAnsweredBadRequest : Prop :=
  ∀ (src tag : Byte) (s₀ : State),
    let s := s₀.caughtUp
    s.OpenTo →
    exec (.unknownRequest src tag []) s₀ = .next (s.asked.replied src tag 0 .badRequest []) ∧
    ∀ (code : Byte) (args : List Byte), args.length ≤ 47 → parseRequest code args = none →
      exec (.unknownRequest src tag (code :: args)) s₀ = .next (s.asked.replied src tag code .badRequest [])

/-- Every read is answered OK in every site state with its data, one that names something outside its range with
BAD_ARGUMENT (READ_SHADOW also where the data is more than 8 parts hold), and no read changes anything else. The data
are given by their places: each triple is a place, a number of characters and the number they hold, high byte first. A
value wider than its field shows its low part, which no state within the rules' ranges does. MODEL'S CHOICES in the
data: the codes of lists, masks and yes-or-no items, the levels mask and the further source mask, which may be there or
not (log 18), the codes of names and "none" (log 17), the layout of lists (log 19), a READ_SHADOW of no records (log
21), stale timers and reply deadlines, step and quiet timers that have run down (log 43), trip records without their CRC
(log 45) and the protection word during its write (log 46). The command finds taken what follows the events before it
(log 3). -/
def Obligations.ReadsAnswerWithTheirDataAndChangeNothing : Prop :=
  (∀ (src tag x kind first count : Byte) (s₀ : State),
    let s := s₀.caughtUp
    s.OpenTo →
    let ok := fun (code : Byte) (data : List Byte) => s.asked.replied src tag code .ok data
    let bad := fun (code : Byte) => s.asked.replied src tag code .badArgument []
    exec (.readStatus src tag) s₀ = .next (ok 0x01 s.statusData) ∧
    exec (.readChannel src tag x) s₀ =
      .next (if h : x.toNat < 32 then ok 0x02 (s.channelData ⟨x.toNat, h⟩) else bad 0x02) ∧
    exec (.readZone src tag x) s₀ =
      .next (if h : x.toNat < 8 then ok 0x03 (s.zoneData ⟨x.toNat, h⟩) else bad 0x03) ∧
    exec (.readNode src tag x) s₀ = .next (if x.toNat < 128 then ok 0x04 (s.nodeData x.toNat) else bad 0x04) ∧
    exec (.readStep src tag x) s₀ =
      .next (if h : x.toNat < 64 then ok 0x05 (s.stepData ⟨x.toNat, h⟩) else bad 0x05) ∧
    exec (.readOutstanding src tag) s₀ = .next (ok 0x06 s.outstandingData) ∧
    exec (.readWarnings src tag) s₀ = .next (ok 0x07 s.warningsData) ∧
    exec (.readTripRecord src tag x) s₀ =
      .next (if h : x.toNat < 16 then ok 0x08 (s.recordData ⟨x.toNat, h⟩) else bad 0x08) ∧
    exec (.readCounters src tag x) s₀ =
      .next (if x.toNat ≤ 4 then ok 0x09 ((s.asked.counterData x.toNat).getD []) else bad 0x09) ∧
    exec (.readShadow src tag x kind first count) s₀ = .next
      (match readPlace x kind first count with
        | some (b, k) =>
          if count.toNat * k.size ≤ 352 then ok 0x10 (s.store.shadow.recordsChars b k first.toNat count.toNat)
          else bad 0x10
        | none => bad 0x10)) ∧
  (∀ n : Nat, (u8 n).length = 1 ∧ fieldAt (u8 n) 0 1 = n % 256 ∧ (u16 n).length = 2 ∧ fieldAt (u16 n) 0 2 = n % 65536 ∧
    (u32 n).length = 4 ∧ fieldAt (u32 n) 0 4 = n % 4294967296) ∧
  (∀ s : State,
    -- READ_STATUS
    (let d := s.statusData
     ∃ x, (x = 0 ∨ x = 4) ∧ d.length = 90 + x ∧
      (∀ p ∈ ([(0, 1, s.site.state.code), (1, 1, s.site.level % 256),
          (2, 1, (s.site.hold.map HoldReason.code).getD 255), (3, 2, s.site.trip % 65536),
          (5, 1, (s.site.record.map Fin.val).getD 255), (6, 1, s.site.requestLevel % 256),
          (7, 1, (s.site.cause.map Fin.val).getD 255), (8, 1, s.site.restartIncomplete.toNat),
          (9, 1, s.site.activationPending.toNat), (22 + x, 1, s.trig.forcedLevel % 256),
          (23 + x, 1, s.activeCondition.toNat), (29 + x, 1, s.trig.feedStable.toNat),
          (30 + x, 4, match s.trig.feedStart with
            | some t => (s.params.feedDwell * 1000 - (s.now - t).toNat) % 4294967296
            | none => 4294967295),
          (34 + x, 1, s.trig.quietElapsed.toNat), (35 + x, 4, s.trig.quiet.getD 4294967295 % 4294967296),
          (39 + x, 1, s.params.classAlert % 256), (40 + x, 1, s.params.classL1 % 256),
          (41 + x, 1, s.params.classL2 % 256), (42 + x, 1, s.trig.alertOut.toNat), (43 + x, 1, s.trig.tripOut.toNat),
          (78 + x, 1, s.store.commit.isSome.toNat), (81 + x, 1, s.mgmt.causes.power.toNat),
          (82 + x, 1, s.mgmt.causes.pin.toNat), (83 + x, 1, s.mgmt.causes.commanded.toNat),
          (84 + x, 1, s.mgmt.straps.addr.val), (85 + x, 1, s.mgmt.straps.rate.val),
          (86 + x, 4, s.mgmt.siteTime.toNat)] : List (Nat × Nat × Nat)), fieldAt d p.1 p.2.1 = p.2.2) ∧
      (∀ i : Fin 24, (fieldAt d 10 4).testBit i.val = s.trig.flags[i] ∧
        (fieldAt d 14 4).testBit i.val = s.tables.sources[i].enabled ∧
        (fieldAt d (18 + x) 4).testBit i.val = decide (s.sourceLevel i = 2)) ∧
      (∀ i : Fin 5, fieldAt d (24 + x + i.val) 1 = s.trig.inputs[i].active.toNat) ∧
      (∀ z : Fin 8, fieldAt d (44 + x + 3 * z.val) 1 = s.voter.zones[z].onsetVote.toNat ∧
        fieldAt d (45 + x + 3 * z.val) 1 = s.voter.zones[z].strongVote.toNat ∧
        fieldAt d (46 + x + 3 * z.val) 1 = s.voter.zones[z].condition.code ∧
        (fieldAt d (68 + x) 1).testBit z.val = s.voter.zones[z].isolated) ∧
      (∀ b : Fin 4, fieldAt d (69 + x + b.val) 1 = s.store.cond[b].code ∧
        fieldAt d (73 + x + b.val) 1 = s.store.workValid[b].toNat ∧
        (fieldAt d (77 + x) 1).testBit b.val = s.store.awaiting[b] ∧
        (fieldAt d (79 + x) 1).testBit b.val = s.store.activeProtection[b] ∧
        (fieldAt d (80 + x) 1).testBit b.val = s.nv.protection.active[b])) ∧
    -- READ_CHANNEL: the configuration of R1, then the runtime record of R2
    (∀ i : Fin 32,
      let d := s.channelData i
      let k := s.tables.channels[i]
      let c := s.channels[i]
      d.length = 67 ∧
      ∀ p ∈ ([(0, 1, k.enabled.toNat), (1, 1, k.sensor % 256), (2, 1, k.ss % 256), (3, 1, k.ls % 256),
          (4, 1, k.rOn % 256), (5, 1, k.rOff % 256), (6, 2, k.f % 65536), (8, 2, k.g % 65536), (10, 1, k.h % 256),
          (11, 2, k.tMax % 65536), (13, 2, k.staleTime % 65536), (15, 1, c.state.code), (16, 1, c.seeded.toNat),
          (17, 2, c.priming % 65536), (19, 1, c.expected.toNat), (20, 4, (BitVec.ofInt 32 c.baseX).toNat),
          (24, 4, (BitVec.ofInt 32 c.baseY).toNat), (28, 4, (BitVec.ofInt 32 c.baseZ).toNat),
          (32, 4, (BitVec.ofInt 32 c.sta).toNat), (36, 4, (BitVec.ofInt 32 c.lta).toNat), (40, 1, c.below % 256),
          (41, 2, c.inOnset % 65536), (43, 4, c.onsetAt.toNat), (47, 4, c.strongAt.toNat), (51, 2, c.peakH % 65536),
          (53, 2, c.peakU % 65536), (55, 4, c.staleTimer.getD 4294967295 % 4294967296), (59, 2, c.missed % 65536),
          (61, 2, c.duplicates % 65536), (63, 2, c.resyncs % 65536), (65, 2, c.staleEntries % 65536)] :
          List (Nat × Nat × Nat)), fieldAt d p.1 p.2.1 = p.2.2) ∧
    -- READ_ZONE
    (∀ z : Fin 8,
      let cfg := s.tables.zones[z]
      let r := s.voter.zones[z]
      let k := s.zoneCounts z
      let left := fun o : Option Time => u32 (match o with
        | some t => (t - s.now).toNat
        | none => 4294967295)
      s.zoneData z = u8 cfg.members.length ++ (cfg.members.flatMap fun m => u8 m.val) ++ u8 cfg.kOn ++ u8 cfg.kStrong ++
        u16 cfg.w ++ u8 cfg.degrade.code ++ u8 r.isolated.toNat ++
        (cfg.members.flatMap fun m => u8 m.val ++ u8 s.voter.members[m].state.code ++
          u8 s.voter.members[m].seeded.toNat ++ left s.voter.members[m].onsetUntil ++
          left s.voter.members[m].strongUntil) ++
        u8 k.onsetActive ++ u8 k.strongActive ++ u8 k.capableOn ++ u8 k.capableStrong ++ u8 k.kEffOn ++ u8 k.kEffStrong ++
        u8 r.onsetVote.toNat ++ u8 r.strongVote.toNat ++ u8 r.condition.code) ∧
    -- READ_NODE
    (∀ a : Fin 128,
      let d := s.nodeData a.val
      let c := s.nodeCfg a.val
      d.length = 10 ∧
      ∀ p ∈ ([(0, 1, c.present.toNat), (1, 1, c.kind.code), (2, 1, (c.zone.map Fin.val).getD 255),
          (3, 1, c.loadClass.val), (4, 1, c.forward.toNat), (5, 1, s.router.nodes[a].reported.code),
          (6, 4, s.router.nodes[a].heard % 4294967296)] : List (Nat × Nat × Nat)), fieldAt d p.1 p.2.1 = p.2.2) ∧
    -- READ_STEP: run record, runtime record, and the configuration where the run record names a plan
    (∀ i : Fin 64,
      let d := s.stepData i
      let r := s.runner.run
      let x := s.runner.steps[i]
      let c := s.stepCfg i
      (∀ p ∈ ([(0, 1, (r.plan.map PlanId.code).getD 255), (1, 1, r.status.code), (2, 1, r.stepCount % 256),
          (3, 1, r.slotLimit % 256), (4, 4, r.start.toNat), (8, 4, (r.finish.map BitVec.toNat).getD 4294967295),
          (12, 1, r.failed % 256), (13, 1, r.cfgChanged.toNat), (14, 1, x.state.code),
          (15, 4, (s.now - x.entry).toNat), (19, 4, x.timer.getD 4294967295 % 4294967296),
          (23, 1, (x.reason.map FailReason.code).getD 255), (24, 1, (decide (i.val < r.stepCount)).toNat)] :
          List (Nat × Nat × Nat)), fieldAt d p.1 p.2.1 = p.2.2) ∧
      (r.plan = none → d.length = 25) ∧
      (r.plan ≠ none → c.prereqs.length ≤ 4 → d.length = 38 ∧
        (∀ p ∈ ([(25, 1, c.action.code), (26, 1, c.target.getD 255 % 256), (27, 1, c.prereqs.length),
          (32, 2, c.dwell % 65536), (34, 2, c.deadline % 65536), (36, 1, c.reissues % 256), (37, 1, c.policy.code)] :
          List (Nat × Nat × Nat)), fieldAt d p.1 p.2.1 = p.2.2) ∧
        ∀ j : Fin 4, fieldAt d (28 + j.val) 1 = ((c.prereqs[j.val]?).map Fin.val).getD 255)) ∧
    -- READ_OUTSTANDING
    (s.outstandingData = u8 ((s.runner.run.plan.map PlanId.code).getD 255) ++ u8 s.runner.run.slotLimit ++
      u8 s.runner.outstanding.length ++ (s.runner.outstanding.flatMap fun e =>
        u8 e.step.val ++ u8 e.target ++ u8 e.action.code ++ u8 e.tag.toNat ++ u8 e.phase.code ++
          u32 (e.deadline.getD 4294967295) ++ u8 e.left) ++
      u8 s.runner.injection.length ++ (s.runner.injection.flatMap fun f =>
        u8 f.tag.toNat ++ u8 f.target ++ u8 f.action.code ++ u8 f.feed.toNat) ++ u8 s.runner.tagCounter.toNat) ∧
    -- READ_WARNINGS
    (s.warningsData = (List.finRange 4).flatMap fun i => match s.trig.warnings[i] with
      | none => u8 0
      | some w => u8 1 ++ u16 w.event ++ u8 w.cls ++ u16 w.lead ++ u32 (s.now - w.arrival).toNat ++
          u32 (w.expiry - s.now).toNat) ∧
    -- READ_TRIP_RECORD
    (∀ i : Fin 16,
      let d := s.recordData i
      let busy := (s.store.recordWrites.any fun w => decide (w.slot = i)) || match s.store.writing with
        | some ⟨.record w, _⟩ => decide (w.slot = i)
        | _ => false
      let tail := [(0, 1, (decide (s.site.record = some i)).toNat), (1, 1, busy.toNat), (2, 4, s.store.writeSeq.toNat),
        (6, 1, s.store.recordWrites.length % 256)]
      match s.store.ring[i] with
      | .record r => d.length = 29 ∧ (∀ p ∈ tail, fieldAt d (22 + p.1) p.2.1 = p.2.2) ∧
          ∀ p ∈ ([(0, 1, 2), (1, 4, r.seq.toNat), (5, 2, r.trip % 65536), (7, 4, r.opened.toNat),
            (11, 1, (r.cause.map Fin.val).getD 255), (12, 1, r.level % 256), (13, 1, r.escalated.toNat),
            (14, 2, r.peakH % 65536), (16, 1, r.outcome.code), (17, 1, r.closure.code), (18, 4, r.closed.toNat)] :
            List (Nat × Nat × Nat)), fieldAt d p.1 p.2.1 = p.2.2
      | x => d.length = 8 ∧ fieldAt d 0 1 = (if x = .blank then 0 else 1) ∧
          ∀ p ∈ tail, fieldAt d (1 + p.1) p.2.1 = p.2.2) ∧
    -- READ_COUNTERS, group by group
    (let port := fun c : PortCount => [c.received, c.framing, c.abandoned, c.truncated, c.length, c.check, c.stray,
        c.malformed, c.sent].flatMap u16
     let r := s.router.count
     s.counterData 0 = some (port s.link.sCount) ∧ s.counterData 1 = some (port s.link.pCount) ∧
      s.counterData 2 = some ([r.unknownSources, r.unknownStates, r.pDiscards, r.sDiscards, r.refusals, r.sToPDrops,
        r.pToSLosses, r.noticesReplaced].flatMap u16) ∧
      s.counterData 3 = some ([s.trig.warningsDropped, s.trig.warningsIgnored, s.runner.commandsSent,
        s.runner.reissues, s.runner.strays, s.store.suspensions].flatMap u16) ∧
      s.counterData 4 = some ([s.mgmt.handled, s.mgmt.discarded].flatMap u16)))

/-- WRITE_SHADOW: the records replace the shadow's and nothing else, OK_CLAMPED where a field was clamped; BAD_REQUEST for
a wrong length, BAD_ARGUMENT for a place or a field outside its set, BUSY during a commit, and then no record is written.
Record by record: the record at each index from the first on is the one its characters spell, and every other record of every
kind and block stays; how a record's characters are read, clamped fields among them, is the next statement.
A record kind outside the nine is refused with BAD_ARGUMENT at any length, and a count of 0 writes nothing and is OK: the
reading of log 21. The command finds taken what follows the events before it (log 3). -/
def Obligations.WriteShadowReplacesRecordsOrRefuses : Prop :=
  (∀ (src tag block kind first count : Byte) (records : List Byte) (s₀ : State),
    let s := s₀.caughtUp
    s.OpenTo → records.length ≤ 43 →
    let written := fun b k => s.store.shadow.writeRecords b k first.toNat count.toNat records
    (shadowLengthOk kind count records = false →
      exec (.writeShadow src tag block kind first count records) s₀ =
        .next (s.asked.replied src tag 0x11 .badRequest [])) ∧
    (shadowLengthOk kind count records = true → readPlace block kind first count = none →
      exec (.writeShadow src tag block kind first count records) s₀ =
        .next (s.asked.replied src tag 0x11 .badArgument [])) ∧
    (∀ b k, shadowLengthOk kind count records = true → readPlace block kind first count = some (b, k) →
      (written b k = none → exec (.writeShadow src tag block kind first count records) s₀ =
        .next (s.asked.replied src tag 0x11 .badArgument [])) ∧
      (∀ bs wasClamped, written b k = some (bs, wasClamped) →
        (s.store.commit.isSome = true → exec (.writeShadow src tag block kind first count records) s₀ =
          .next (s.asked.replied src tag 0x11 .busy [])) ∧
        (s.store.commit = none → exec (.writeShadow src tag block kind first count records) s₀ =
          .next { s.asked.replied src tag 0x11 (if wasClamped then .okClamped else .ok) [] with
            store.shadow := bs })))) ∧
  (∀ (block kind first count : Byte) (records : List Byte) (bs : Blocks) (b : Fin 4) (k : RecordKind),
    readPlace block kind first count = some (b, k) → records.length = count.toNat * k.size →
    let read := fun j : Nat => readRecord k ((records.drop (j * k.size)).take k.size)
    let written := bs.writeRecords b k first.toNat count.toNat records
    (written = none ↔ ∃ j < count.toNat, read j = none) ∧
    (∀ bs' wasClamped, written = some (bs', wasClamped) →
      (∀ j < count.toNat, recordIn bs' b k (first.toNat + j) = (read j).map Prod.fst) ∧
      (wasClamped = true ↔ ∃ j < count.toNat, (read j).map Prod.snd = some true) ∧
      (∀ (b' : Fin 4) (k' : RecordKind) (i : Nat),
        (b' = b → k' = k → i < first.toNat ∨ first.toNat + count.toNat ≤ i) →
        recordIn bs' b' k' i = recordIn bs b' k' i)))

/-- A record of any of the nine kinds whose fields lie in their ranges is read back from its characters as it was, with
no field clamped. A record of any characters of its kind's length is read unless a field names something outside its
set; each number outside its range is then the nearest end of that range, and that alone is what clamping means (R137).
MODEL'S READINGS: R_off is 16 to 254 whatever R_on is (log 20), a MARK without target is coded 255 (log 21), and a
SOURCE record has its three fields for every source (log 22). -/
def Obligations.ShadowRecordsReadBack : Prop :=
  (∀ c : StepCfg, (∀ a, c.target = some a → 1 ≤ a ∧ a ≤ 119) → (c.target = none → c.action = .mark) →
    c.prereqs.length ≤ 4 → c.dwell ≤ 65535 → 10 ≤ c.deadline → c.deadline ≤ 10000 → c.reissues ≤ 3 →
    readStep c.chars = some (c, false)) ∧
  (∀ c : ChanCfg, 1 ≤ c.sensor → c.sensor ≤ 119 → 1 ≤ c.ss → c.ss ≤ 5 → 6 ≤ c.ls → c.ls ≤ 12 → 20 ≤ c.rOn →
    c.rOn ≤ 255 → 16 ≤ c.rOff → c.rOff ≤ 254 → 1 ≤ c.f → c.f ≤ 1000 → 10 ≤ c.g → c.g ≤ 32767 → 1 ≤ c.h →
    c.h ≤ 255 → 100 ≤ c.tMax → c.tMax ≤ 65535 → 50 ≤ c.staleTime → c.staleTime ≤ 2000 →
    readChannelCfg c.chars = some (c, false)) ∧
  (∀ c : NodeCfg, readNodeCfg c.chars = some (c, false)) ∧
  (∀ p : Plan, p.stepCount ≤ 64 → 1 ≤ p.slotLimit → p.slotLimit ≤ 8 →
    readHeader p.headerChars = some ((p.stepCount, p.slotLimit), false)) ∧
  (∀ c : ZoneCfg, c.members.length ≤ 8 → 1 ≤ c.kOn → c.kOn ≤ 8 → 1 ≤ c.kStrong → c.kStrong ≤ 8 → 10 ≤ c.w →
    c.w ≤ 5000 → readZoneCfg c.chars = some (c, false)) ∧
  (∀ c : ClassCfg, 100 ≤ c.readyTimeout → c.readyTimeout ≤ 600000 → 100 ≤ c.parkTimeout → c.parkTimeout ≤ 600000 →
    c.settleDwell ≤ 600000 → readClassCfg c.chars = some (c, false)) ∧
  (∀ c : SourceCfg, 1 ≤ c.level → c.level ≤ 2 → readSourceCfg c.chars = some (c, false)) ∧
  (∀ c : FilterCfg, readFilterCfg c.chars = some (c, false)) ∧
  (∀ c : SiteCfg, 1 ≤ c.supAddr → c.supAddr ≤ 119 → (∀ i : Fin 5, 1 ≤ c.debounce[i] ∧ c.debounce[i] ≤ 255) →
    c.feedDwell ≤ 600 → 10 ≤ c.q → c.q ≤ 3600 → c.classAlert ≤ 9 → c.classL1 ≤ 9 → c.classL2 ≤ 9 →
    readSiteCfg c.chars = some (c, false)) ∧
  -- any characters: each number is (value read, place, characters, lowest, highest)
  (∀ d : List Byte,
    let at' := fun k n : Nat => fieldAt d k n
    let numbers := fun (l : List (Nat × Nat × Nat × Nat × Nat)) (wasClamped : Bool) =>
      (∀ p ∈ l, p.1 = max p.2.2.2.1 (min p.2.2.2.2 (at' p.2.1 p.2.2.1))) ∧
      (wasClamped = true ↔ ∃ p ∈ l, at' p.2.1 p.2.2.1 < p.2.2.2.1 ∨ p.2.2.2.2 < at' p.2.1 p.2.2.1)
    (d.length = 2 → readHeader d ≠ none ∧
      ∀ c x, readHeader d = some (c, x) → numbers [(c.1, 0, 1, 0, 64), (c.2, 1, 1, 1, 8)] x) ∧
    (d.length = 13 →
      (readStep d = none ↔ 6 < at' 0 1 ∨ ((at' 1 1 = 0 ∨ 119 < at' 1 1) ∧ ¬(at' 0 1 = 0 ∧ at' 1 1 = 255)) ∨
        4 < at' 2 1 ∨ (∃ j < at' 2 1, 64 ≤ at' (3 + j) 1) ∨ 3 < at' 12 1) ∧
      ∀ c x, readStep d = some (c, x) →
        c.action.code = at' 0 1 ∧ c.target = (if at' 0 1 = 0 ∧ at' 1 1 = 255 then none else some (at' 1 1)) ∧
        c.prereqs.map Fin.val = (List.range (at' 2 1)).map (fun j => at' (3 + j) 1) ∧ c.policy.code = at' 12 1 ∧
        numbers [(c.dwell, 7, 2, 0, 65535), (c.deadline, 9, 2, 10, 10000), (c.reissues, 11, 1, 0, 3)] x) ∧
    (d.length = 5 →
      (readNodeCfg d = none ↔
        1 < at' 0 1 ∨ 7 < at' 1 1 ∨ (8 ≤ at' 2 1 ∧ at' 2 1 ≠ 255) ∨ 16 ≤ at' 3 1 ∨ 1 < at' 4 1) ∧
      ∀ c x, readNodeCfg d = some (c, x) → c.present.toNat = at' 0 1 ∧ c.kind.code = at' 1 1 ∧
        (c.zone.map Fin.val).getD 255 = at' 2 1 ∧ c.loadClass.val = at' 3 1 ∧ c.forward.toNat = at' 4 1 ∧ x = false) ∧
    (d.length = 15 →
      (readChannelCfg d = none ↔ 1 < at' 0 1 ∨ at' 1 1 = 0 ∨ 119 < at' 1 1) ∧
      ∀ c x, readChannelCfg d = some (c, x) → c.enabled.toNat = at' 0 1 ∧ c.sensor = at' 1 1 ∧
        numbers [(c.ss, 2, 1, 1, 5), (c.ls, 3, 1, 6, 12), (c.rOn, 4, 1, 20, 255), (c.rOff, 5, 1, 16, 254),
          (c.f, 6, 2, 1, 1000), (c.g, 8, 2, 10, 32767), (c.h, 10, 1, 1, 255), (c.tMax, 11, 2, 100, 65535),
          (c.staleTime, 13, 2, 50, 2000)] x) ∧
    (d.length = 14 →
      (readZoneCfg d = none ↔ 8 < at' 0 1 ∨ (∃ j < at' 0 1, 32 ≤ at' (1 + j) 1) ∨ 1 < at' 13 1) ∧
      ∀ c x, readZoneCfg d = some (c, x) →
        c.members.map Fin.val = (List.range (at' 0 1)).map (fun j => at' (1 + j) 1) ∧ c.degrade.code = at' 13 1 ∧
        numbers [(c.kOn, 9, 1, 1, 8), (c.kStrong, 10, 1, 1, 8), (c.w, 11, 2, 10, 5000)] x) ∧
    (d.length = 13 →
      (readClassCfg d = none ↔ 1 < at' 12 1) ∧
      ∀ c x, readClassCfg d = some (c, x) → c.fallback.toNat = at' 12 1 ∧
        numbers [(c.readyTimeout, 0, 4, 100, 600000), (c.parkTimeout, 4, 4, 100, 600000),
          (c.settleDwell, 8, 4, 0, 600000)] x) ∧
    (d.length = 3 →
      (readSourceCfg d = none ↔ 1 < at' 0 1 ∨ 1 < at' 2 1) ∧
      ∀ c x, readSourceCfg d = some (c, x) → c.enabled.toNat = at' 0 1 ∧ c.polarity.code = at' 2 1 ∧
        numbers [(c.level, 1, 1, 1, 2)] x) ∧
    (d.length = 4 →
      (readFilterCfg d = none ↔ 1 < at' 0 1 ∨ 1 < at' 1 1 ∨ 1 < at' 2 1 ∨ 1 < at' 3 1) ∧
      ∀ c x, readFilterCfg d = some (c, x) → c.armed.code = at' 0 1 ∧ c.shutting.code = at' 1 1 ∧
        c.safeHold.code = at' 2 1 ∧ c.restarting.code = at' 3 1 ∧ x = false) ∧
    (d.length = 13 →
      (readSiteCfg d = none ↔ at' 0 1 = 0 ∨ 119 < at' 0 1) ∧
      ∀ c x, readSiteCfg d = some (c, x) → c.supAddr = at' 0 1 ∧
        numbers ((List.finRange 5).map (fun i => (c.debounce[i], 1 + i.val, 1, 1, 255)) ++
          [(c.feedDwell, 6, 2, 0, 600), (c.q, 8, 2, 10, 3600), (c.classAlert, 10, 1, 0, 9), (c.classL1, 11, 1, 0, 9),
            (c.classL2, 12, 1, 0, 9)]) x))

/-- COMMIT: the refusals in the order of R140's table, each changing nothing, and the admission, which is not answered yet
and queues the named blocks in ascending order. The fault reported is the first that the named shadows show of R139's twelve,
by block, record kind, index and check; of a new block 3, then, the first of checks 5 and 6 that a VALID plan block not named
shows against it. Checks 5 and 6 look up nodes in the shadow of block 3 where it is named, else in the non-volatile block 3
where it is VALID, else they are not made. That a mask of 16 or more, which has a bit beyond the four blocks, is
BAD_ARGUMENT is MODEL'S CHOICE (log 40). The command finds taken what follows the events before it (log 3). -/
def Obligations.CommitIsRefusedInOrderOrAdmitted : Prop :=
  (∀ (src tag mask : Byte) (s₀ : State),
    let s := s₀.caughtUp
    s.OpenTo →
    (mask.toNat = 0 ∨ 16 ≤ mask.toNat →
      exec (.commit src tag mask) s₀ = .next (s.asked.replied src tag 0x12 .badArgument [])) ∧
    (∀ named, readBlockSet mask = some named → anyOf named = true →
      (s.site.state = .shutting ∨ s.site.state = .restarting →
        exec (.commit src tag mask) s₀ = .next (s.asked.replied src tag 0x12 .wrongState [])) ∧
      (s.atRest = true → s.store.commit.isSome = true →
        exec (.commit src tag mask) s₀ = .next (s.asked.replied src tag 0x12 .busy [])) ∧
      (s.atRest = true → s.store.commit = none → s.protects named = true →
        exec (.commit src tag mask) s₀ = .next (s.asked.replied src tag 0x12 .isProtected [])) ∧
      (s.atRest = true → s.store.commit = none → s.protects named = false →
        (∀ f, s.shadowFault named = some f →
          exec (.commit src tag mask) s₀ = .next (s.asked.replied src tag 0x12 .invalidPlan f.data)) ∧
        (∀ f, s.shadowFault named = none → s.inconsistency named = some f →
          exec (.commit src tag mask) s₀ = .next (s.asked.replied src tag 0x12 .inconsistent f.data)) ∧
        (s.shadowFault named = none → s.inconsistency named = none →
          exec (.commit src tag mask) s₀ = .next { s.asked with
            store.commit := some ⟨src, tag, named, s.store.shadow⟩
            store.otherWrites := s.store.otherWrites ++
              ((List.finRange 4).filter fun b => named[b]).map .block })))) ∧
  (∀ (named : Vector Bool 4) (s : State),
    let site := if named[(3 : Fin 4)] = true then some s.store.shadow.site
      else if s.store.cond[(3 : Fin 4)] = .valid then some s.nv.blocks.site else none
    FirstOf (fun x => named[x.block] = true ∧ Shows s.store.shadow site x) (s.shadowFault named) ∧
    FirstOf (fun x => named[(3 : Fin 4)] = true ∧ named[x.block] = false ∧ s.store.cond[x.block] = .valid ∧
      (x.fault = .targetAbsent ∨ x.fault = .targetKind) ∧ Shows s.nv.blocks (some s.store.shadow.site) x)
      (s.inconsistency named)) ∧
  (∀ x : Found, x.data.length = 4 ∧ fieldAt x.data 0 1 = x.block.val ∧ fieldAt x.data 1 1 = x.kind.code ∧
    fieldAt x.data 2 1 = x.index % 256 ∧ fieldAt x.data 3 1 = x.fault.code)

/-- SET_PROTECTION queues one protection write, in the place of one that waits, and leaves the active protection;
RELOAD_PROTECTION takes the word, or is refused while a protection write waits or is in progress; a word never written
names no block, and one whose check fails protects every block. That a mask of 16 or
more is BAD_ARGUMENT is MODEL'S CHOICE (log 40). The command finds taken what follows the events before it (log 3). -/
def Obligations.ProtectionIsQueuedAndReloaded : Prop :=
  ∀ (src tag mask : Byte) (s₀ : State),
    let s := s₀.caughtUp
    s.OpenTo →
    (∀ set, readBlockSet mask = some set →
      (∀ before after old, s.store.otherWrites = before ++ .protection old :: after →
        before.any OtherWrite.isProtection = false →
        exec (.setProtection src tag mask) s₀ = .next { s.asked.replied src tag 0x13 .ok [] with
          store.otherWrites := before ++ .protection set :: after }) ∧
      (s.store.otherWrites.any OtherWrite.isProtection = false →
        exec (.setProtection src tag mask) s₀ = .next { s.asked.replied src tag 0x13 .ok [] with
          store.otherWrites := s.store.otherWrites ++ [.protection set] })) ∧
    (16 ≤ mask.toNat → exec (.setProtection src tag mask) s₀ =
      .next (s.asked.replied src tag 0x13 .badArgument [])) ∧
    (s.protectionBusy = true → exec (.reloadProtection src tag) s₀ =
      .next (s.asked.replied src tag 0x14 .busy [])) ∧
    (s.protectionBusy = false → exec (.reloadProtection src tag) s₀ =
      .next { s.asked.replied src tag 0x14 .ok [] with store.activeProtection := s.nv.protection.active }) ∧
    (s.nv.protection = .neverWritten → ∀ b : Fin 4, s.nv.protection.active[b] = false) ∧
    (s.nv.protection = .checkFails → ∀ b : Fin 4, s.nv.protection.active[b] = true) ∧
    (∀ set check, s.nv.protection = .names set check →
      (check = crc16 (blockMask set) → s.nv.protection.active = set) ∧
      (check ≠ crc16 (blockMask set) → ∀ b : Fin 4, s.nv.protection.active[b] = true))

/-- AUTHORIZE_RESTART is refused by the first of R76's checks that fails, and then changes no state. An accepted one clears
flags, request, peaks and TRIP_OUT, repairs the lowest damaged slot with a RECOVERED record, runs the restart plan and is
RESTARTING at the held level, or past it where the plan is complete at its start. A completion report in RESTARTING closes
the current record as RESTARTED or RESTARTED_PARTIAL and leaves no current record; the site is then held where a slot is
damaged, ARMED where none is and no level is requested, and else trips at once (R68, R79); a report of a HALT holds the
site at its level with everything else as it is (R80). Each transition raises its notice, and one that replaces another is
counted (R85, R176). MODEL'S READINGS (log 42): where the transition closed a record and left none, the notice shows the
closed one's cause and outcome, and an ARMED that trips at once raises its own notice before the trip's. The command finds
taken what follows the events before it (log 3). -/
def Obligations.AuthorizeRestartIsRefusedInOrderOrStartsTheRestart : Prop :=
  (∀ (src tag : Byte) (s₀ : State),
    let s := s₀.caughtUp
    s.OpenTo →
    (s.site.state ≠ .safeHold →
      exec (.authorizeRestart src tag) s₀ = .next (s.asked.replied src tag 0x20 .wrongState [])) ∧
    (s.site.state = .safeHold → s.trig.quietElapsed = false →
      exec (.authorizeRestart src tag) s₀ = .next (s.asked.replied src tag 0x20 .tooEarly [])) ∧
    (s.site.state = .safeHold → s.trig.quietElapsed = true → s.activeCondition = true →
      exec (.authorizeRestart src tag) s₀ = .next (s.asked.replied src tag 0x20 .sourceActive [])) ∧
    (s.CopyAgrees → s.RingSound → s.site.state = .safeHold → s.trig.quietElapsed = true → s.activeCondition = false →
    ∃ t, exec (.authorizeRestart src tag) s₀ = .next t ∧
      t.fixed = ({ s.asked.replied src tag 0x20 .ok [] with
        channels := s.channels.map fun c => { c with peakH := 0, peakU := 0 } } : State).fixed ∧
      (∀ i : Fin 24, t.trig.flags[i] = false) ∧ t.trig.requestLevel = 0 ∧ t.trig.cause = none ∧
      t.trig.tripOut = false ∧ t.site.restartIncomplete = false ∧ t.site.trip = s.site.trip ∧
      t.runner.run.plan = some .restart ∧
      (∀ i, lowestDamaged s.store.ring = some i → ∃ r, t.store.ring[i] = .record r ∧ r.closure = .recovered ∧
        r.trip = s.site.trip ∧ r.level = 2 ∧ r.outcome = .incomplete ∧ r.cause = none ∧ r.crc = crc16 r.fields) ∧
      (t.runner.run.status = .running →
        t.site.state = .restarting ∧ t.site.level = s.site.level ∧ t.site.hold = none ∧
          t.site.record = s.site.record ∧ t.Notified s 1 t.currentRecord) ∧
      (t.runner.run.status ≠ .running → t.runner.run.status = .complete ∧ t.site.record = none ∧
        (t.site.state = .armed ∨ t.site.state = .safeHold ∧ t.site.hold = some .recordDamaged) ∧
        t.Notified s 2 s.currentRecord))) ∧
  (∀ (failed : Nat) (s : State), s.site.state = .restarting →
    (let t := takeCompletion ⟨failed, true⟩ s
     t.fixed = s.fixed ∧ t.site = { s.site with state := .safeHold, hold := some .restartHalted } ∧
      t.store = s.store ∧ t.runner = s.runner ∧ t.trig = { s.trig with alertOut := t.trig.alertOut } ∧
      t.Notified s 1 s.currentRecord) ∧
    (∀ ring : Vector Slot 16, s.site.record = none ∧ ring = s.store.ring ∨
        (∃ (i : Fin 16) (r : TripRecord), s.site.record = some i ∧ s.store.ring[i] = .record r ∧
          let c : TripRecord := { r with
            closure := if failed = 0 then .restarted else .restartedPartial
            closed := s.mgmt.siteTime, seq := s.store.writeSeq + 1 }
          ring = s.store.ring.set i (.record { c with crc := crc16 c.fields })) →
      let t := takeCompletion ⟨failed, false⟩ s
      t.fixed = s.fixed ∧ t.trig.flags = s.trig.flags ∧ t.trig.tripOut = s.trig.tripOut ∧
      t.site.restartIncomplete = (s.site.restartIncomplete || decide (0 < failed)) ∧
      (s.anyDamaged = true → t.Notified s 1 s.currentRecord ∧ t.store.ring = ring ∧ t.runner = s.runner ∧
        t.site = { s.site with
          state := .safeHold, level := 2, hold := some .recordDamaged, record := none
          restartIncomplete := s.site.restartIncomplete || decide (0 < failed) }) ∧
      (s.anyDamaged = false → s.site.requestLevel = 0 →
        t.Notified s 1 s.currentRecord ∧ t.store.ring = ring ∧ t.runner = s.runner ∧
        t.site = { s.site with
          state := .armed, level := 0, hold := none, record := none
          restartIncomplete := s.site.restartIncomplete || decide (0 < failed) }) ∧
      (s.anyDamaged = false → 0 < s.site.requestLevel →
        t.site.trip = nextTrip s.site.trip ∧ t.site.level = s.site.requestLevel ∧
        t.site.record = some (openingSlot ring) ∧ OpensIn ring (openingSlot ring) ∧
        (∀ j : Fin 16, j ≠ openingSlot ring → t.store.ring[j] = ring[j]) ∧
        t.runner.run.plan = some (if s.site.requestLevel = 2 then .l2 else .l1) ∧
        (t.runner.run.status = .running → t.site.state = .shutting ∧ t.Notified s 2 t.currentRecord) ∧
        (t.runner.run.status ≠ .running → t.site.state = .safeHold ∧ t.Notified s 3 t.currentRecord))))

/-- ABORT_RESTART in RESTARTING abandons the run and holds the site at the current record's level, or 2; elsewhere it is
refused and changes nothing. Its notice shows the current record's cause and outcome (R85). The command finds taken what
follows the events before it (log 3). -/
def Obligations.AbortRestartHoldsTheSite : Prop :=
  ∀ (src tag : Byte) (s₀ : State),
    let s := s₀.caughtUp
    s.OpenTo →
    (s.site.state ≠ .restarting →
      exec (.abortRestart src tag) s₀ = .next (s.asked.replied src tag 0x21 .wrongState [])) ∧
    (s.site.state = .restarting → ∃ t, exec (.abortRestart src tag) s₀ = .next t ∧
      t.fixed = (s.asked.replied src tag 0x21 .ok []).fixed ∧
      t.site = { s.site with
        state := .safeHold, level := (s.currentRecord.map TripRecord.level).getD 2
        hold := some .restartAborted } ∧
      t.trig.tripOut = s.trig.tripOut ∧ t.trig.flags = s.trig.flags ∧ t.store = s.store ∧
      t.Notified s 1 s.currentRecord ∧
      (s.runner.run.status = .running → t.runner.run.status = .abandoned ∧ t.runner.outstanding = [] ∧
        ∀ i : Fin 64, t.runner.steps[i].state.terminal = true))

/-- FORCE_TRIP sets FORCED's level and flag and leaves every other flag; a level other than 1 and 2 is refused with
BAD_ARGUMENT. The request is then formed from the flags that are set and enabled: its level is the highest of their
levels, its cause the lowest index at that level (R47), and a change of either is handed to the site, whose trip follows
in the same event where the level rises (R73). The command finds taken what follows the events before it (log 3). -/
def Obligations.ForceTripLatchesForced : Prop :=
  (∀ (src tag level : Byte) (s₀ : State),
    let s := s₀.caughtUp
    s.OpenTo →
    (level.toNat ≠ 1 → level.toNat ≠ 2 →
      exec (.forceTrip src tag level) s₀ = .next (s.asked.replied src tag 0x22 .badArgument [])) ∧
    (level.toNat = 1 ∨ level.toNat = 2 →
      (∃ t, exec (.forceTrip src tag level) s₀ = .next t ∧
        t.fixed = ({ s.asked.replied src tag 0x22 .ok [] with trig.forcedLevel := level.toNat } : State).fixed ∧
        t.trig.forcedLevel = level.toNat ∧ t.trig.flags = s.trig.flags.set 0 true ∧
        t.trig.requestLevel = t.requestLevelNow ∧ t.trig.cause = t.causeNow ∧
        (s.trig.flags[(0 : Fin 24)] = false → t.trig.quiet = some (s.params.q * 1000) ∧ t.trig.quietElapsed = false) ∧
        (s.trig.flags[(0 : Fin 24)] = true → t.trig.quiet = s.trig.quiet) ∧
        (s.trig.requestLevel < 2 → t.trig.requestLevel = 2 → t.trig.tripOut = true)) ∧
      (s.trig.flags[(0 : Fin 24)] = false →
        let u : State := { s.asked with
          trig.forcedLevel := level.toNat, trig.flags := s.trig.flags.set 0 true
          trig.quiet := some (s.params.q * 1000), trig.quietElapsed := false }
        exec (.forceTrip src tag level) s₀ = .next ((formRequest u).replied src tag 0x22 .ok [])) ∧
      (s.trig.flags[(0 : Fin 24)] = true →
        let u : State := { s.asked with trig.forcedLevel := level.toNat }
        exec (.forceTrip src tag level) s₀ = .next ((formRequest u).replied src tag 0x22 .ok [])))) ∧
  (∀ u : State,
    let level := u.requestLevelNow
    let cause := u.causeNow
    (level = u.trig.requestLevel → cause = u.trig.cause → formRequest u = u) ∧
    (level ≠ u.trig.requestLevel ∨ cause ≠ u.trig.cause → formRequest u = takeRequest level cause { u with
      trig.requestLevel := level, trig.cause := cause
      trig.tripOut := u.trig.tripOut || (decide (u.trig.requestLevel < 2) && decide (level = 2)) }) ∧
    (∀ i : Fin 24,
      u.requesting i = (u.trig.flags[i] && u.tables.sources[i].enabled) ∧
      u.sourceLevel i = (if i = 0 then u.trig.forcedLevel else if i = 1 then 2 else u.tables.sources[i].level) ∧
      (u.requesting i = true → u.sourceLevel i ≤ level)) ∧
    (level = 0 ∨ ∃ i : Fin 24, u.requesting i = true ∧ u.sourceLevel i = level) ∧
    (level = 0 → cause = none) ∧
    (0 < level → ∃ i : Fin 24, cause = some i ∧ u.requesting i = true ∧ u.sourceLevel i = level ∧
      ∀ j : Fin 24, j < i → u.requesting j = true → u.sourceLevel j ≠ level)) ∧
  (∀ (level : Nat) (cause : Option (Fin 24)) (s : State),
    level ≤ s.site.requestLevel ∨ s.site.state = .unconfigured ∨
      (s.site.state = .shutting ∨ s.site.state = .safeHold) ∧ (s.site.level ≠ 1 ∨ level ≠ 2) →
    takeRequest level cause s = { s with site.requestLevel := level, site.cause := cause })

/-- CLEAR_TRIGGERS clears every flag and the request, starts no plan, and releases TRIP_OUT only in UNCONFIGURED with no
active condition. The command finds taken what follows the events before it (log 3). -/
def Obligations.ClearTriggersClearsEveryFlag : Prop :=
  ∀ (src tag : Byte) (s₀ : State),
    let s := s₀.caughtUp
    s.OpenTo →
    ∃ t, exec (.clearTriggers src tag) s₀ = .next t ∧
      t.fixed = (s.asked.replied src tag 0x23 .ok []).fixed ∧
      (∀ i : Fin 24, t.trig.flags[i] = false) ∧ t.trig.requestLevel = 0 ∧ t.trig.cause = none ∧
      t.trig.quiet = s.trig.quiet ∧ t.trig.quietElapsed = s.trig.quietElapsed ∧ t.trig.alertOut = s.trig.alertOut ∧
      t.site.state = s.site.state ∧ t.site.level = s.site.level ∧ t.site.record = s.site.record ∧
      t.runner = s.runner ∧ t.store = s.store ∧ t.router = s.router ∧
      t.trig.tripOut = (s.trig.tripOut &&
        !(s.site.state == .unconfigured && !s.activeCondition))

/-- ISOLATE_ZONE and RESTORE_ZONE outside SHUTTING and RESTARTING: flag, members, votes and condition as R41 and R42 say;
refused, with no change, inside them and for a zone outside 0..7. The command finds taken what follows the events before
it (log 3). -/
def Obligations.ZonesAreIsolatedAndRestored : Prop :=
  ∀ (src tag zone : Byte) (s₀ : State),
    let s := s₀.caughtUp
    s.OpenTo →
    (8 ≤ zone.toNat →
      exec (.isolateZone src tag zone) s₀ = .next (s.asked.replied src tag 0x24 .badArgument []) ∧
      exec (.restoreZone src tag zone) s₀ = .next (s.asked.replied src tag 0x25 .badArgument [])) ∧
    (zone.toNat < 8 → s.site.state = .shutting ∨ s.site.state = .restarting →
      exec (.isolateZone src tag zone) s₀ = .next (s.asked.replied src tag 0x24 .wrongState []) ∧
      exec (.restoreZone src tag zone) s₀ = .next (s.asked.replied src tag 0x25 .wrongState [])) ∧
    (∀ z : Fin 8, zone.toNat = z.val → s.site.state ≠ .shutting → s.site.state ≠ .restarting →
      (∃ t, exec (.isolateZone src tag zone) s₀ = .next t ∧
        t.fixedButVoter = ({ s.asked.replied src tag 0x24 .ok [] with channels := t.channels } : State).fixedButVoter ∧
        (∀ y : Fin 8, y ≠ z → t.voter.zones[y] = s.voter.zones[y]) ∧
        t.voter.zones[z].isolated = true ∧ t.trig.flags[srcOnset z] = false ∧ t.trig.flags[srcStrong z] = false ∧
        (s.voter.zones[z].isolated = true → t.voter = s.voter ∧ t.channels = s.channels) ∧
        (s.voter.zones[z].isolated = false →
          t.voter.zones[z] = ⟨true, false, false, .blind⟩ ∧
          ∀ c : Fin 32, if c ∈ s.tables.zones[z].members
            then t.channels[c] = { s.channels[c].cleared with state := .off } ∨ s.tables.zoneOf c ≠ some z
            else t.channels[c] = s.channels[c])) ∧
      (s.voter.zones[z].isolated = true → ∃ t, exec (.restoreZone src tag zone) s₀ = .next t ∧
        t.fixedButVoter = ({ s.asked.replied src tag 0x25 .ok [] with channels := t.channels } : State).fixedButVoter ∧
        (∀ y : Fin 8, y ≠ z → t.voter.zones[y] = s.voter.zones[y]) ∧
        t.voter.zones[z] = ⟨false, false, false, .blind⟩ ∧ t.trig.flags = s.trig.flags ∧
        ∀ c : Fin 32, if c ∈ s.tables.zones[z].members
          then t.channels[c] = { s.channels[c].cleared with
            state := if s.tables.channels[c].enabled then .priming else .off } ∨ s.tables.zoneOf c ≠ some z
          else t.channels[c] = s.channels[c]) ∧
      (s.voter.zones[z].isolated = false →
        exec (.restoreZone src tag zone) s₀ = .next (s.asked.replied src tag 0x25 .ok [])))

/-- SET_TIME, CLEAR_COUNTERS and CLEAR_CAUSE: what they set, and nothing else. The command finds taken what follows the
events before it (log 3). -/
def Obligations.TimeCountersAndCausesAreSet : Prop :=
  ∀ (src tag : Byte) (seconds : Word32) (s₀ : State),
    let s := s₀.caughtUp
    s.OpenTo →
    exec (.setTime src tag seconds) s₀ = .next { s.asked.replied src tag 0x30 .ok [] with
      mgmt.siteTime := seconds, mgmt.siteMs := 0, mgmt.secondDue := false } ∧
    exec (.clearCause src tag) s₀ = .next { s.asked.replied src tag 0x32 .ok [] with
      mgmt.causes := ⟨false, false, false⟩ } ∧
    exec (.clearCounters src tag) s₀ = .next { s.asked.replied src tag 0x31 .ok [] with
      link.sCount := {}, link.pCount := {}, router.count := {}
      channels := s.channels.map fun c => { c with missed := 0, duplicates := 0, resyncs := 0, staleEntries := 0 }
      trig.warningsDropped := 0, trig.warningsIgnored := 0
      runner.commandsSent := 0, runner.reissues := 0, runner.strays := 0
      store.suspensions := 0, mgmt.handled := 0, mgmt.discarded := 0 }

/-- RESET_PORT_S, RESET_PORT_P and RESET_PART: answered, and their reset made pending; a P-port reset is refused with
WRONG_STATE in SHUTTING and RESTARTING. MODEL'S CHOICE (log 37): a RESET_PORT for the S-port makes its reset pending again
where one is already pending or due, and a RESET_PART leaves an S-port reset that is due as it is, to end with the part
reset. The command finds taken what follows the events before it (log 3). -/
def Obligations.ResetRequestsBecomePending : Prop :=
  ∀ (src tag : Byte) (s₀ : State),
    let s := s₀.caughtUp
    s.OpenTo →
    exec (.resetPortS src tag) s₀ = .next { s.asked with
      link.sReset := .pending
      mgmt.responses := s.mgmt.responses ++ [⟨src, tag, 0x33, .ok, [], 0, .portReset⟩] } ∧
    (s.site.state = .shutting ∨ s.site.state = .restarting →
      exec (.resetPortP src tag) s₀ = .next (s.asked.replied src tag 0x33 .wrongState [])) ∧
    (s.site.state ≠ .shutting → s.site.state ≠ .restarting →
      exec (.resetPortP src tag) s₀ = .next { s.asked.replied src tag 0x33 .ok [] with link.pReset := true }) ∧
    exec (.resetPart src tag) s₀ = .next { s.asked with
      mgmt.cmdReset := .pending
      mgmt.responses := s.mgmt.responses ++ [⟨src, tag, 0x34, .ok, [], 0, .partReset⟩] }

/-! ### Transmitting -/

/-- P_TRANSMISSION_END counts the frame and frees the transmitter; for an injected frame the entry of its tag that waits
for it goes to WAITING_REPLY with its step's deadline, and commands sent advances. The command finds taken what follows
the events before it (log 3). -/
def Obligations.PTransmissionEndStartsTheDeadline : Prop :=
  ∀ (t : PSending) (s₀ : State),
    let s := s₀.caughtUp
    s.isRunning = true → s.link.pTx = some t →
    let u : State := { s with link.pTx := none, link.pCount.sent := bump s.link.pCount.sent }
    (t.source = .trip ∨ t.source = .forwarded → exec .pTransmissionEnd s₀ = .next u) ∧
    (∀ tag, t.source = .injected tag → exec .pTransmissionEnd s₀ = .next { u with
      runner.commandsSent := bump s.runner.commandsSent
      runner.outstanding := s.runner.outstanding.map fun e =>
        if e.tag = tag ∧ e.phase = .waitingTx then
          { e with phase := .waitingReply, deadline := some (s.stepCfg e.step).deadline } else e })

/-- S_TRANSMISSION_END counts the frame; the end of the last RESET_PORT response for the S-port makes its reset due unless a
commanded reset is pending, and the end of the RESET_PART response makes the commanded reset due. The command finds taken
what follows the events before it (log 3). -/
def Obligations.STransmissionEndMakesResetsDue : Prop :=
  ∀ (t : SSending) (s₀ : State),
    let s := s₀.caughtUp
    s.isRunning = true → s.link.sTx = some t →
    let u : State := { s with link.sTx := none, link.sCount.sent := bump s.link.sCount.sent }
    (t.mark = .plain → exec .sTransmissionEnd s₀ = .next u) ∧
    (t.mark = .portReset → s.link.sReset = .pending → s.mgmt.cmdReset = .none → s.awaitsPortReset = false →
      exec .sTransmissionEnd s₀ = .next { u with link.sReset := .due }) ∧
    (t.mark = .portReset → s.mgmt.cmdReset ≠ .none ∨ s.awaitsPortReset = true →
      exec .sTransmissionEnd s₀ = .next u) ∧
    (t.mark = .partReset → s.mgmt.cmdReset = .pending →
      exec .sTransmissionEnd s₀ = .next { u with mgmt.cmdReset := .due })

/-- P_ARBITER_CHOICE with an idle transmitter, what comes before it taken: the TRIP broadcast, then the head of the
injection queue, then the head of the S→P queue, then nothing. The choice on an idle port is made at the end of the event:
of a frame that joins the S→P queue of a part that has nothing to send, the next event, whichever it is, finds the
transmission begun (R178's example). What a transmitter sends for a frame is its characters with the check over destination
to payload, high byte first, and the marker on the first character alone (R153, R154, R161); a character is a low start bit,
eight data bits, least significant first, the marker bit and a high stop bit, a line with nothing to send rests high, and a
receiver reads a character's bits as the character, a low stop bit as a framing error (R152). The TRIP broadcast's level,
where there is no current record, is the model's reading (log 25); that everything that follows an event is taken before any
other command is log 3's. -/
def Obligations.PArbiterServesTripThenCommandsThenForwarded : Prop :=
  (∀ s₀ : State,
    let s := s₀.caughtUpTo 5
    s.isRunning = true → s.link.pTx = none →
    (s.site.tripPending = true → exec .pArbiterChoice s₀ = .next { s with
      site.tripPending := false
      link.pTx := some ⟨Frame.line ⟨127, s.ownAddress, kindTrip, 0, u8 s.tripLevel ++ u16 s.site.trip⟩, .trip⟩ }) ∧
    (s.site.tripPending = false → ∀ i rest, s.runner.injection = i :: rest →
      exec .pArbiterChoice s₀ = .next { s with
        runner.injection := rest
        link.pTx := some ⟨Frame.line ⟨BitVec.ofNat 8 i.target, s.ownAddress, kindCommand, i.tag,
          u8 i.action.code ++ yesNo i.feed⟩, .injected i.tag⟩ }) ∧
    (s.site.tripPending = false → s.runner.injection = [] → ∀ f rest, s.router.sToP = f :: rest →
      exec .pArbiterChoice s₀ = .next { s with router.sToP := rest, link.pTx := some ⟨f.line, .forwarded⟩ }) ∧
    (s.site.tripPending = false → s.runner.injection = [] → s.router.sToP = [] →
      exec .pArbiterChoice s₀ = .next s)) ∧
  (∀ f : Frame,
    let body := [f.dst, f.src, f.kind, f.tag, BitVec.ofNat 8 f.payload.length] ++ f.payload
    f.line.map LineChar.value = body ++ [(crc16 body >>> 8).setWidth 8, (crc16 body).setWidth 8] ∧
    f.line.map LineChar.marker = true :: .replicate (f.payload.length + 6) false) ∧
  (∀ (c : Instr) (f : Frame) (s : State), followsEvent c = false → s.isRunning = true → s.nothingFollows = true →
    s.link.pTx = none →
    exec c { s with router.sToP := [f] } = exec c { s with link.pTx := some ⟨f.line, .forwarded⟩ }) ∧
  -- the bits of a character and of a line
  (∀ (c : LineChar) (stop : Bool),
    let data := [c.value.getLsbD 0, c.value.getLsbD 1, c.value.getLsbD 2, c.value.getLsbD 3, c.value.getLsbD 4,
      c.value.getLsbD 5, c.value.getLsbD 6, c.value.getLsbD 7]
    c.bits = [false] ++ data ++ [c.marker, true] ∧
    readChar ([false] ++ data ++ [c.marker, stop]) = some (c.value, c.marker, !stop)) ∧
  (∀ s : State,
    (s.link.pTx = none → s.txBits .p = [true]) ∧ (s.link.sTx = none → s.txBits .s = [true]) ∧
    (∀ x, s.link.pTx = some x → s.txBits .p = x.line.flatMap LineChar.bits) ∧
    (∀ x, s.link.sTx = some x → s.txBits .s = x.line.flatMap LineChar.bits))

/-- S_ARBITER_CHOICE with an idle transmitter, what comes before it taken (a reset that is due, a held response that has a
place): the next part of the response at the head of its queue, which leaves the queue with its last part; else, where no
reset is pending, the notice, then the head of the P→S queue. The choice on an idle port is made in its turn: of a frame that
joins the P→S queue of a part that has nothing to send, the next event, whichever it is, finds the transmission begun
(R179). That everything that follows an event is taken before any other command is log 3's. -/
def Obligations.SArbiterServesResponsesThenNoticeThenForwarded : Prop :=
  (∀ s₀ : State,
    let s := s₀.caughtUpTo 6
    s.isRunning = true → s.link.sTx = none →
    (∀ r rest, s.mgmt.responses = r :: rest →
      let f : Frame := ⟨r.dst, s.ownAddress, kindResponse, r.tag,
        [r.code] ++ u8 r.status.code ++ u8 r.sent ++ u8 r.parts ++ (r.data.drop (44 * r.sent)).take 44⟩
      (r.parts ≤ r.sent + 1 → exec .sArbiterChoice s₀ = .next { s with
        mgmt.responses := rest, link.sTx := some ⟨f.line, r.mark⟩ }) ∧
      (r.sent + 1 < r.parts → exec .sArbiterChoice s₀ = .next { s with
        mgmt.responses := { r with sent := r.sent + 1 } :: rest, link.sTx := some ⟨f.line, .plain⟩ })) ∧
    (s.mgmt.responses = [] → s.link.sReset ≠ .none ∨ s.mgmt.cmdReset ≠ .none →
      exec .sArbiterChoice s₀ = .next s) ∧
    (s.mgmt.responses = [] → s.link.sReset = .none → s.mgmt.cmdReset = .none →
      (∀ f, s.router.notice = some f → exec .sArbiterChoice s₀ = .next { s with
        router.notice := none, link.sTx := some ⟨f.line, .plain⟩ }) ∧
      (s.router.notice = none → ∀ f rest, s.router.pToS = f :: rest →
        exec .sArbiterChoice s₀ = .next { s with router.pToS := rest, link.sTx := some ⟨f.line, .plain⟩ }) ∧
      (s.router.notice = none → s.router.pToS = [] → exec .sArbiterChoice s₀ = .next s))) ∧
  (∀ (c : Instr) (f : Frame) (s : State), followsEvent c = false → s.isRunning = true → s.nothingFollows = true →
    s.link.sTx = none → s.link.sReset = .none → s.mgmt.cmdReset = .none →
    exec c { s with router.pToS := [f] } = exec c { s with link.sTx := some ⟨f.line, .plain⟩ })

/-- The two port resets as they take effect, and the joining of a held response: what each changes, and nothing else. An
S-port reset has no effect of its own while a commanded reset is pending, and ends with it (R164, R189). MODEL'S CHOICE
(log 3), for these and every other row that stands for what follows an event at once: any other command finds all of it
taken, once and completely, in one order, and an empty queue takes it step by step to the same state. -/
def Obligations.PortResetsAndHeldResponsesTakeEffect : Prop :=
  (∀ s₀ : State,
    let s := s₀.caughtUpTo 2
    s.isRunning = true →
    (s.link.sReset = .due → s.mgmt.cmdReset = .none → exec .sPortResetEffect s₀ = .next { s with
      link.sRx := {}, link.sCount := {}, link.sReset := .none, router.pToS := [], router.notice := none
      mgmt.responses := [], mgmt.held := [] }) ∧
    (s.mgmt.cmdReset ≠ .none → exec .sPortResetEffect s₀ = .next s)) ∧
  (∀ s₀ : State,
    let s := s₀.caughtUpTo 3
    s.isRunning = true → s.link.pReset = true → s.link.pTx = none → exec .pPortResetEffect s₀ = .next { s with
      link.pRx := {}, link.pCount := {}, link.pReset := false, router.sToP := [] }) ∧
  (∀ s₀ : State,
    let s := s₀.caughtUpTo 4
    s.isRunning = true → ∀ r rest, s.mgmt.held = r :: rest → s.mgmt.responses.length < 4 →
      exec .heldResponseJoin s₀ = .next { s with
        mgmt.held := rest, mgmt.responses := s.mgmt.responses ++ [r] }) ∧
  (∀ s : State,
    s.caughtUp.pending = s.pending ∧
    (s.isRunning = false ∨ s.nothingFollows = true → s.caughtUp = s) ∧
    (s.caughtUp.isRunning = true → s.caughtUp.nothingFollows = true) ∧
    (∀ c : Instr, followsEvent c = false → exec c s = exec c s.caughtUp) ∧
    (s.pending = [] → ∃ n, steps n s = .next s.caughtUp))

/-! ### Timers and inputs -/

/-- STALE_TIMER_EXPIRY: the channel is STALE, unseeded, its timer stopped, the entry counted, its other fields kept; no
other channel changes. The change, like every change that the detector hands over, sets its member's image and stamps by
R33's table, has the zone evaluated, latches the flags of the votes that rise (R39, R46), and reloads the quiet timer at
an entry to ONSET or STRONG (R62); a change of a channel of no zone reaches no member and no zone. The command finds taken
what follows the events before it (log 3). -/
def Obligations.StaleExpiryMakesTheChannelStale : Prop :=
  (∀ (i : Fin 32) (s₀ : State),
    let s := s₀.caughtUp
    s.isRunning = true → s.channels[i].seeded = true →
    s.channels[i].staleTimer = some 0 →
    ∃ t, exec (.staleTimerExpiry i) s₀ = .next t ∧
      t.fixedButVoter = ({ s with
        channels := s.channels.set i { s.channels[i] with
          state := .stale, seeded := false, below := 0, staleTimer := none
          staleEntries := bump s.channels[i].staleEntries } } : State).fixedButVoter ∧
      (∀ z : Fin 8, s.tables.zoneOf i ≠ some z → t.voter.zones[z] = s.voter.zones[z]) ∧
      ∀ z : Fin 8, s.tables.zoneOf i = some z →
        t.voter.members = s.voter.members.set i ⟨.stale, false, none, none⟩ ∧
          t.voter.zones[z] = t.zoneEvaluated z) ∧
  (∀ (m : Member) (c : Change) (now : Time) (w : Nat),
    let stamp := some (now + BitVec.ofNat 32 w)
    let image : Member := { m with state := c.state, seeded := c.seeded }
    (c.state = .onset → m.take c now w = { image with onsetUntil := none }) ∧
    (c.state = .strong ∨ c.state = .stale ∨ c.state = .off →
      m.take c now w = { image with onsetUntil := none, strongUntil := none }) ∧
    (c.state = .quiet ∨ c.state = .priming →
      (m.state = .onset → m.take c now w = { image with onsetUntil := stamp }) ∧
      (m.state = .strong → m.take c now w = { image with onsetUntil := stamp, strongUntil := stamp }) ∧
      (m.state ≠ .onset → m.state ≠ .strong → m.take c now w = image))) ∧
  (∀ (c : Change) (s : State),
    let quiet := if c.state = .onset ∨ c.state = .strong then some (s.params.q * 1000) else s.trig.quiet
    (s.tables.zoneOf c.channel = none → ∃ alert, handChange c s = { s with
      trig.quiet := quiet, trig.alertOut := alert
      trig.quietElapsed := s.trig.quietElapsed && !(c.state == .onset || c.state == .strong) }) ∧
    (∀ z : Fin 8, s.tables.zoneOf c.channel = some z →
      let member := s.voter.members[c.channel].take c s.now s.tables.zones[z].w
      let u : State := { s with voter.members := s.voter.members.set c.channel member }
      let new := u.zoneEvaluated z
      let t := handChange c s
      t.fixed = ({ u with voter.zones := s.voter.zones.set z new } : State).fixed ∧
      (∀ i : Fin 24, t.trig.flags[i] = (s.trig.flags[i] ||
        (decide (i = srcOnset z) && new.onsetVote && !s.voter.zones[z].onsetVote) ||
        (decide (i = srcStrong z) && new.strongVote && !s.voter.zones[z].strongVote))) ∧
      (t.trig.flags = s.trig.flags → t.trig.quiet = quiet) ∧
      (t.trig.flags ≠ s.trig.flags → t.trig.quiet = some (s.params.q * 1000) ∧ t.trig.quietElapsed = false)))

/-- ONSET_UNTIL_EXPIRY and STRONG_UNTIL_EXPIRY: the stamp becomes none, the member's zone is evaluated from the images and
stamps as they then stand, and no other member or zone changes. An evaluation counts the active and the capable members,
forms the effective thresholds and sets the two votes and the condition by them (R35 to R38). The command finds taken what
follows the events before it (log 3). -/
def Obligations.StampExpiryEvaluatesTheZone : Prop :=
  (∀ (c : Fin 32) (z : Fin 8) (at' : Time) (s₀ : State),
    let s := s₀.caughtUp
    s.isRunning = true → s.tables.zoneOf c = some z →
    reached s.now at' = true →
    (s.voter.members[c].onsetUntil = some at' →
      let u : State := { s with
        voter.members := s.voter.members.set c { s.voter.members[c] with onsetUntil := none } }
      ∃ t, exec (.onsetUntilExpiry c) s₀ = .next t ∧
        t.fixed = ({ u with voter.zones := s.voter.zones.set z (u.zoneEvaluated z) } : State).fixed) ∧
    (s.voter.members[c].strongUntil = some at' →
      let u : State := { s with
        voter.members := s.voter.members.set c { s.voter.members[c] with strongUntil := none } }
      ∃ t, exec (.strongUntilExpiry c) s₀ = .next t ∧
        t.fixed = ({ u with voter.zones := s.voter.zones.set z (u.zoneEvaluated z) } : State).fixed)) ∧
  (∀ (s : State) (z : Fin 8),
    let cfg := s.tables.zones[z]
    let members := cfg.members.map fun c => s.voter.members[c]
    let onsetActive := members.countP fun m => decide (m.state = .onset ∨ m.state = .strong ∨ m.onsetUntil ≠ none)
    let strongActive := members.countP fun m => decide (m.state = .strong ∨ m.strongUntil ≠ none)
    let capableOn := members.countP fun m => decide (m.state = .quiet ∨ m.state = .onset ∨ m.state = .strong)
    let capableStrong := members.countP fun m =>
      decide (m.state = .quiet ∨ m.state = .onset ∨ m.state = .strong ∨ m.state = .priming ∧ m.seeded = true)
    let threshold := fun k capable : Nat => if cfg.degrade = .lower ∧ 1 ≤ capable then min k capable else k
    let e := s.zoneEvaluated z
    e.isolated = s.voter.zones[z].isolated ∧
    (e.onsetVote = true ↔ threshold cfg.kOn capableOn ≤ onsetActive ∧ 1 ≤ capableOn ∧
      (cfg.degrade = .hold → cfg.kOn ≤ capableOn) ∧ e.isolated = false ∧ cfg.members ≠ []) ∧
    (e.strongVote = true ↔ threshold cfg.kStrong capableStrong ≤ strongActive ∧ 1 ≤ capableStrong ∧
      (cfg.degrade = .hold → cfg.kStrong ≤ capableStrong) ∧ e.isolated = false ∧ cfg.members ≠ []) ∧
    e.condition = if capableOn = 0 then .blind else if cfg.kOn ≤ capableOn then .normal else .degraded)

/-- TRIP_IN_DEBOUNCED_CHANGE: the debounced level changes and its count is 0; a change to active latches the contact's flag,
where it was clear the quiet timer is reloaded and the request formed, and with it the site's trip in the same event; a
change to inactive leaves every flag and the request. The command finds taken what follows the events before it (log 3). -/
def Obligations.TripInputChangeLatchesItsContact : Prop :=
  ∀ (i : Fin 4) (s₀ : State),
    let s := s₀.caughtUp
    s.isRunning = true → s.trig.inputs[i.castSucc].due = true →
    (∃ t, exec (.tripInDebouncedChange i) s₀ = .next t ∧
      t.fixed = ({ s with
        trig.inputs := s.trig.inputs.set i.castSucc ⟨!s.trig.inputs[i.castSucc].active, 0, false⟩ } : State).fixed ∧
      (s.trig.inputs[i.castSucc].active = false → t.trig.flags = s.trig.flags.set (srcContact i) true) ∧
      (s.trig.inputs[i.castSucc].active = true → t.trig.flags = s.trig.flags ∧
        t.trig.requestLevel = s.trig.requestLevel ∧ t.site = s.site)) ∧
    (let u : State := { s with
      trig.inputs := s.trig.inputs.set i.castSucc ⟨!s.trig.inputs[i.castSucc].active, 0, false⟩ }
     (s.trig.inputs[i.castSucc].active = true ∨ s.trig.flags[srcContact i] = true →
      exec (.tripInDebouncedChange i) s₀ = .next u) ∧
     (s.trig.inputs[i.castSucc].active = false → s.trig.flags[srcContact i] = false →
      exec (.tripInDebouncedChange i) s₀ = .next (formRequest { u with
        trig.flags := s.trig.flags.set (srcContact i) true
        trig.quiet := some (s.params.q * 1000), trig.quietElapsed := false })))

/-- UTILITY_OK_DEBOUNCED_CHANGE and FEED_DWELL_EXPIRY: the feed dwell starts at the change to active, feed_stable falls with
the change to inactive, and rises when the dwell has run, at once for a dwell of 0. A rise is handed to the executor: with
a run on, every step in WAITING_FEED becomes ALREADY where its target reports the awaited state and QUEUED elsewhere, and
the run settles (R102). The command finds taken what follows the events before it (log 3). -/
def Obligations.FeedBecomesStableAfterItsDwell : Prop :=
  (∀ s₀ : State,
    let s := s₀.caughtUp
    s.isRunning = true →
    (s.trig.inputs[(4 : Fin 5)].due = true →
      ∃ t, exec .utilityOkDebouncedChange s₀ = .next t ∧
        t.fixed = ({ s with
          trig.inputs := s.trig.inputs.set 4 ⟨!s.trig.inputs[(4 : Fin 5)].active, 0, false⟩
          trig.feedStable := t.trig.feedStable, trig.feedStart := t.trig.feedStart } : State).fixed ∧
        (s.trig.inputs[(4 : Fin 5)].active = true → t.trig.feedStable = false ∧ t.trig.feedStart = none) ∧
        (s.trig.inputs[(4 : Fin 5)].active = false → 0 < s.params.feedDwell →
          t.trig.feedStart = some s.now ∧ t.trig.feedStable = s.trig.feedStable) ∧
        (s.trig.inputs[(4 : Fin 5)].active = false → s.params.feedDwell = 0 →
          t.trig.feedStart = none ∧ t.trig.feedStable = true)) ∧
    (∀ started, s.trig.feedStart = some started → s.trig.inputs[(4 : Fin 5)].active = true →
      s.params.feedDwell * 1000 ≤ (s.now - started).toNat →
      (∃ t, exec .feedDwellExpiry s₀ = .next t ∧
        t.fixed = ({ s with trig.feedStable := true, trig.feedStart := none } : State).fixed) ∧
      exec .feedDwellExpiry s₀ =
        .next (runEvent takeFeedRise { s with trig.feedStable := true, trig.feedStart := none }))) ∧
  (∀ s : State,
    (s.runner.run.status ≠ .running → takeFeedRise s = (s, .nothing)) ∧
    (s.runner.run.status = .running →
      let arrived := fun i : Fin 64 => decide
        ((s.nodeRt (s.stepCfg i).address).reported = (s.stepCfg i).action.awaited)
      takeFeedRise s = settle
        ((List.finRange 64).filter fun i => decide (s.runner.steps[i].state = .waitingFeed) && arrived i)
        { s with runner.steps := .ofFn fun i =>
          if s.runner.steps[i].state = .waitingFeed then
            ⟨if arrived i then .already else .queued, s.now, none, none⟩
          else s.runner.steps[i] }))

/-- WARNING_EXPIRY: the record is removed, the others stay, and the REMOTE conditions are those of the records left. The
command finds taken what follows the events before it (log 3). -/
def Obligations.WarningExpiryFormsTheRemoteConditions : Prop :=
  ∀ (i : Fin 4) (w : Warning) (s₀ : State),
    let s := s₀.caughtUp
    s.isRunning = true → s.trig.warnings[i] = some w →
    reached s.now w.expiry = true →
    let u : State := { s with trig.warnings := s.trig.warnings.set i none }
    ∃ t, exec (.warningExpiry i) s₀ = .next t ∧ t.fixed = ({ u with
      trig.remoteSevere := u.anyWarning s.params.classL2
      trig.remoteModerate := u.anyWarning s.params.classL1 } : State).fixed

/-- QUIET_TIMER_EXPIRY, SITE_TIME_SECOND and RAW_INPUT_LEVEL_CHANGE: what they set, and nothing else. MODEL'S CHOICES: the
second is a step of its own, held due by a flag (log 15), and a pin's new level is no sample: the next millisecond's sample
finds it (log 16). The command finds taken what follows the events before it (log 3). -/
def Obligations.QuietTimeSecondsAndPins : Prop :=
  ∀ s₀ : State,
    let s := s₀.caughtUp
    (s.isRunning = true → s.trig.quiet = some 0 →
      exec .quietTimerExpiry s₀ = .next { s with trig.quiet := none, trig.quietElapsed := true }) ∧
    (s.phase = .running ∨ s.phase = .loading → s.mgmt.secondDue = true →
      exec .siteTimeSecond s₀ = .next { s with
        mgmt.siteTime := s.mgmt.siteTime + 1, mgmt.siteMs := 0, mgmt.secondDue := false }) ∧
    (∀ (i : Fin 5) (high : Bool), ∃ pins,
      exec (.rawInputLevelChange i high) s₀ = .next { s with pins := pins } ∧
      ∀ j : Fin 5, pins.level j = if j = i then high else s.pins.level j)

/-! ### The plan executor -/

/-- DWELL_EXPIRY: the step's checks of R100 in their order, with the feed check of R101, and then the run's settling. The
command finds taken what follows the events before it (log 3). -/
def Obligations.DwellExpiryRunsTheChecksInOrder : Prop :=
  ∀ (i : Fin 64) (s₀ : State),
    let s := s₀.caughtUp
    s.isRunning = true → s.runner.run.status = .running →
    s.runner.steps[i].state = .waitingDwell → s.runner.steps[i].timer = some 0 →
    let c := s.stepCfg i
    exec (.dwellExpiry i) s₀ = .next (runEvent (fun u => settle (if (s.checkResult c).terminal then [i] else [])
      { u with runner.steps := u.runner.steps.set i ⟨s.checkResult c, u.now, none, none⟩ }) s) ∧
    (runEvent (dwellExpired i) s).fixed = s.fixed ∧
    (runChecks i s).runner.steps[i] = ⟨s.checkResult c, s.now, none, none⟩ ∧
    (c.action = .mark → s.checkResult c = .done) ∧
    (s.needsFeed c = true ↔ c.action = .transfer ∨ c.action = .energize ∧ (s.classOf c.address).fallback = false) ∧
    (c.action ≠ .mark →
      ((s.nodeCfg c.address).present = false ∨ s.nodeIsolated c.address = true → s.checkResult c = .skipped) ∧
      ((s.nodeCfg c.address).present = true → s.nodeIsolated c.address = false →
        ((s.nodeRt c.address).reported = c.action.awaited → s.checkResult c = .already) ∧
        ((s.nodeRt c.address).reported ≠ c.action.awaited →
          s.checkResult c = if s.needsFeed c = true ∧ s.trig.feedStable = false then .waitingFeed else .queued)))

/-- REPLY_DEADLINE_EXPIRY: with a re-issue left the entry keeps its place with a new tag and one fewer left, its new frame
joins the injection queue and re-issues advances; with none left the step FAILS with NO_REPLY and the run settles. A new
tag is the first from the tag counter on that no entry holds (R114). The command finds taken what follows the events
before it (log 3). -/
def Obligations.DeadlineExpiryReissuesOrFails : Prop :=
  (∀ (i : Fin 64) (e : Entry) (s₀ : State),
    let s := s₀.caughtUp
    s.isRunning = true → s.runner.run.status = .running →
    s.entryOf i = some e → e.phase = .waitingReply → e.deadline = some 0 →
    (0 < e.left → ∃ u, retryOrFail e .noReply s = (u, []) ∧
      u.runner.reissues = bump s.runner.reissues ∧ u.runner.tagCounter = s.nextTag + 1 ∧
      u.runner.outstanding = s.runner.outstanding.map (fun x => if x.step = e.step then
        { x with tag := s.nextTag, phase := .waitingTx, deadline := none, left := x.left - 1 } else x) ∧
      u.runner.injection = s.runner.injection ++
        [⟨s.nextTag, e.target, e.action, s.feedIndication e.action e.target⟩] ∧
      exec (.replyDeadlineExpiry i) s₀ = .next (runEvent (fun _ => settle [] u) s)) ∧
    (e.left = 0 → ∃ u, retryOrFail e .noReply s = (u, [i]) ∧
      u.runner.steps[i].state = .failed ∧ u.runner.steps[i].reason = some .noReply ∧
      (∀ x ∈ u.runner.outstanding, x.step ≠ i) ∧ u.runner.run.failed = s.runner.run.failed + 1 ∧
      exec (.replyDeadlineExpiry i) s₀ = .next (runEvent (fun _ => settle [i] u) s))) ∧
  (∀ (action : Action) (target : Nat) (s : State), s.feedIndication action target = true ↔
    (action = .energize ∨ action = .resume) ∧ (s.classOf target).fallback = true ∧ s.trig.feedStable = false) ∧
  (∀ s : State, s.runner.outstanding.length ≤ 255 → ∃ k : Nat, k ≤ 255 ∧
    s.nextTag = s.runner.tagCounter + BitVec.ofNat 8 k ∧ (∀ e ∈ s.runner.outstanding, e.tag ≠ s.nextTag) ∧
    ∀ j < k, ∃ e ∈ s.runner.outstanding, e.tag = s.runner.tagCounter + BitVec.ofNat 8 j)

/-- READY_TIMEOUT_EXPIRY fails the step with NOT_READY and SETTLE_EXPIRY makes it DONE; either way the run then settles.
The command finds taken what follows the events before it (log 3). -/
def Obligations.ReadyAndSettleTimersEndTheStep : Prop :=
  ∀ (i : Fin 64) (s₀ : State),
    let s := s₀.caughtUp
    s.isRunning = true → s.runner.run.status = .running →
    s.runner.steps[i].timer = some 0 →
    (s.runner.steps[i].state = .awaitingState →
      exec (.readyTimeoutExpiry i) s₀ = .next (runEvent (fun u => settle [i] (failStep i .notReady u)) s) ∧
      (failStep i .notReady s).runner.steps[i] = ⟨.failed, s.now, none, some .notReady⟩ ∧
      (failStep i .notReady s).runner.run.failed = s.runner.run.failed + 1) ∧
    (s.runner.steps[i].state = .settling →
      exec (.settleExpiry i) s₀ = .next (runEvent (fun u => settle [i] (moveStep i .done none u)) s) ∧
      (moveStep i .done none s).runner.steps[i] = ⟨.done, s.now, none, none⟩)

/-- A settling leaves every step that has reached a terminal state exactly as it is, and without a run on it changes
nothing. Of a run it follows the consequences in ascending id (R97, R98), grants free slots (R103) and completes the run
whose steps are all terminal (R109); a failure with HALT instead ends the run after the consequences of the failures
before it, without a grant (R107). It hands over the report and a rise of ESCALATION (R108), and where both come, either
is taken first, a free value (log 4). The clause of the rise taken first rests on log 38 (DEDUCED from R71): the report
is then taken only where the site is still SHUTTING(1), and is dropped otherwise. That the rise follows the report at
once also where an activation is pending rests on log 44 (DESIGN CHOICE): R75 and R84 have the deferred activation
applied at the entry to SAFE_HOLD, and the model takes the rise of the same event before it. Slots go in ascending id
among the steps QUEUED in one event, and a step QUEUED in an earlier event goes before a later one of higher id; between
an earlier one of higher id and a later one of lower id the rules disagree, and a free value decides (log 41). -/
def Obligations.TerminalStepsStayThroughSettling : Prop :=
  (∀ (just : List (Fin 64)) (s : State) (i : Fin 64), s.runner.steps[i].state.terminal = true →
    (settle just s).1.runner.steps[i] = s.runner.steps[i]) ∧
  (∀ (just : List (Fin 64)) (s : State),
    let t := (settle just s).1
    let handed := (settle just s).2
    let failedBy := fun (p : Policy) (i : Fin 64) => s.runner.steps[i].state = .failed ∧ (s.stepCfg i).policy = p
    (s.runner.run.status ≠ .running → settle just s = (s, .nothing)) ∧
    (s.runner.run.status = .running →
      (∀ h ∈ just, failedBy .halt h → (∀ j ∈ just, j < h → ¬failedBy .halt j) →
        handed.report = some ⟨s.runner.run.failed, true⟩ ∧
        (handed.escalation = true ↔ s.runner.run.plan = some .l1 ∧ ∃ j ∈ just, j < h ∧ failedBy .escalate j) ∧
        t = { s with
          runner.run.status := .halted, runner.run.finish := some s.now
          runner.steps := (follow (just.filter (· < h)) s).runner.steps.map fun r =>
            if r.state.terminal then r else ⟨.notRun, s.now, none, none⟩
          runner.queued := [], runner.outstanding := []
          runner.injection := s.runner.injection.filter fun f =>
            !(s.runner.outstanding.map Entry.tag).contains f.tag }) ∧
      ((∀ h ∈ just, ¬failedBy .halt h) →
        let u := grantSlots (follow just s)
        (handed.escalation = true ↔ s.runner.run.plan = some .l1 ∧ ∃ j ∈ just, failedBy .escalate j) ∧
        ((∀ i : Fin 64, i.val < s.runner.run.stepCount → u.runner.steps[i].state.terminal = true) →
          t = { u with runner.run.status := .complete, runner.run.finish := some s.now } ∧
            handed.report = some ⟨s.runner.run.failed, false⟩) ∧
        (∀ i : Fin 64, i.val < s.runner.run.stepCount → u.runner.steps[i].state.terminal = false →
          t = u ∧ handed.report = none)))) ∧
  -- the consequences of the steps of `just`
  (∀ (just : List (Fin 64)) (s : State),
    let u := follow just s
    u = { s with runner.steps := u.runner.steps } ∧
    ∀ i : Fin 64,
      let c := s.stepCfg i
      let now := fun p : Fin 64 => if p < i then u.runner.steps[p].state else s.runner.steps[p].state
      let ended := fun p : Fin 64 => p ∈ just ∨
        p < i ∧ s.runner.steps[p].state = .blocked ∧ u.runner.steps[p].state.terminal = true
      let unsatisfiable := fun p : Fin 64 => now p = .notRun ∨ now p = .failed ∧ (s.stepCfg p).policy = .prune
      let satisfied := fun p : Fin 64 => now p = .done ∨ now p = .already ∨ now p = .skipped ∨
        now p = .failed ∧ ((s.stepCfg p).policy = .proceed ∨ (s.stepCfg p).policy = .escalate)
      (s.runner.steps[i].state ≠ .blocked → u.runner.steps[i] = s.runner.steps[i]) ∧
      (s.runner.steps[i].state = .blocked →
        (c.prereqs ≠ [] → (∀ p ∈ c.prereqs, ¬ended p) → u.runner.steps[i] = s.runner.steps[i]) ∧
        ((c.prereqs = [] ∨ ∃ p ∈ c.prereqs, ended p) →
          ((∃ p ∈ c.prereqs, unsatisfiable p) → u.runner.steps[i] = ⟨.notRun, s.now, none, none⟩) ∧
          ((∀ p ∈ c.prereqs, ¬unsatisfiable p) → (∃ p ∈ c.prereqs, ¬satisfied p) →
            u.runner.steps[i] = s.runner.steps[i]) ∧
          ((∀ p ∈ c.prereqs, satisfied p) → u.runner.steps[i] =
            if c.dwell = 0 then ⟨s.checkResult c, s.now, none, none⟩
            else ⟨.waitingDwell, s.now, some c.dwell, none⟩)))) ∧
  -- the slot grant
  (∀ s : State,
    let t := grantSlots s
    ∃ granted : List (Fin 64), granted.Nodup ∧ (∀ i ∈ granted, s.runner.steps[i].state = .queued) ∧
      { t with freeIndex := s.freeIndex, runner.queued := s.runner.queued } = granted.foldl (fun v i =>
        let c := v.stepCfg i
        { v with
          runner.tagCounter := v.nextTag + 1
          runner.injection := v.runner.injection ++
            [⟨v.nextTag, c.address, c.action, v.feedIndication c.action c.address⟩]
          runner.outstanding := v.runner.outstanding ++
            [⟨i, c.address, c.action, v.nextTag, .waitingTx, none, c.reissues⟩]
          runner.steps := v.runner.steps.set i ⟨.issued, v.now, none, none⟩ }) s ∧
      (∀ i : Fin 64, i ∈ t.runner.queued ↔ s.runner.steps[i].state = .queued ∧ i ∉ granted) ∧
      (granted ≠ [] → s.runner.outstanding.length + granted.length ≤ s.runner.run.slotLimit) ∧
      (∀ i : Fin 64, s.runner.steps[i].state = .queued → i ∉ granted →
        s.runner.run.slotLimit ≤ s.runner.outstanding.length + granted.length) ∧
      (∀ i j : Fin 64, s.runner.steps[i].state = .queued → s.runner.steps[j].state = .queued → i < j → j ∈ granted →
        (i ∉ s.runner.queued → j ∉ s.runner.queued → granted.idxOf i < granted.idxOf j) ∧
        (∀ earlier later, s.runner.queued = earlier ++ i :: later → j ∉ earlier →
          granted.idxOf i < granted.idxOf j))) ∧
  -- the hand-overs
  (∀ (f : State → State × HandOver) (s : State), runEvent f s = takeHandOver (f s).2 (f s).1) ∧
  (∀ (r : Report) (s : State),
    let u : State := { s with freeIndex := s.freeIndex + 1 }
    let risen := latch srcEscalation u
    takeHandOver ⟨false, none⟩ s = s ∧ takeHandOver ⟨false, some r⟩ s = takeCompletion r s ∧
    takeHandOver ⟨true, none⟩ s = latch srcEscalation s ∧
    (takeHandOver ⟨true, some r⟩ s = latch srcEscalation (takeCompletion r u) ∨
      takeHandOver ⟨true, some r⟩ s =
        if risen.site.state = .shutting ∧ risen.site.level = 1 then takeCompletion r risen else risen)) ∧
  (∀ (i : Fin 24) (s : State),
    (s.trig.flags[i] = true → latch i s = s) ∧
    (s.trig.flags[i] = false → latch i s = formRequest { s with
      trig.flags := s.trig.flags.set i true
      trig.quiet := some (s.params.q * 1000), trig.quietElapsed := false }))

/-- A reply matched to an entry, by the node state it carries and then its result: FAULT fails the step; the awaited state
ends the command, DONE or, with a settle dwell after RUN, SETTLING; otherwise DONE waits for the state, BUSY is tried again
while a re-issue is left, any other result fails it (R119). A reply to the part is matched by source, tag and phase or is a
stray, and is then, from a present node, a state report for every other step; a state report acts on the ISSUED,
AWAITING_STATE and SETTLING steps that target the node, and removes the entries of those it changes (R118, R122 to R124). -/
def Obligations.MatchedReplyIsJudgedByStateThenResult : Prop :=
  (∀ (e : Entry) (st : NodeState) (result : Byte) (s : State),
    let awaited := (s.stepCfg e.step).action.awaited
    let u := (matchedReply e st result s).1
    (st = .fault → u.runner.steps[e.step] = ⟨.failed, s.now, none, some .fault⟩) ∧
    (st ≠ .fault → st = awaited →
      u.runner.steps[e.step].state = .done ∨ awaited = .run ∧ u.runner.steps[e.step].state = .settling) ∧
    (st ≠ .fault → st ≠ awaited → result.toNat = 0 → u.runner.steps[e.step].state = .awaitingState) ∧
    (st ≠ .fault → st ≠ awaited → result.toNat = 2 → 0 < e.left → u.runner.steps = s.runner.steps) ∧
    (st ≠ .fault → st ≠ awaited → result.toNat = 2 → e.left = 0 →
      u.runner.steps[e.step] = ⟨.failed, s.now, none, some .busy⟩) ∧
    (st ≠ .fault → st ≠ awaited → result.toNat ≠ 0 → result.toNat ≠ 2 →
      u.runner.steps[e.step] = ⟨.failed, s.now, none, some .refused⟩)) ∧
  (∀ (e : Entry) (st : NodeState) (result : Byte) (s : State),
    let c := s.stepCfg e.step
    let k := s.classOf c.address
    let m := matchedReply e st result s
    let leaves := fun r : Step =>
      m.1.runner.steps = s.runner.steps.set e.step r ∧
      m.1.runner.outstanding = (s.runner.outstanding.filter fun x => decide (x.step ≠ e.step)) ∧
      (∀ f ∈ s.runner.injection, (f ∈ m.1.runner.injection ↔ ∀ x, s.entryOf e.step = some x → f.tag ≠ x.tag)) ∧
      m.1.runner.run.failed = (if r.state = .failed then s.runner.run.failed + 1 else s.runner.run.failed) ∧
      m.2 = if r.state.terminal then [e.step] else []
    (st = .fault → leaves ⟨.failed, s.now, none, some .fault⟩) ∧
    (st ≠ .fault → st = c.action.awaited → leaves
      (if st = .run ∧ 0 < k.settleDwell then ⟨.settling, s.now, some k.settleDwell, none⟩
        else ⟨.done, s.now, none, none⟩)) ∧
    (st ≠ .fault → st ≠ c.action.awaited →
      (result.toNat = 0 → leaves ⟨.awaitingState, s.now,
        some (if c.action.awaited = .run then k.readyTimeout else k.parkTimeout), none⟩) ∧
      (result.toNat = 2 → 0 < e.left → m.2 = [] ∧ m.1.runner.reissues = bump s.runner.reissues ∧
        m.1.runner.outstanding = s.runner.outstanding.map (fun x => if x.step = e.step then
          { x with tag := s.nextTag, phase := .waitingTx, deadline := none, left := x.left - 1 } else x) ∧
        m.1.runner.injection = s.runner.injection ++
          [⟨s.nextTag, e.target, e.action, s.feedIndication e.action e.target⟩]) ∧
      (result.toNat = 2 → e.left = 0 → leaves ⟨.failed, s.now, none, some .busy⟩) ∧
      (result.toNat ≠ 0 → result.toNat ≠ 2 → leaves ⟨.failed, s.now, none, some .refused⟩))) ∧
  (∀ (node : Nat) (st : NodeState) (but : Option (Fin 64)) (just : List (Fin 64)) (s : State),
    let r := stateReport node st but s just
    let u := r.1
    (s.runner.run.status ≠ .running → r = (s, just)) ∧
    (s.runner.run.status = .running →
      (∀ i : Fin 64,
        let c := s.stepCfg i
        let x := s.runner.steps[i]
        let dwell := (s.classOf c.address).settleDwell
        u.runner.steps[i] =
          if but = some i ∨ c.target ≠ some node then x
          else if x.state = .issued ∨ x.state = .awaitingState then
            if st = .fault then ⟨.failed, s.now, none, some .fault⟩
            else if st = c.action.awaited then
              if st = .run ∧ 0 < dwell then ⟨.settling, s.now, some dwell, none⟩ else ⟨.done, s.now, none, none⟩
            else x
          else if x.state = .settling then
            if st = .run then x
            else ⟨.failed, s.now, none, some (if st = .fault then .fault else .settleLost)⟩
          else x) ∧
      u.runner.outstanding = (s.runner.outstanding.filter fun e =>
        u.runner.steps[e.step].state == s.runner.steps[e.step].state) ∧
      (∀ i : Fin 64, i ∈ r.2 ↔
        i ∈ just ∨ u.runner.steps[i].state ≠ s.runner.steps[i].state ∧ u.runner.steps[i].state.terminal = true) ∧
      u.runner.run.failed = s.runner.run.failed + (List.finRange 64).countP (fun i =>
        u.runner.steps[i].state != s.runner.steps[i].state && u.runner.steps[i].state == .failed))) ∧
  (∀ (src tag result : Byte) (st : NodeState) (s : State),
    let present := (s.nodeCfg src.toNat).present
    let report := fun (but : Option (Fin 64)) (v : State × List (Fin 64)) =>
      if present then stateReport src.toNat st but v.1 v.2 else v
    let settled := fun v : State × List (Fin 64) => settle v.2 v.1
    (∀ e, s.matchOf src tag = some e →
      e ∈ s.runner.outstanding ∧ e.target = src.toNat ∧ e.tag = tag ∧ e.phase = .waitingReply ∧
      takeReply src tag result st s = settled (report (some e.step) (matchedReply e st result s))) ∧
    (s.matchOf src tag = none →
      (∀ e ∈ s.runner.outstanding, e.target = src.toNat → e.tag = tag → e.phase ≠ .waitingReply) ∧
      takeReply src tag result st s =
        settled (report none ({ s with runner.strays := bump s.runner.strays }, []))) ∧
    takeReport src st s = settled (stateReport src.toNat st none s []))

/-! ### Site state -/

/-- A rise of the request level in ARMED opens a trip record for the next trip number in the ring's opening slot, sets
TRIP-pending for level 2, and leaves the site SHUTTING at that level where its plan is running, or held
SHUTDOWN_COMPLETE where the plan is complete at its start. A completion report in SHUTTING holds the site at its level,
SHUTDOWN_COMPLETE where no step failed and nothing halted and SHUTDOWN_INCOMPLETE otherwise, and the record's outcome says
the same (R75). The opening slot is the lowest damaged one, else that after the slot with the highest write sequence by
R147's ranking, else slot 0 (R148); each transition raises its notice (R85, R176). -/
def Obligations.RiseInArmedTripsTheSite : Prop :=
  (∀ (level : Nat) (cause : Option (Fin 24)) (s : State), s.site.state = .armed → s.site.requestLevel < level →
    level = 1 ∨ level = 2 →
    let t := takeRequest level cause s
    t.fixed = s.fixed ∧ t.trig.flags = s.trig.flags ∧
    t.site.trip = nextTrip s.site.trip ∧ t.site.record = some (openingSlot s.store.ring) ∧ t.site.level = level ∧
    OpensIn s.store.ring (openingSlot s.store.ring) ∧
    (t.runner.run.status = .running →
      t.site.state = .shutting ∧ t.site.hold = none ∧ t.Notified s 1 t.currentRecord) ∧
    (t.runner.run.status ≠ .running → t.runner.run.status = .complete ∧ t.site.state = .safeHold ∧
      t.site.hold = some .shutdownComplete ∧ t.Notified s 2 t.currentRecord) ∧
    t.site.tripPending = (s.site.tripPending || level == 2) ∧
    t.runner.run.plan = some (if level = 2 then .l2 else .l1) ∧
    (∀ j : Fin 16, j ≠ openingSlot s.store.ring → t.store.ring[j] = s.store.ring[j]) ∧
    ∃ r, t.store.ring[openingSlot s.store.ring] = .record r ∧ r.trip = nextTrip s.site.trip ∧ r.cause = cause ∧
      r.level = level ∧ r.escalated = false ∧ r.opened = s.mgmt.siteTime ∧ r.peakH = s.largestPeak ∧
      r.closure = .isOpen ∧ r.closed = 0 ∧ r.crc = crc16 r.fields ∧
      r.outcome = if t.runner.run.status = .running then .running else .complete) ∧
  (∀ (report : Report) (i : Fin 16) (r : TripRecord) (s : State), s.site.state = .shutting →
    s.site.record = some i → s.store.ring[i] = .record r →
    let complete := report.failed = 0 ∧ report.halted = false
    let c : TripRecord := { r with
      outcome := if complete then .complete else .incomplete, seq := s.store.writeSeq + 1 }
    let t := takeCompletion report s
    t.fixed = s.fixed ∧ t.runner = s.runner ∧ t.trig = { s.trig with alertOut := t.trig.alertOut } ∧
    t.site = { s.site with
      state := .safeHold, hold := some (if complete then .shutdownComplete else .shutdownIncomplete) } ∧
    t.store.ring = s.store.ring.set i (.record { c with crc := crc16 c.fields }) ∧
    t.store.writeSeq = s.store.writeSeq + 1 ∧ t.Notified s 1 t.currentRecord)

/-- A rise to 2 in SHUTTING(1) or in a level-1 hold goes on under the same trip: the record becomes level 2 and escalated and
keeps its cause, TRIP-pending is set, and the L2 plan runs; the site is SHUTTING where it is running, and held
SHUTDOWN_COMPLETE where it is complete at its start. A rise in RESTARTING closes the current record, if there is one, as
SUPERSEDED, opens the next trip's record, and runs that level's plan under it (R81). The opening slot is that of R148, by
R147's ranking; each transition raises its notice (R85, R176), that of a rise in RESTARTING with the new record's cause and
outcome, a reading of R85 (log 42). -/
def Obligations.RiseToTwoEscalatesUnderTheSameTrip : Prop :=
  (∀ (cause : Option (Fin 24)) (i : Fin 16) (r : TripRecord) (s : State),
    s.site.state = .shutting ∨ s.site.state = .safeHold → s.site.level = 1 → s.site.requestLevel < 2 →
    s.site.record = some i → s.store.ring[i] = .record r →
    let t := takeRequest 2 cause s
    t.fixed = s.fixed ∧ t.trig.flags = s.trig.flags ∧
    t.site.trip = s.site.trip ∧ t.site.record = some i ∧ t.site.level = 2 ∧ t.site.tripPending = true ∧
    (t.runner.run.status = .running →
      t.site.state = .shutting ∧ t.site.hold = none ∧ t.Notified s 1 t.currentRecord) ∧
    (t.runner.run.status ≠ .running → t.runner.run.status = .complete ∧ t.site.state = .safeHold ∧
      t.site.hold = some .shutdownComplete ∧ t.Notified s 2 t.currentRecord) ∧
    t.runner.run.plan = some .l2 ∧
    ∃ r', t.store.ring[i] = .record r' ∧ r'.trip = r.trip ∧ r'.level = 2 ∧ r'.escalated = true ∧
      r'.cause = r.cause ∧ r'.closure = r.closure ∧ r'.opened = r.opened ∧ r'.peakH = r.peakH ∧
      r'.closed = r.closed ∧ r'.crc = crc16 r'.fields ∧
      r'.outcome = if t.runner.run.status = .running then .running else .complete) ∧
  (∀ (level : Nat) (cause : Option (Fin 24)) (ring : Vector Slot 16) (s : State),
    s.site.state = .restarting → s.site.requestLevel < level → level = 1 ∨ level = 2 →
    (s.site.record = none ∧ ring = s.store.ring) ∨
      (∃ i r, s.site.record = some i ∧ s.store.ring[i] = .record r ∧
        let c : TripRecord := { r with
          closure := .superseded, closed := s.mgmt.siteTime, seq := s.store.writeSeq + 1 }
        ring = s.store.ring.set i (.record { c with crc := crc16 c.fields })) →
    let t := takeRequest level cause s
    t.fixed = s.fixed ∧ t.trig.flags = s.trig.flags ∧ t.trig.tripOut = s.trig.tripOut ∧
    t.site.trip = nextTrip s.site.trip ∧ t.site.record = some (openingSlot ring) ∧ t.site.level = level ∧
    t.site.tripPending = (s.site.tripPending || level == 2) ∧
    OpensIn ring (openingSlot ring) ∧
    (t.runner.run.status = .running →
      t.site.state = .shutting ∧ t.site.hold = none ∧ t.Notified s 1 t.currentRecord) ∧
    (t.runner.run.status ≠ .running → t.runner.run.status = .complete ∧ t.site.state = .safeHold ∧
      t.site.hold = some .shutdownComplete ∧ t.Notified s 2 t.currentRecord) ∧
    t.runner.run.plan = some (if level = 2 then .l2 else .l1) ∧
    (∀ j : Fin 16, j ≠ openingSlot ring → t.store.ring[j] = ring[j]) ∧
    ∃ r', t.store.ring[openingSlot ring] = .record r' ∧ r'.trip = nextTrip s.site.trip ∧ r'.cause = cause ∧
      r'.level = level ∧ r'.escalated = false ∧ r'.opened = s.mgmt.siteTime ∧ r'.closure = .isOpen)

/-! ### Non-volatile writes and activation -/

/-- NV_WRITE_TAKE_UP, RECORD_WRITE_END and PROTECTION_WRITE_END: a record write first, else the first of the other items; a
finished write is in non-volatile memory, a protection word with its check; and nothing else changes. A record write
requested while no block is being programmed takes the place of one that waits for its slot and joins the queue's end
(R145); one requested while a block is being programmed suspends it at once: the record is taken up, the block goes back to
the head of its queue, the suspension is counted. WHEN a record write is taken up is log 27's reading of R144 (DEDUCED): one
requested with nothing in progress only joins the queue and is taken up by a later NV_WRITE_TAKE_UP, so that a second
request of the same event can merge with it; one that suspends a block is taken up in the requesting event. The command
finds taken what follows the events before it (log 3). -/
def Obligations.WriteQueueTakesRecordWritesFirst : Prop :=
  (∀ s : State,
    (∀ (w : RecordWrite) (b : Fin 4) (left : Nat), s.store.writing = some ⟨.other (.block b), left⟩ →
      s.store.recordWrites = [] → requestWrite w s = { s with
        store.writing := some ⟨.record w, 5⟩, store.otherWrites := .block b :: s.store.otherWrites
        store.suspensions := bump s.store.suspensions }) ∧
    (∀ w : RecordWrite, (∀ b left, s.store.writing ≠ some ⟨.other (.block b), left⟩) →
      requestWrite w s = { s with
        store.recordWrites := (s.store.recordWrites.filter fun x => decide (x.slot ≠ w.slot)) ++ [w] })) ∧
  (∀ s₀ : State,
    let s := s₀.caughtUpTo 8
    s.isRunning = true →
    (s.store.writing = none → ∀ w rest, s.store.recordWrites = w :: rest →
      exec .nvWriteTakeUp s₀ = .next { s with
        store.recordWrites := rest, store.writing := some ⟨.record w, 5⟩ }) ∧
    (s.store.writing = none → s.store.recordWrites = [] → ∀ b rest, s.store.otherWrites = .block b :: rest →
      exec .nvWriteTakeUp s₀ = .next { s with
        store.otherWrites := rest, store.writing := some ⟨.other (.block b), 25⟩
        store.cond := s.store.cond.set b .programming }) ∧
    (s.store.writing = none → s.store.recordWrites = [] → ∀ set rest,
      s.store.otherWrites = .protection set :: rest →
      exec .nvWriteTakeUp s₀ = .next { s with
        store.otherWrites := rest, store.writing := some ⟨.other (.protection set), 5⟩ })) ∧
  (∀ s₀ : State,
    let s := s₀.caughtUp
    s.isRunning = true →
    (∀ w, s.store.writing = some ⟨.record w, 0⟩ → exec .recordWriteEnd s₀ = .next { s with
      store.writing := none, nv.ring := s.nv.ring.set w.slot (.record w.image) }) ∧
    (∀ set, s.store.writing = some ⟨.other (.protection set), 0⟩ → exec .protectionWriteEnd s₀ = .next { s with
      store.writing := none, nv.protection := .names set (crc16 (blockMask set)) }))

/-- BLOCK_PROGRAM_END: the block holds the commit's content and, where its read-back passes, the CRC of that content,
and is VALID or INVALID by its read-back. A failure ends the commit with VERIFY_FAILED and drops its later blocks; the
last block's success ends it with COMMITTED, and its blocks, block 3 among them, are activated at once in a state at
rest and await activation otherwise (R141, R142). Either response joins the response queue where it has a place, and is
held otherwise (R184); where one is held already, behind it, which no run of the part brings about (log 26). The command
finds taken what follows the events before it (log 3). -/
def Obligations.BlockProgramEndEndsTheCommit : Prop :=
  ∀ (b : Fin 4) (c : CommitRun) (s₀ : State),
    let s := s₀.caughtUp
    s.isRunning = true → s.store.writing = some ⟨.other (.block b), 0⟩ →
    s.store.commit = some c →
    let blocks := copyBlock b c.content s.nv.blocks
    let failed : NonVolatile := { s.nv with blocks := blocks, checks := s.nv.checks.set b none }
    let passed : NonVolatile := { s.nv with
      blocks := blocks, checks := s.nv.checks.set b (some (crc16 (blocks.content b))) }
    let place := s.mgmt.responses.length < 4
    let response := fun (st : Status) (data : List Byte) => (⟨c.src, c.tag, 0x12, st, data, 0, .plain⟩ : Response)
    let ended := fun (r : Response) (cond : BlockCond) (nv : NonVolatile) => ({ s with
      store.writing := none, store.cond := s.store.cond.set b cond, store.commit := none, nv := nv
      mgmt.responses := if place then s.mgmt.responses ++ [r] else s.mgmt.responses
      mgmt.held := if place then s.mgmt.held else s.mgmt.held ++ [r] } : State)
    (exec (.blockProgramEnd false) s₀ = .next { ended (response .verifyFailed (u8 b.val)) .invalid failed with
      store.otherWrites := s.store.otherWrites.filter fun w => !w.isBlock }) ∧
    failed.passes b = false ∧ passed.passes b = true ∧
    (s.store.otherWrites.any OtherWrite.isBlock = true → exec (.blockProgramEnd true) s₀ = .next { s with
      store.writing := none, store.cond := s.store.cond.set b .valid, nv := passed }) ∧
    (s.store.otherWrites.any OtherWrite.isBlock = false →
      let u : State := { ended (response .committed []) .valid passed with
        store.awaiting := .ofFn fun k => s.store.awaiting[k] || c.named[k] }
      (s.atRest = false → exec (.blockProgramEnd true) s₀ = .next { u with site.activationPending := true }) ∧
      (s.atRest = true → exec (.blockProgramEnd true) s₀ = .next (activate u) ∧
        (activate u).mgmt.responses = u.mgmt.responses ∧ (activate u).mgmt.held = u.mgmt.held ∧
        (activate u).store.commit = none ∧ (activate u).store.cond[b] = .valid ∧
        (activate u).site.activationPending = false ∧ (∀ k : Fin 4, (activate u).store.awaiting[k] = false) ∧
        (∀ p : PlanId, c.named[p.block] = true → (activate u).store.work.plan p = blocks.plan p) ∧
        (c.named[(3 : Fin 4)] = true → (activate u).store.work.site = blocks.site)))

/-- DEFERRED_ACTIVATION applies the activation that is pending, and BLOCK_PROGRAM_END at rest its own: the working copies of
the blocks that awaited it are reloaded from non-volatile memory and valid, the others stay, none awaits any more, the flag
is clear, and a run that has ended on a changed plan says so. With block 3 every channel restarts, the members' images
follow, zones keep their isolation and are BLIND without votes, nodes present before and after keep their runtime part, the
REMOTE conditions and the feed dwell are judged by the new parameters, and the request is formed afresh (R28, R43, R50, R56,
R167). In UNCONFIGURED with four valid blocks the site enters its first state by the ring (R67). The command finds taken
what follows the events before it (log 3). -/
def Obligations.DeferredActivationReloadsTheBlocks : Prop :=
  (∀ s₀ : State,
    let s := s₀.caughtUpTo 1
    s.isRunning = true → s.site.activationPending = true →
    s.site.state = .armed ∨ s.site.state = .safeHold → exec .deferredActivation s₀ = .next (activate s)) ∧
  (∀ s : State,
    let t := activate s
    let tables := s.nv.blocks.site
    t.site.activationPending = false ∧
    (∀ b : Fin 4, t.store.awaiting[b] = false ∧
      t.store.workValid[b] = (s.store.workValid[b] || s.store.awaiting[b])) ∧
    (∀ p : PlanId, t.store.work.plan p =
      if s.store.awaiting[p.block] then s.nv.blocks.plan p else s.store.work.plan p) ∧
    t.store.work.site = (if s.store.awaiting[(3 : Fin 4)] then tables else s.store.work.site) ∧
    t.store.shadow = s.store.shadow ∧ t.store.shadowValid = s.store.shadowValid ∧ t.nv = s.nv ∧
    (s.store.awaiting[(3 : Fin 4)] = false → t.fixed = ({ s with
      store.work := t.store.work, store.workValid := t.store.workValid
      store.awaiting := .replicate 4 false } : State).fixed) ∧
    (s.store.awaiting[(3 : Fin 4)] = false → s.site.state ≠ .unconfigured → t = { s with
      store.work := t.store.work, store.workValid := t.store.workValid, store.awaiting := .replicate 4 false
      site.activationPending := false
      runner.run.cfgChanged := s.runner.run.cfgChanged || (s.runner.run.status != .running &&
        (s.runner.run.plan.map fun p => s.store.awaiting[p.block]).getD false) }) ∧
    (s.store.awaiting[(3 : Fin 4)] = true →
      (∀ i : Fin 32,
        let c := s.channels[i]
        let isolated := ((tables.zoneOf i).map fun z => s.voter.zones[z].isolated).getD false
        t.channels[i] = {
          state := if tables.channels[i].enabled = true ∧ isolated = false then .priming else .off
          missed := c.missed, duplicates := c.duplicates, resyncs := c.resyncs, staleEntries := c.staleEntries } ∧
        t.voter.members[i] = ⟨t.channels[i].state, false, none, none⟩) ∧
      (∀ z : Fin 8, t.voter.zones[z] = ⟨s.voter.zones[z].isolated, false, false, .blind⟩) ∧
      (∀ a : Fin 128, t.router.nodes[a] =
        if (s.nodeCfg a.val).present = true ∧ (tables.node a.val).present = true then s.router.nodes[a]
        else ⟨.unknown, 65535⟩) ∧
      t.trig.remoteSevere = s.anyWarning tables.site.classL2 ∧
      t.trig.remoteModerate = s.anyWarning tables.site.classL1 ∧
      (∀ i : Fin 24, t.trig.flags[i] = (s.trig.flags[i] ||
        (decide (i = srcSevere) && t.trig.remoteSevere && !s.trig.remoteSevere) ||
        (decide (i = srcModerate) && t.trig.remoteModerate && !s.trig.remoteModerate))) ∧
      t.trig.requestLevel = t.requestLevelNow ∧ t.trig.cause = t.causeNow ∧
      t.trig.forcedLevel = s.trig.forcedLevel ∧ t.trig.inputs = s.trig.inputs ∧ t.trig.warnings = s.trig.warnings ∧
      (let ran := fun x : Time => s.trig.inputs[(4 : Fin 5)].active = true ∧
          tables.site.feedDwell * 1000 ≤ (s.now - x).toNat
       ((∃ x, s.trig.feedStart = some x ∧ ran x) → t.trig.feedStable = true ∧ t.trig.feedStart = none) ∧
       ((∀ x, s.trig.feedStart = some x → ¬ran x) →
        t.trig.feedStable = s.trig.feedStable ∧ t.trig.feedStart = s.trig.feedStart))) ∧
    (s.site.state = .unconfigured →
      ((∃ b : Fin 4, t.store.workValid[b] = false) → t.site.state = .unconfigured) ∧
      ((∀ b : Fin 4, t.store.workValid[b] = true) →
        (s.anyDamaged = true →
          t.site.state = .safeHold ∧ t.site.level = 2 ∧ t.site.hold = some .recordDamaged) ∧
        (s.anyDamaged = false → ∀ i, openSlot s.store.ring = some i → ∃ r, s.store.ring[i] = .record r ∧
          t.site.state = .safeHold ∧ t.site.level = r.level ∧ t.site.hold = some .powerOnOpen) ∧
        (s.anyDamaged = false → openSlot s.store.ring = none →
          (t.site.requestLevel = 0 → t.site.state = .armed ∧ t.site.level = 0 ∧ t.site.record = none) ∧
          (0 < t.site.requestLevel →
            t.site.level = t.site.requestLevel ∧ t.site.trip = nextTrip s.site.trip)))))

/-! ### Invariants that every step keeps -/

/-- Every step keeps the forwarding queues and the response queue to their places, every counter that can be read to 65535
(R186), and the live warning records to one for an event (R57). It keeps the executor's lists sound: an entry for an ISSUED
step alone, no two for one step or with one tag, no more than the slot limit, and every frame of the injection queue that of
an entry that waits for its transmission (R113, R114, R116). The last holds where the tag of a frame on the line has not
meanwhile been taken again by a waiting frame, for which the tag counter must come round once during one transmission. -/
def Obligations.EveryStepKeepsTheQueuesBounded : Prop :=
  ∀ s t : State, step s = .next t →
    (s.QueuesBounded → t.QueuesBounded) ∧ (s.CountersBounded → t.CountersBounded) ∧
    (s.WarningsDistinct → t.WarningsDistinct) ∧ (s.RunnerSound → s.LineTagUnique → t.RunnerSound)

/-- Every step keeps the ring sound, and in a sound ring at most one slot is OPEN, and in ARMED no slot is OPEN or
damaged; and every record of the ring image, of the write queue and of the non-volatile ring with the CRC of its other
fields (R147). -/
def Obligations.EveryStepKeepsTheRingSound : Prop :=
  ∀ s t : State, step s = .next t →
    (s.RingSound → t.RingSound ∧
      (∀ i j : Fin 16, t.store.ring[i].isOpen = true → t.store.ring[j].isOpen = true → i = j) ∧
      (t.site.state = .armed → ∀ i : Fin 16, t.store.ring[i].isOpen = false ∧ t.store.ring[i] ≠ .damaged)) ∧
    (s.RecordsChecked → t.RecordsChecked)

/-- Every step keeps the site state controller's copy of the request as the trigger unit last handed it over, keeps
level and hold reason fitting the site state, keeps ALERT_OUT asserted exactly where one of R63's items holds, and keeps
TRIP_OUT asserted at request level 2 and throughout SHUTTING(2) (R64). -/
def Obligations.EveryStepKeepsCopyAndSiteFitting : Prop :=
  ∀ s t : State, step s = .next t →
    (s.CopyAgrees → t.CopyAgrees) ∧ (s.SiteFits → t.SiteFits) ∧ (s.AlertFormed → t.AlertFormed) ∧
    (s.TripOutHeld → t.TripOutHeld)

/-- The invariants hold in the state after reset. -/
def Obligations.InvariantsHoldAtReset : Prop :=
  State.reset.QueuesBounded ∧ State.reset.RingSound ∧ State.reset.CopyAgrees ∧ State.reset.SiteFits ∧
  State.reset.CountersBounded ∧ State.reset.WarningsDistinct ∧ State.reset.RunnerSound ∧ State.reset.LineTagUnique ∧
  State.reset.RecordsChecked ∧ State.reset.AlertFormed ∧ State.reset.TripOutHeld ∧
  ∀ i : Fin 32, State.reset.channels[i].InRange
end

