-- ==== Sys2Proof/Laws/FollowUps.lean ====
section
/-! SUPPORT. When taking the follow-ups changes nothing, and the bits of a character read back. -/

namespace Sys2Proof.Machine

/-- A command that is an event of its own finds every follow-up taken. -/
theorem event_eq (f : State → State) (s : State) : event f s = .next (f s.caughtUp) := rfl

/-- All the follow-ups, one after another. -/
theorem caughtUp_eq (s : State) :
    s.caughtUp = takeUpFollows (heldFollow (sChooses (pChooses (heldFollow (pResetFollows (sResetFollows
      (activationFollows (commandedResetFollows s)))))))) := by
  simp only [State.caughtUp, State.caughtUpTo, followUpSteps, List.take, List.foldl]

theorem foldl_of_fixed {fs : List (State → State)} {s : State} (h : ∀ f ∈ fs, f s = s) :
    fs.foldl (fun s f => f s) s = s := by
  induction fs with
  | nil => rfl
  | cons f fs ih =>
    rw [List.foldl_cons, h f List.mem_cons_self]
    exact ih fun g hg => h g (List.mem_cons_of_mem _ hg)

/-- What changes nothing one by one changes nothing together. -/
theorem caughtUpTo_of_fixed {s : State} (h : ∀ f ∈ followUpSteps, f s = s) (k : Nat) : s.caughtUpTo k = s :=
  foldl_of_fixed fun f hf => h f (List.mem_of_mem_take hf)

/-- Out of service nothing follows. -/
theorem followUpSteps_of_not_running {s : State} (h : s.isRunning = false) : ∀ f ∈ followUpSteps, f s = s := by
  simp [followUpSteps, commandedResetFollows, commandedReset, activationFollows, sResetFollows, pResetFollows, heldFollow,
    pChooses, State.pMayChoose, sChooses, State.sMayChoose, takeUpFollows, h]

theorem caughtUpTo_of_not_running {s : State} (h : s.isRunning = false) (k : Nat) : s.caughtUpTo k = s :=
  caughtUpTo_of_fixed (followUpSteps_of_not_running h) k

theorem caughtUp_of_not_running {s : State} (h : s.isRunning = false) : s.caughtUp = s :=
  caughtUpTo_of_not_running h 9

theorem ifDue_isNone (due : Bool) (c : Instr) : (ifDue due c).isNone = !due := by cases due <;> rfl

theorem pChooses_of_not_ready {s : State} (h : s.pReady = false) : pChooses s = s := by
  unfold pChooses
  split
  · next hm =>
    simp only [State.pReady, hm, Bool.true_and, Bool.or_eq_false_iff, Bool.not_eq_false', List.isEmpty_iff] at h
    obtain ⟨⟨h1, h2⟩, h3⟩ := h
    rw [h2, h3, if_neg (by simp [h1])]
  · rfl

theorem sChooses_of_not_ready {s : State} (h : s.sReady = false) : sChooses s = s := by
  unfold sChooses
  split
  · next hm =>
    simp only [State.sReady, hm, Bool.true_and, Bool.or_eq_false_iff, Bool.not_eq_false', List.isEmpty_iff] at h
    obtain ⟨h1, h2⟩ := h
    rw [h1]
    dsimp only
    split
    · rfl
    · next hr =>
      simp only [Bool.not_eq_true] at hr
      simp only [hr, Bool.not_false, Bool.true_and, Bool.or_eq_false_iff, Bool.not_eq_false', List.isEmpty_iff] at h2
      unfold sChoosesOther
      rw [Option.isSome_eq_false_iff, Option.isNone_iff_eq_none] at h2
      rw [h2.1, h2.2]
  · rfl

theorem heldFollow_of_none_joins {s : State} (h : s.heldJoins = false) : heldFollow s = s := by
  unfold heldFollow
  split
  · have places : s.mgmt.held.take (responsePlaces - s.mgmt.responses.length) = [] ∧
        s.mgmt.held.drop (responsePlaces - s.mgmt.responses.length) = s.mgmt.held := by
      simp only [State.heldJoins, Bool.and_eq_false_iff, Bool.not_eq_false', List.isEmpty_iff,
        decide_eq_false_iff_not] at h
      rcases h with h | h
      · simp [h]
      · rw [show responsePlaces - s.mgmt.responses.length = 0 by omega]; simp
    unfold heldResponsesJoin
    simp only [places.1, places.2, List.append_nil]
  · rfl

/-- Where no follow-up is due, taking them all changes nothing. -/
theorem followUpSteps_of_nothingFollows {s : State} (h : s.nothingFollows = true) : ∀ f ∈ followUpSteps, f s = s := by
  simp only [State.nothingFollows, State.followUps, List.all_cons, List.all_nil, ifDue_isNone, Bool.and_eq_true,
    Bool.not_eq_true', beq_eq_false_iff_ne, ne_eq] at h
  obtain ⟨h1, h2, h3, h4, h5, h6, h7, h8, -⟩ := h
  simp [followUpSteps, commandedResetFollows, commandedReset, activationFollows, sResetFollows, sResetTakesEffect,
    pResetFollows, pResetTakesEffect, heldFollow_of_none_joins h5, pChooses_of_not_ready h6, sChooses_of_not_ready h7,
    takeUpFollows, h1, h2, h3, h4, h8]

theorem caughtUpTo_of_nothingFollows {s : State} (h : s.nothingFollows = true) (k : Nat) : s.caughtUpTo k = s :=
  caughtUpTo_of_fixed (followUpSteps_of_nothingFollows h) k

theorem caughtUp_of_nothingFollows {s : State} (h : s.nothingFollows = true) : s.caughtUp = s :=
  caughtUpTo_of_nothingFollows h 9

/-! ### Bits -/

/-- The bits of a character are read as that character (R152). -/
theorem readChar_charBits (v : Byte) (marker stop : Bool) : readChar (charBits v marker stop) = some (v, marker, !stop) := by
  have bits : ∀ v : Byte, bitsByte ((List.finRange 8).map fun i => v.getLsb i) = v := by decide +kernel
  exact congrArg (fun x => some (x, marker, !stop)) (bits v)

/-- The bits of a character arrive as the character. -/
theorem bitsArrive_charBits (port : Port) (v : Byte) (marker stop : Bool) (s : State) :
    bitsArrive port (charBits v marker stop) s = characterArrives port v marker (!stop) s := by
  unfold bitsArrive; rw [readChar_charBits]

end Sys2Proof.Machine
end

