-- ==== Sys2Proof/Laws/State.lean ====
section
/-! SUPPORT. One lemma for each named update and each field that it leaves as it was. -/

namespace Sys2Proof.Machine

variable (s : State)

/-! ### setPort -/

@[simp] theorem setPort_pending (port : Port) (r : Receiver) (c : PortCount) : (setPort port r c s).pending = s.pending :=
    by cases port <;> rfl
@[simp] theorem setPort_freeIndex (port : Port) (r : Receiver) (c : PortCount) : (setPort port r c s).freeIndex = s.freeIndex :=
    by cases port <;> rfl
@[simp] theorem setPort_pins (port : Port) (r : Receiver) (c : PortCount) : (setPort port r c s).pins = s.pins :=
    by cases port <;> rfl
@[simp] theorem setPort_phase (port : Port) (r : Receiver) (c : PortCount) : (setPort port r c s).phase = s.phase :=
    by cases port <;> rfl
@[simp] theorem setPort_now (port : Port) (r : Receiver) (c : PortCount) : (setPort port r c s).now = s.now :=
    by cases port <;> rfl
@[simp] theorem setPort_mgmt (port : Port) (r : Receiver) (c : PortCount) : (setPort port r c s).mgmt = s.mgmt :=
    by cases port <;> rfl
@[simp] theorem setPort_link_sTx (port : Port) (r : Receiver) (c : PortCount) : (setPort port r c s).link.sTx = s.link.sTx :=
    by cases port <;> rfl
@[simp] theorem setPort_link_pTx (port : Port) (r : Receiver) (c : PortCount) : (setPort port r c s).link.pTx = s.link.pTx :=
    by cases port <;> rfl
@[simp] theorem setPort_link_sReset (port : Port) (r : Receiver) (c : PortCount) : (setPort port r c s).link.sReset = s.link.sReset :=
    by cases port <;> rfl
@[simp] theorem setPort_link_pReset (port : Port) (r : Receiver) (c : PortCount) : (setPort port r c s).link.pReset = s.link.pReset :=
    by cases port <;> rfl
@[simp] theorem setPort_router (port : Port) (r : Receiver) (c : PortCount) : (setPort port r c s).router = s.router :=
    by cases port <;> rfl
@[simp] theorem setPort_channels (port : Port) (r : Receiver) (c : PortCount) : (setPort port r c s).channels = s.channels :=
    by cases port <;> rfl
@[simp] theorem setPort_voter (port : Port) (r : Receiver) (c : PortCount) : (setPort port r c s).voter = s.voter :=
    by cases port <;> rfl
@[simp] theorem setPort_trig (port : Port) (r : Receiver) (c : PortCount) : (setPort port r c s).trig = s.trig :=
    by cases port <;> rfl
@[simp] theorem setPort_site (port : Port) (r : Receiver) (c : PortCount) : (setPort port r c s).site = s.site :=
    by cases port <;> rfl
@[simp] theorem setPort_runner (port : Port) (r : Receiver) (c : PortCount) : (setPort port r c s).runner = s.runner :=
    by cases port <;> rfl
@[simp] theorem setPort_store (port : Port) (r : Receiver) (c : PortCount) : (setPort port r c s).store = s.store :=
    by cases port <;> rfl
@[simp] theorem setPort_nv (port : Port) (r : Receiver) (c : PortCount) : (setPort port r c s).nv = s.nv :=
    by cases port <;> rfl

/-! ### joinResponse -/

@[simp] theorem joinResponse_pending (r : Response) : (joinResponse r s).pending = s.pending := rfl
@[simp] theorem joinResponse_freeIndex (r : Response) : (joinResponse r s).freeIndex = s.freeIndex := rfl
@[simp] theorem joinResponse_pins (r : Response) : (joinResponse r s).pins = s.pins := rfl
@[simp] theorem joinResponse_phase (r : Response) : (joinResponse r s).phase = s.phase := rfl
@[simp] theorem joinResponse_now (r : Response) : (joinResponse r s).now = s.now := rfl
@[simp] theorem joinResponse_mgmt_siteTime (r : Response) : (joinResponse r s).mgmt.siteTime = s.mgmt.siteTime := rfl
@[simp] theorem joinResponse_mgmt_siteMs (r : Response) : (joinResponse r s).mgmt.siteMs = s.mgmt.siteMs := rfl
@[simp] theorem joinResponse_mgmt_secondDue (r : Response) : (joinResponse r s).mgmt.secondDue = s.mgmt.secondDue :=
    rfl
@[simp] theorem joinResponse_mgmt_causes (r : Response) : (joinResponse r s).mgmt.causes = s.mgmt.causes := rfl
@[simp] theorem joinResponse_mgmt_straps (r : Response) : (joinResponse r s).mgmt.straps = s.mgmt.straps := rfl
@[simp] theorem joinResponse_mgmt_loadTimer (r : Response) : (joinResponse r s).mgmt.loadTimer = s.mgmt.loadTimer :=
    rfl
@[simp] theorem joinResponse_mgmt_cmdReset (r : Response) : (joinResponse r s).mgmt.cmdReset = s.mgmt.cmdReset := rfl
@[simp] theorem joinResponse_mgmt_held (r : Response) : (joinResponse r s).mgmt.held = s.mgmt.held := rfl
@[simp] theorem joinResponse_mgmt_handled (r : Response) : (joinResponse r s).mgmt.handled = s.mgmt.handled := rfl
@[simp] theorem joinResponse_mgmt_discarded (r : Response) : (joinResponse r s).mgmt.discarded = s.mgmt.discarded :=
    rfl
@[simp] theorem joinResponse_link (r : Response) : (joinResponse r s).link = s.link := rfl
@[simp] theorem joinResponse_router (r : Response) : (joinResponse r s).router = s.router := rfl
@[simp] theorem joinResponse_channels (r : Response) : (joinResponse r s).channels = s.channels := rfl
@[simp] theorem joinResponse_voter (r : Response) : (joinResponse r s).voter = s.voter := rfl
@[simp] theorem joinResponse_trig (r : Response) : (joinResponse r s).trig = s.trig := rfl
@[simp] theorem joinResponse_site (r : Response) : (joinResponse r s).site = s.site := rfl
@[simp] theorem joinResponse_runner (r : Response) : (joinResponse r s).runner = s.runner := rfl
@[simp] theorem joinResponse_store (r : Response) : (joinResponse r s).store = s.store := rfl
@[simp] theorem joinResponse_nv (r : Response) : (joinResponse r s).nv = s.nv := rfl

/-! ### countHandled -/

@[simp] theorem countHandled_pending : (countHandled s).pending = s.pending := rfl
@[simp] theorem countHandled_freeIndex : (countHandled s).freeIndex = s.freeIndex := rfl
@[simp] theorem countHandled_pins : (countHandled s).pins = s.pins := rfl
@[simp] theorem countHandled_phase : (countHandled s).phase = s.phase := rfl
@[simp] theorem countHandled_now : (countHandled s).now = s.now := rfl
@[simp] theorem countHandled_mgmt_siteTime : (countHandled s).mgmt.siteTime = s.mgmt.siteTime := rfl
@[simp] theorem countHandled_mgmt_siteMs : (countHandled s).mgmt.siteMs = s.mgmt.siteMs := rfl
@[simp] theorem countHandled_mgmt_secondDue : (countHandled s).mgmt.secondDue = s.mgmt.secondDue := rfl
@[simp] theorem countHandled_mgmt_causes : (countHandled s).mgmt.causes = s.mgmt.causes := rfl
@[simp] theorem countHandled_mgmt_straps : (countHandled s).mgmt.straps = s.mgmt.straps := rfl
@[simp] theorem countHandled_mgmt_loadTimer : (countHandled s).mgmt.loadTimer = s.mgmt.loadTimer := rfl
@[simp] theorem countHandled_mgmt_cmdReset : (countHandled s).mgmt.cmdReset = s.mgmt.cmdReset := rfl
@[simp] theorem countHandled_mgmt_responses : (countHandled s).mgmt.responses = s.mgmt.responses := rfl
@[simp] theorem countHandled_mgmt_held : (countHandled s).mgmt.held = s.mgmt.held := rfl
@[simp] theorem countHandled_mgmt_discarded : (countHandled s).mgmt.discarded = s.mgmt.discarded := rfl
@[simp] theorem countHandled_link : (countHandled s).link = s.link := rfl
@[simp] theorem countHandled_router : (countHandled s).router = s.router := rfl
@[simp] theorem countHandled_channels : (countHandled s).channels = s.channels := rfl
@[simp] theorem countHandled_voter : (countHandled s).voter = s.voter := rfl
@[simp] theorem countHandled_trig : (countHandled s).trig = s.trig := rfl
@[simp] theorem countHandled_site : (countHandled s).site = s.site := rfl
@[simp] theorem countHandled_runner : (countHandled s).runner = s.runner := rfl
@[simp] theorem countHandled_store : (countHandled s).store = s.store := rfl
@[simp] theorem countHandled_nv : (countHandled s).nv = s.nv := rfl

/-! ### discardRequest -/

@[simp] theorem discardRequest_pending : (discardRequest s).pending = s.pending := rfl
@[simp] theorem discardRequest_freeIndex : (discardRequest s).freeIndex = s.freeIndex := rfl
@[simp] theorem discardRequest_pins : (discardRequest s).pins = s.pins := rfl
@[simp] theorem discardRequest_phase : (discardRequest s).phase = s.phase := rfl
@[simp] theorem discardRequest_now : (discardRequest s).now = s.now := rfl
@[simp] theorem discardRequest_mgmt_siteTime : (discardRequest s).mgmt.siteTime = s.mgmt.siteTime := rfl
@[simp] theorem discardRequest_mgmt_siteMs : (discardRequest s).mgmt.siteMs = s.mgmt.siteMs := rfl
@[simp] theorem discardRequest_mgmt_secondDue : (discardRequest s).mgmt.secondDue = s.mgmt.secondDue := rfl
@[simp] theorem discardRequest_mgmt_causes : (discardRequest s).mgmt.causes = s.mgmt.causes := rfl
@[simp] theorem discardRequest_mgmt_straps : (discardRequest s).mgmt.straps = s.mgmt.straps := rfl
@[simp] theorem discardRequest_mgmt_loadTimer : (discardRequest s).mgmt.loadTimer = s.mgmt.loadTimer := rfl
@[simp] theorem discardRequest_mgmt_cmdReset : (discardRequest s).mgmt.cmdReset = s.mgmt.cmdReset := rfl
@[simp] theorem discardRequest_mgmt_responses : (discardRequest s).mgmt.responses = s.mgmt.responses := rfl
@[simp] theorem discardRequest_mgmt_held : (discardRequest s).mgmt.held = s.mgmt.held := rfl
@[simp] theorem discardRequest_mgmt_handled : (discardRequest s).mgmt.handled = s.mgmt.handled := rfl
@[simp] theorem discardRequest_link : (discardRequest s).link = s.link := rfl
@[simp] theorem discardRequest_router : (discardRequest s).router = s.router := rfl
@[simp] theorem discardRequest_channels : (discardRequest s).channels = s.channels := rfl
@[simp] theorem discardRequest_voter : (discardRequest s).voter = s.voter := rfl
@[simp] theorem discardRequest_trig : (discardRequest s).trig = s.trig := rfl
@[simp] theorem discardRequest_site : (discardRequest s).site = s.site := rfl
@[simp] theorem discardRequest_runner : (discardRequest s).runner = s.runner := rfl
@[simp] theorem discardRequest_store : (discardRequest s).store = s.store := rfl
@[simp] theorem discardRequest_nv : (discardRequest s).nv = s.nv := rfl

/-! ### discardP -/

@[simp] theorem discardP_pending : (discardP s).pending = s.pending := rfl
@[simp] theorem discardP_freeIndex : (discardP s).freeIndex = s.freeIndex := rfl
@[simp] theorem discardP_pins : (discardP s).pins = s.pins := rfl
@[simp] theorem discardP_phase : (discardP s).phase = s.phase := rfl
@[simp] theorem discardP_now : (discardP s).now = s.now := rfl
@[simp] theorem discardP_mgmt : (discardP s).mgmt = s.mgmt := rfl
@[simp] theorem discardP_link : (discardP s).link = s.link := rfl
@[simp] theorem discardP_router_nodes : (discardP s).router.nodes = s.router.nodes := rfl
@[simp] theorem discardP_router_sToP : (discardP s).router.sToP = s.router.sToP := rfl
@[simp] theorem discardP_router_pToS : (discardP s).router.pToS = s.router.pToS := rfl
@[simp] theorem discardP_router_notice : (discardP s).router.notice = s.router.notice := rfl
@[simp] theorem discardP_channels : (discardP s).channels = s.channels := rfl
@[simp] theorem discardP_voter : (discardP s).voter = s.voter := rfl
@[simp] theorem discardP_trig : (discardP s).trig = s.trig := rfl
@[simp] theorem discardP_site : (discardP s).site = s.site := rfl
@[simp] theorem discardP_runner : (discardP s).runner = s.runner := rfl
@[simp] theorem discardP_store : (discardP s).store = s.store := rfl
@[simp] theorem discardP_nv : (discardP s).nv = s.nv := rfl

/-! ### discardS -/

@[simp] theorem discardS_pending : (discardS s).pending = s.pending := rfl
@[simp] theorem discardS_freeIndex : (discardS s).freeIndex = s.freeIndex := rfl
@[simp] theorem discardS_pins : (discardS s).pins = s.pins := rfl
@[simp] theorem discardS_phase : (discardS s).phase = s.phase := rfl
@[simp] theorem discardS_now : (discardS s).now = s.now := rfl
@[simp] theorem discardS_mgmt : (discardS s).mgmt = s.mgmt := rfl
@[simp] theorem discardS_link : (discardS s).link = s.link := rfl
@[simp] theorem discardS_router_nodes : (discardS s).router.nodes = s.router.nodes := rfl
@[simp] theorem discardS_router_sToP : (discardS s).router.sToP = s.router.sToP := rfl
@[simp] theorem discardS_router_pToS : (discardS s).router.pToS = s.router.pToS := rfl
@[simp] theorem discardS_router_notice : (discardS s).router.notice = s.router.notice := rfl
@[simp] theorem discardS_channels : (discardS s).channels = s.channels := rfl
@[simp] theorem discardS_voter : (discardS s).voter = s.voter := rfl
@[simp] theorem discardS_trig : (discardS s).trig = s.trig := rfl
@[simp] theorem discardS_site : (discardS s).site = s.site := rfl
@[simp] theorem discardS_runner : (discardS s).runner = s.runner := rfl
@[simp] theorem discardS_store : (discardS s).store = s.store := rfl
@[simp] theorem discardS_nv : (discardS s).nv = s.nv := rfl

/-! ### countUnknownSource -/

@[simp] theorem countUnknownSource_pending : (countUnknownSource s).pending = s.pending := rfl
@[simp] theorem countUnknownSource_freeIndex : (countUnknownSource s).freeIndex = s.freeIndex := rfl
@[simp] theorem countUnknownSource_pins : (countUnknownSource s).pins = s.pins := rfl
@[simp] theorem countUnknownSource_phase : (countUnknownSource s).phase = s.phase := rfl
@[simp] theorem countUnknownSource_now : (countUnknownSource s).now = s.now := rfl
@[simp] theorem countUnknownSource_mgmt : (countUnknownSource s).mgmt = s.mgmt := rfl
@[simp] theorem countUnknownSource_link : (countUnknownSource s).link = s.link := rfl
@[simp] theorem countUnknownSource_router_nodes : (countUnknownSource s).router.nodes = s.router.nodes := rfl
@[simp] theorem countUnknownSource_router_sToP : (countUnknownSource s).router.sToP = s.router.sToP := rfl
@[simp] theorem countUnknownSource_router_pToS : (countUnknownSource s).router.pToS = s.router.pToS := rfl
@[simp] theorem countUnknownSource_router_notice : (countUnknownSource s).router.notice = s.router.notice := rfl
@[simp] theorem countUnknownSource_channels : (countUnknownSource s).channels = s.channels := rfl
@[simp] theorem countUnknownSource_voter : (countUnknownSource s).voter = s.voter := rfl
@[simp] theorem countUnknownSource_trig : (countUnknownSource s).trig = s.trig := rfl
@[simp] theorem countUnknownSource_site : (countUnknownSource s).site = s.site := rfl
@[simp] theorem countUnknownSource_runner : (countUnknownSource s).runner = s.runner := rfl
@[simp] theorem countUnknownSource_store : (countUnknownSource s).store = s.store := rfl
@[simp] theorem countUnknownSource_nv : (countUnknownSource s).nv = s.nv := rfl

/-! ### setNodeRt -/

@[simp] theorem setNodeRt_pending (a : Nat) (r : NodeRt) : (setNodeRt a r s).pending = s.pending := rfl
@[simp] theorem setNodeRt_freeIndex (a : Nat) (r : NodeRt) : (setNodeRt a r s).freeIndex = s.freeIndex := rfl
@[simp] theorem setNodeRt_pins (a : Nat) (r : NodeRt) : (setNodeRt a r s).pins = s.pins := rfl
@[simp] theorem setNodeRt_phase (a : Nat) (r : NodeRt) : (setNodeRt a r s).phase = s.phase := rfl
@[simp] theorem setNodeRt_now (a : Nat) (r : NodeRt) : (setNodeRt a r s).now = s.now := rfl
@[simp] theorem setNodeRt_mgmt (a : Nat) (r : NodeRt) : (setNodeRt a r s).mgmt = s.mgmt := rfl
@[simp] theorem setNodeRt_link (a : Nat) (r : NodeRt) : (setNodeRt a r s).link = s.link := rfl
@[simp] theorem setNodeRt_router_sToP (a : Nat) (r : NodeRt) : (setNodeRt a r s).router.sToP = s.router.sToP := rfl
@[simp] theorem setNodeRt_router_pToS (a : Nat) (r : NodeRt) : (setNodeRt a r s).router.pToS = s.router.pToS := rfl
@[simp] theorem setNodeRt_router_notice (a : Nat) (r : NodeRt) : (setNodeRt a r s).router.notice = s.router.notice :=
    rfl
@[simp] theorem setNodeRt_router_count (a : Nat) (r : NodeRt) : (setNodeRt a r s).router.count = s.router.count := rfl
@[simp] theorem setNodeRt_channels (a : Nat) (r : NodeRt) : (setNodeRt a r s).channels = s.channels := rfl
@[simp] theorem setNodeRt_voter (a : Nat) (r : NodeRt) : (setNodeRt a r s).voter = s.voter := rfl
@[simp] theorem setNodeRt_trig (a : Nat) (r : NodeRt) : (setNodeRt a r s).trig = s.trig := rfl
@[simp] theorem setNodeRt_site (a : Nat) (r : NodeRt) : (setNodeRt a r s).site = s.site := rfl
@[simp] theorem setNodeRt_runner (a : Nat) (r : NodeRt) : (setNodeRt a r s).runner = s.runner := rfl
@[simp] theorem setNodeRt_store (a : Nat) (r : NodeRt) : (setNodeRt a r s).store = s.store := rfl
@[simp] theorem setNodeRt_nv (a : Nat) (r : NodeRt) : (setNodeRt a r s).nv = s.nv := rfl

/-! ### queueToS -/

@[simp] theorem queueToS_pending (f : Frame) : (queueToS f s).pending = s.pending := rfl
@[simp] theorem queueToS_freeIndex (f : Frame) : (queueToS f s).freeIndex = s.freeIndex := rfl
@[simp] theorem queueToS_pins (f : Frame) : (queueToS f s).pins = s.pins := rfl
@[simp] theorem queueToS_phase (f : Frame) : (queueToS f s).phase = s.phase := rfl
@[simp] theorem queueToS_now (f : Frame) : (queueToS f s).now = s.now := rfl
@[simp] theorem queueToS_mgmt (f : Frame) : (queueToS f s).mgmt = s.mgmt := rfl
@[simp] theorem queueToS_link (f : Frame) : (queueToS f s).link = s.link := rfl
@[simp] theorem queueToS_router_nodes (f : Frame) : (queueToS f s).router.nodes = s.router.nodes := rfl
@[simp] theorem queueToS_router_sToP (f : Frame) : (queueToS f s).router.sToP = s.router.sToP := rfl
@[simp] theorem queueToS_router_notice (f : Frame) : (queueToS f s).router.notice = s.router.notice := rfl
@[simp] theorem queueToS_channels (f : Frame) : (queueToS f s).channels = s.channels := rfl
@[simp] theorem queueToS_voter (f : Frame) : (queueToS f s).voter = s.voter := rfl
@[simp] theorem queueToS_trig (f : Frame) : (queueToS f s).trig = s.trig := rfl
@[simp] theorem queueToS_site (f : Frame) : (queueToS f s).site = s.site := rfl
@[simp] theorem queueToS_runner (f : Frame) : (queueToS f s).runner = s.runner := rfl
@[simp] theorem queueToS_store (f : Frame) : (queueToS f s).store = s.store := rfl
@[simp] theorem queueToS_nv (f : Frame) : (queueToS f s).nv = s.nv := rfl

/-! ### raiseNotice -/

@[simp] theorem raiseNotice_pending (o : Option TripRecord) : (raiseNotice o s).pending = s.pending := rfl
@[simp] theorem raiseNotice_freeIndex (o : Option TripRecord) : (raiseNotice o s).freeIndex = s.freeIndex := rfl
@[simp] theorem raiseNotice_pins (o : Option TripRecord) : (raiseNotice o s).pins = s.pins := rfl
@[simp] theorem raiseNotice_phase (o : Option TripRecord) : (raiseNotice o s).phase = s.phase := rfl
@[simp] theorem raiseNotice_now (o : Option TripRecord) : (raiseNotice o s).now = s.now := rfl
@[simp] theorem raiseNotice_mgmt (o : Option TripRecord) : (raiseNotice o s).mgmt = s.mgmt := rfl
@[simp] theorem raiseNotice_link (o : Option TripRecord) : (raiseNotice o s).link = s.link := rfl
@[simp] theorem raiseNotice_router_nodes (o : Option TripRecord) : (raiseNotice o s).router.nodes = s.router.nodes :=
    rfl
@[simp] theorem raiseNotice_router_sToP (o : Option TripRecord) : (raiseNotice o s).router.sToP = s.router.sToP := rfl
@[simp] theorem raiseNotice_router_pToS (o : Option TripRecord) : (raiseNotice o s).router.pToS = s.router.pToS := rfl
@[simp] theorem raiseNotice_channels (o : Option TripRecord) : (raiseNotice o s).channels = s.channels := rfl
@[simp] theorem raiseNotice_voter (o : Option TripRecord) : (raiseNotice o s).voter = s.voter := rfl
@[simp] theorem raiseNotice_trig (o : Option TripRecord) : (raiseNotice o s).trig = s.trig := rfl
@[simp] theorem raiseNotice_site (o : Option TripRecord) : (raiseNotice o s).site = s.site := rfl
@[simp] theorem raiseNotice_runner (o : Option TripRecord) : (raiseNotice o s).runner = s.runner := rfl
@[simp] theorem raiseNotice_store (o : Option TripRecord) : (raiseNotice o s).store = s.store := rfl
@[simp] theorem raiseNotice_nv (o : Option TripRecord) : (raiseNotice o s).nv = s.nv := rfl

/-! ### formAlert -/

@[simp] theorem formAlert_pending : (formAlert s).pending = s.pending := rfl
@[simp] theorem formAlert_freeIndex : (formAlert s).freeIndex = s.freeIndex := rfl
@[simp] theorem formAlert_pins : (formAlert s).pins = s.pins := rfl
@[simp] theorem formAlert_phase : (formAlert s).phase = s.phase := rfl
@[simp] theorem formAlert_now : (formAlert s).now = s.now := rfl
@[simp] theorem formAlert_mgmt : (formAlert s).mgmt = s.mgmt := rfl
@[simp] theorem formAlert_link : (formAlert s).link = s.link := rfl
@[simp] theorem formAlert_router : (formAlert s).router = s.router := rfl
@[simp] theorem formAlert_channels : (formAlert s).channels = s.channels := rfl
@[simp] theorem formAlert_voter : (formAlert s).voter = s.voter := rfl
@[simp] theorem formAlert_trig_flags : (formAlert s).trig.flags = s.trig.flags := rfl
@[simp] theorem formAlert_trig_forcedLevel : (formAlert s).trig.forcedLevel = s.trig.forcedLevel := rfl
@[simp] theorem formAlert_trig_requestLevel : (formAlert s).trig.requestLevel = s.trig.requestLevel := rfl
@[simp] theorem formAlert_trig_cause : (formAlert s).trig.cause = s.trig.cause := rfl
@[simp] theorem formAlert_trig_remoteSevere : (formAlert s).trig.remoteSevere = s.trig.remoteSevere := rfl
@[simp] theorem formAlert_trig_remoteModerate : (formAlert s).trig.remoteModerate = s.trig.remoteModerate := rfl
@[simp] theorem formAlert_trig_inputs : (formAlert s).trig.inputs = s.trig.inputs := rfl
@[simp] theorem formAlert_trig_feedStable : (formAlert s).trig.feedStable = s.trig.feedStable := rfl
@[simp] theorem formAlert_trig_feedStart : (formAlert s).trig.feedStart = s.trig.feedStart := rfl
@[simp] theorem formAlert_trig_warnings : (formAlert s).trig.warnings = s.trig.warnings := rfl
@[simp] theorem formAlert_trig_warningsDropped : (formAlert s).trig.warningsDropped = s.trig.warningsDropped := rfl
@[simp] theorem formAlert_trig_warningsIgnored : (formAlert s).trig.warningsIgnored = s.trig.warningsIgnored := rfl
@[simp] theorem formAlert_trig_quiet : (formAlert s).trig.quiet = s.trig.quiet := rfl
@[simp] theorem formAlert_trig_quietElapsed : (formAlert s).trig.quietElapsed = s.trig.quietElapsed := rfl
@[simp] theorem formAlert_trig_tripOut : (formAlert s).trig.tripOut = s.trig.tripOut := rfl
@[simp] theorem formAlert_site : (formAlert s).site = s.site := rfl
@[simp] theorem formAlert_runner : (formAlert s).runner = s.runner := rfl
@[simp] theorem formAlert_store : (formAlert s).store = s.store := rfl
@[simp] theorem formAlert_nv : (formAlert s).nv = s.nv := rfl

/-! ### setSite -/

@[simp] theorem setSite_pending (st : SiteState) (l : Nat) (h : Option HoldReason) : (setSite st l h s).pending = s.pending :=
    rfl
@[simp] theorem setSite_freeIndex (st : SiteState) (l : Nat) (h : Option HoldReason) : (setSite st l h s).freeIndex = s.freeIndex :=
    rfl
@[simp] theorem setSite_pins (st : SiteState) (l : Nat) (h : Option HoldReason) : (setSite st l h s).pins = s.pins :=
    rfl
@[simp] theorem setSite_phase (st : SiteState) (l : Nat) (h : Option HoldReason) : (setSite st l h s).phase = s.phase :=
    rfl
@[simp] theorem setSite_now (st : SiteState) (l : Nat) (h : Option HoldReason) : (setSite st l h s).now = s.now := rfl
@[simp] theorem setSite_mgmt (st : SiteState) (l : Nat) (h : Option HoldReason) : (setSite st l h s).mgmt = s.mgmt :=
    rfl
@[simp] theorem setSite_link (st : SiteState) (l : Nat) (h : Option HoldReason) : (setSite st l h s).link = s.link :=
    rfl
@[simp] theorem setSite_router (st : SiteState) (l : Nat) (h : Option HoldReason) : (setSite st l h s).router = s.router :=
    rfl
@[simp] theorem setSite_channels (st : SiteState) (l : Nat) (h : Option HoldReason) : (setSite st l h s).channels = s.channels :=
    rfl
@[simp] theorem setSite_voter (st : SiteState) (l : Nat) (h : Option HoldReason) : (setSite st l h s).voter = s.voter :=
    rfl
@[simp] theorem setSite_trig_flags (st : SiteState) (l : Nat) (h : Option HoldReason) : (setSite st l h s).trig.flags = s.trig.flags :=
    rfl
@[simp] theorem setSite_trig_forcedLevel (st : SiteState) (l : Nat) (h : Option HoldReason) : (setSite st l h s).trig.forcedLevel = s.trig.forcedLevel :=
    rfl
@[simp] theorem setSite_trig_requestLevel (st : SiteState) (l : Nat) (h : Option HoldReason) : (setSite st l h s).trig.requestLevel = s.trig.requestLevel :=
    rfl
@[simp] theorem setSite_trig_cause (st : SiteState) (l : Nat) (h : Option HoldReason) : (setSite st l h s).trig.cause = s.trig.cause :=
    rfl
@[simp] theorem setSite_trig_remoteSevere (st : SiteState) (l : Nat) (h : Option HoldReason) : (setSite st l h s).trig.remoteSevere = s.trig.remoteSevere :=
    rfl
@[simp] theorem setSite_trig_remoteModerate (st : SiteState) (l : Nat) (h : Option HoldReason) : (setSite st l h s).trig.remoteModerate = s.trig.remoteModerate :=
    rfl
@[simp] theorem setSite_trig_inputs (st : SiteState) (l : Nat) (h : Option HoldReason) : (setSite st l h s).trig.inputs = s.trig.inputs :=
    rfl
@[simp] theorem setSite_trig_feedStable (st : SiteState) (l : Nat) (h : Option HoldReason) : (setSite st l h s).trig.feedStable = s.trig.feedStable :=
    rfl
@[simp] theorem setSite_trig_feedStart (st : SiteState) (l : Nat) (h : Option HoldReason) : (setSite st l h s).trig.feedStart = s.trig.feedStart :=
    rfl
@[simp] theorem setSite_trig_warnings (st : SiteState) (l : Nat) (h : Option HoldReason) : (setSite st l h s).trig.warnings = s.trig.warnings :=
    rfl
@[simp] theorem setSite_trig_warningsDropped (st : SiteState) (l : Nat) (h : Option HoldReason) : (setSite st l h s).trig.warningsDropped = s.trig.warningsDropped :=
    rfl
@[simp] theorem setSite_trig_warningsIgnored (st : SiteState) (l : Nat) (h : Option HoldReason) : (setSite st l h s).trig.warningsIgnored = s.trig.warningsIgnored :=
    rfl
@[simp] theorem setSite_trig_quiet (st : SiteState) (l : Nat) (h : Option HoldReason) : (setSite st l h s).trig.quiet = s.trig.quiet :=
    rfl
@[simp] theorem setSite_trig_quietElapsed (st : SiteState) (l : Nat) (h : Option HoldReason) : (setSite st l h s).trig.quietElapsed = s.trig.quietElapsed :=
    rfl
@[simp] theorem setSite_trig_tripOut (st : SiteState) (l : Nat) (h : Option HoldReason) : (setSite st l h s).trig.tripOut = s.trig.tripOut :=
    rfl
@[simp] theorem setSite_site_trip (st : SiteState) (l : Nat) (h : Option HoldReason) : (setSite st l h s).site.trip = s.site.trip :=
    rfl
@[simp] theorem setSite_site_record (st : SiteState) (l : Nat) (h : Option HoldReason) : (setSite st l h s).site.record = s.site.record :=
    rfl
@[simp] theorem setSite_site_requestLevel (st : SiteState) (l : Nat) (h : Option HoldReason) : (setSite st l h s).site.requestLevel = s.site.requestLevel :=
    rfl
@[simp] theorem setSite_site_cause (st : SiteState) (l : Nat) (h : Option HoldReason) : (setSite st l h s).site.cause = s.site.cause :=
    rfl
@[simp] theorem setSite_site_restartIncomplete (st : SiteState) (l : Nat) (h : Option HoldReason) : (setSite st l h s).site.restartIncomplete = s.site.restartIncomplete :=
    rfl
@[simp] theorem setSite_site_activationPending (st : SiteState) (l : Nat) (h : Option HoldReason) : (setSite st l h s).site.activationPending = s.site.activationPending :=
    rfl
@[simp] theorem setSite_site_tripPending (st : SiteState) (l : Nat) (h : Option HoldReason) : (setSite st l h s).site.tripPending = s.site.tripPending :=
    rfl
@[simp] theorem setSite_runner (st : SiteState) (l : Nat) (h : Option HoldReason) : (setSite st l h s).runner = s.runner :=
    rfl
@[simp] theorem setSite_store (st : SiteState) (l : Nat) (h : Option HoldReason) : (setSite st l h s).store = s.store :=
    rfl
@[simp] theorem setSite_nv (st : SiteState) (l : Nat) (h : Option HoldReason) : (setSite st l h s).nv = s.nv := rfl

/-! ### reloadQuiet -/

@[simp] theorem reloadQuiet_pending : (reloadQuiet s).pending = s.pending := rfl
@[simp] theorem reloadQuiet_freeIndex : (reloadQuiet s).freeIndex = s.freeIndex := rfl
@[simp] theorem reloadQuiet_pins : (reloadQuiet s).pins = s.pins := rfl
@[simp] theorem reloadQuiet_phase : (reloadQuiet s).phase = s.phase := rfl
@[simp] theorem reloadQuiet_now : (reloadQuiet s).now = s.now := rfl
@[simp] theorem reloadQuiet_mgmt : (reloadQuiet s).mgmt = s.mgmt := rfl
@[simp] theorem reloadQuiet_link : (reloadQuiet s).link = s.link := rfl
@[simp] theorem reloadQuiet_router : (reloadQuiet s).router = s.router := rfl
@[simp] theorem reloadQuiet_channels : (reloadQuiet s).channels = s.channels := rfl
@[simp] theorem reloadQuiet_voter : (reloadQuiet s).voter = s.voter := rfl
@[simp] theorem reloadQuiet_trig_flags : (reloadQuiet s).trig.flags = s.trig.flags := rfl
@[simp] theorem reloadQuiet_trig_forcedLevel : (reloadQuiet s).trig.forcedLevel = s.trig.forcedLevel := rfl
@[simp] theorem reloadQuiet_trig_requestLevel : (reloadQuiet s).trig.requestLevel = s.trig.requestLevel := rfl
@[simp] theorem reloadQuiet_trig_cause : (reloadQuiet s).trig.cause = s.trig.cause := rfl
@[simp] theorem reloadQuiet_trig_remoteSevere : (reloadQuiet s).trig.remoteSevere = s.trig.remoteSevere := rfl
@[simp] theorem reloadQuiet_trig_remoteModerate : (reloadQuiet s).trig.remoteModerate = s.trig.remoteModerate := rfl
@[simp] theorem reloadQuiet_trig_inputs : (reloadQuiet s).trig.inputs = s.trig.inputs := rfl
@[simp] theorem reloadQuiet_trig_feedStable : (reloadQuiet s).trig.feedStable = s.trig.feedStable := rfl
@[simp] theorem reloadQuiet_trig_feedStart : (reloadQuiet s).trig.feedStart = s.trig.feedStart := rfl
@[simp] theorem reloadQuiet_trig_warnings : (reloadQuiet s).trig.warnings = s.trig.warnings := rfl
@[simp] theorem reloadQuiet_trig_warningsDropped : (reloadQuiet s).trig.warningsDropped = s.trig.warningsDropped :=
    rfl
@[simp] theorem reloadQuiet_trig_warningsIgnored : (reloadQuiet s).trig.warningsIgnored = s.trig.warningsIgnored :=
    rfl
@[simp] theorem reloadQuiet_trig_alertOut : (reloadQuiet s).trig.alertOut = s.trig.alertOut := rfl
@[simp] theorem reloadQuiet_trig_tripOut : (reloadQuiet s).trig.tripOut = s.trig.tripOut := rfl
@[simp] theorem reloadQuiet_site : (reloadQuiet s).site = s.site := rfl
@[simp] theorem reloadQuiet_runner : (reloadQuiet s).runner = s.runner := rfl
@[simp] theorem reloadQuiet_store : (reloadQuiet s).store = s.store := rfl
@[simp] theorem reloadQuiet_nv : (reloadQuiet s).nv = s.nv := rfl

/-! ### putWarning -/

@[simp] theorem putWarning_pending (i : Fin 4) (w : Option Warning) : (putWarning i w s).pending = s.pending := rfl
@[simp] theorem putWarning_freeIndex (i : Fin 4) (w : Option Warning) : (putWarning i w s).freeIndex = s.freeIndex :=
    rfl
@[simp] theorem putWarning_pins (i : Fin 4) (w : Option Warning) : (putWarning i w s).pins = s.pins := rfl
@[simp] theorem putWarning_phase (i : Fin 4) (w : Option Warning) : (putWarning i w s).phase = s.phase := rfl
@[simp] theorem putWarning_now (i : Fin 4) (w : Option Warning) : (putWarning i w s).now = s.now := rfl
@[simp] theorem putWarning_mgmt (i : Fin 4) (w : Option Warning) : (putWarning i w s).mgmt = s.mgmt := rfl
@[simp] theorem putWarning_link (i : Fin 4) (w : Option Warning) : (putWarning i w s).link = s.link := rfl
@[simp] theorem putWarning_router (i : Fin 4) (w : Option Warning) : (putWarning i w s).router = s.router := rfl
@[simp] theorem putWarning_channels (i : Fin 4) (w : Option Warning) : (putWarning i w s).channels = s.channels := rfl
@[simp] theorem putWarning_voter (i : Fin 4) (w : Option Warning) : (putWarning i w s).voter = s.voter := rfl
@[simp] theorem putWarning_trig_flags (i : Fin 4) (w : Option Warning) : (putWarning i w s).trig.flags = s.trig.flags :=
    rfl
@[simp] theorem putWarning_trig_forcedLevel (i : Fin 4) (w : Option Warning) : (putWarning i w s).trig.forcedLevel = s.trig.forcedLevel :=
    rfl
@[simp] theorem putWarning_trig_requestLevel (i : Fin 4) (w : Option Warning) : (putWarning i w s).trig.requestLevel = s.trig.requestLevel :=
    rfl
@[simp] theorem putWarning_trig_cause (i : Fin 4) (w : Option Warning) : (putWarning i w s).trig.cause = s.trig.cause :=
    rfl
@[simp] theorem putWarning_trig_remoteSevere (i : Fin 4) (w : Option Warning) : (putWarning i w s).trig.remoteSevere = s.trig.remoteSevere :=
    rfl
@[simp] theorem putWarning_trig_remoteModerate (i : Fin 4) (w : Option Warning) : (putWarning i w s).trig.remoteModerate = s.trig.remoteModerate :=
    rfl
@[simp] theorem putWarning_trig_inputs (i : Fin 4) (w : Option Warning) : (putWarning i w s).trig.inputs = s.trig.inputs :=
    rfl
@[simp] theorem putWarning_trig_feedStable (i : Fin 4) (w : Option Warning) : (putWarning i w s).trig.feedStable = s.trig.feedStable :=
    rfl
@[simp] theorem putWarning_trig_feedStart (i : Fin 4) (w : Option Warning) : (putWarning i w s).trig.feedStart = s.trig.feedStart :=
    rfl
@[simp] theorem putWarning_trig_warningsDropped (i : Fin 4) (w : Option Warning) : (putWarning i w s).trig.warningsDropped = s.trig.warningsDropped :=
    rfl
@[simp] theorem putWarning_trig_warningsIgnored (i : Fin 4) (w : Option Warning) : (putWarning i w s).trig.warningsIgnored = s.trig.warningsIgnored :=
    rfl
@[simp] theorem putWarning_trig_quiet (i : Fin 4) (w : Option Warning) : (putWarning i w s).trig.quiet = s.trig.quiet :=
    rfl
@[simp] theorem putWarning_trig_quietElapsed (i : Fin 4) (w : Option Warning) : (putWarning i w s).trig.quietElapsed = s.trig.quietElapsed :=
    rfl
@[simp] theorem putWarning_trig_alertOut (i : Fin 4) (w : Option Warning) : (putWarning i w s).trig.alertOut = s.trig.alertOut :=
    rfl
@[simp] theorem putWarning_trig_tripOut (i : Fin 4) (w : Option Warning) : (putWarning i w s).trig.tripOut = s.trig.tripOut :=
    rfl
@[simp] theorem putWarning_site (i : Fin 4) (w : Option Warning) : (putWarning i w s).site = s.site := rfl
@[simp] theorem putWarning_runner (i : Fin 4) (w : Option Warning) : (putWarning i w s).runner = s.runner := rfl
@[simp] theorem putWarning_store (i : Fin 4) (w : Option Warning) : (putWarning i w s).store = s.store := rfl
@[simp] theorem putWarning_nv (i : Fin 4) (w : Option Warning) : (putWarning i w s).nv = s.nv := rfl

/-! ### sampleInput -/

@[simp] theorem sampleInput_pending (i : Fin 5) : (sampleInput i s).pending = s.pending := rfl
@[simp] theorem sampleInput_freeIndex (i : Fin 5) : (sampleInput i s).freeIndex = s.freeIndex := rfl
@[simp] theorem sampleInput_pins (i : Fin 5) : (sampleInput i s).pins = s.pins := rfl
@[simp] theorem sampleInput_phase (i : Fin 5) : (sampleInput i s).phase = s.phase := rfl
@[simp] theorem sampleInput_now (i : Fin 5) : (sampleInput i s).now = s.now := rfl
@[simp] theorem sampleInput_mgmt (i : Fin 5) : (sampleInput i s).mgmt = s.mgmt := rfl
@[simp] theorem sampleInput_link (i : Fin 5) : (sampleInput i s).link = s.link := rfl
@[simp] theorem sampleInput_router (i : Fin 5) : (sampleInput i s).router = s.router := rfl
@[simp] theorem sampleInput_channels (i : Fin 5) : (sampleInput i s).channels = s.channels := rfl
@[simp] theorem sampleInput_voter (i : Fin 5) : (sampleInput i s).voter = s.voter := rfl
@[simp] theorem sampleInput_trig_flags (i : Fin 5) : (sampleInput i s).trig.flags = s.trig.flags := rfl
@[simp] theorem sampleInput_trig_forcedLevel (i : Fin 5) : (sampleInput i s).trig.forcedLevel = s.trig.forcedLevel :=
    rfl
@[simp] theorem sampleInput_trig_requestLevel (i : Fin 5) : (sampleInput i s).trig.requestLevel = s.trig.requestLevel :=
    rfl
@[simp] theorem sampleInput_trig_cause (i : Fin 5) : (sampleInput i s).trig.cause = s.trig.cause := rfl
@[simp] theorem sampleInput_trig_remoteSevere (i : Fin 5) : (sampleInput i s).trig.remoteSevere = s.trig.remoteSevere :=
    rfl
@[simp] theorem sampleInput_trig_remoteModerate (i : Fin 5) : (sampleInput i s).trig.remoteModerate = s.trig.remoteModerate :=
    rfl
@[simp] theorem sampleInput_trig_feedStable (i : Fin 5) : (sampleInput i s).trig.feedStable = s.trig.feedStable := rfl
@[simp] theorem sampleInput_trig_feedStart (i : Fin 5) : (sampleInput i s).trig.feedStart = s.trig.feedStart := rfl
@[simp] theorem sampleInput_trig_warnings (i : Fin 5) : (sampleInput i s).trig.warnings = s.trig.warnings := rfl
@[simp] theorem sampleInput_trig_warningsDropped (i : Fin 5) : (sampleInput i s).trig.warningsDropped = s.trig.warningsDropped :=
    rfl
@[simp] theorem sampleInput_trig_warningsIgnored (i : Fin 5) : (sampleInput i s).trig.warningsIgnored = s.trig.warningsIgnored :=
    rfl
@[simp] theorem sampleInput_trig_quiet (i : Fin 5) : (sampleInput i s).trig.quiet = s.trig.quiet := rfl
@[simp] theorem sampleInput_trig_quietElapsed (i : Fin 5) : (sampleInput i s).trig.quietElapsed = s.trig.quietElapsed :=
    rfl
@[simp] theorem sampleInput_trig_alertOut (i : Fin 5) : (sampleInput i s).trig.alertOut = s.trig.alertOut := rfl
@[simp] theorem sampleInput_trig_tripOut (i : Fin 5) : (sampleInput i s).trig.tripOut = s.trig.tripOut := rfl
@[simp] theorem sampleInput_site (i : Fin 5) : (sampleInput i s).site = s.site := rfl
@[simp] theorem sampleInput_runner (i : Fin 5) : (sampleInput i s).runner = s.runner := rfl
@[simp] theorem sampleInput_store (i : Fin 5) : (sampleInput i s).store = s.store := rfl
@[simp] theorem sampleInput_nv (i : Fin 5) : (sampleInput i s).nv = s.nv := rfl

/-! ### flipInput -/

@[simp] theorem flipInput_pending (i : Fin 5) : (flipInput i s).pending = s.pending := rfl
@[simp] theorem flipInput_freeIndex (i : Fin 5) : (flipInput i s).freeIndex = s.freeIndex := rfl
@[simp] theorem flipInput_pins (i : Fin 5) : (flipInput i s).pins = s.pins := rfl
@[simp] theorem flipInput_phase (i : Fin 5) : (flipInput i s).phase = s.phase := rfl
@[simp] theorem flipInput_now (i : Fin 5) : (flipInput i s).now = s.now := rfl
@[simp] theorem flipInput_mgmt (i : Fin 5) : (flipInput i s).mgmt = s.mgmt := rfl
@[simp] theorem flipInput_link (i : Fin 5) : (flipInput i s).link = s.link := rfl
@[simp] theorem flipInput_router (i : Fin 5) : (flipInput i s).router = s.router := rfl
@[simp] theorem flipInput_channels (i : Fin 5) : (flipInput i s).channels = s.channels := rfl
@[simp] theorem flipInput_voter (i : Fin 5) : (flipInput i s).voter = s.voter := rfl
@[simp] theorem flipInput_trig_flags (i : Fin 5) : (flipInput i s).trig.flags = s.trig.flags := rfl
@[simp] theorem flipInput_trig_forcedLevel (i : Fin 5) : (flipInput i s).trig.forcedLevel = s.trig.forcedLevel := rfl
@[simp] theorem flipInput_trig_requestLevel (i : Fin 5) : (flipInput i s).trig.requestLevel = s.trig.requestLevel :=
    rfl
@[simp] theorem flipInput_trig_cause (i : Fin 5) : (flipInput i s).trig.cause = s.trig.cause := rfl
@[simp] theorem flipInput_trig_remoteSevere (i : Fin 5) : (flipInput i s).trig.remoteSevere = s.trig.remoteSevere :=
    rfl
@[simp] theorem flipInput_trig_remoteModerate (i : Fin 5) : (flipInput i s).trig.remoteModerate = s.trig.remoteModerate :=
    rfl
@[simp] theorem flipInput_trig_feedStable (i : Fin 5) : (flipInput i s).trig.feedStable = s.trig.feedStable := rfl
@[simp] theorem flipInput_trig_feedStart (i : Fin 5) : (flipInput i s).trig.feedStart = s.trig.feedStart := rfl
@[simp] theorem flipInput_trig_warnings (i : Fin 5) : (flipInput i s).trig.warnings = s.trig.warnings := rfl
@[simp] theorem flipInput_trig_warningsDropped (i : Fin 5) : (flipInput i s).trig.warningsDropped = s.trig.warningsDropped :=
    rfl
@[simp] theorem flipInput_trig_warningsIgnored (i : Fin 5) : (flipInput i s).trig.warningsIgnored = s.trig.warningsIgnored :=
    rfl
@[simp] theorem flipInput_trig_quiet (i : Fin 5) : (flipInput i s).trig.quiet = s.trig.quiet := rfl
@[simp] theorem flipInput_trig_quietElapsed (i : Fin 5) : (flipInput i s).trig.quietElapsed = s.trig.quietElapsed :=
    rfl
@[simp] theorem flipInput_trig_alertOut (i : Fin 5) : (flipInput i s).trig.alertOut = s.trig.alertOut := rfl
@[simp] theorem flipInput_trig_tripOut (i : Fin 5) : (flipInput i s).trig.tripOut = s.trig.tripOut := rfl
@[simp] theorem flipInput_site (i : Fin 5) : (flipInput i s).site = s.site := rfl
@[simp] theorem flipInput_runner (i : Fin 5) : (flipInput i s).runner = s.runner := rfl
@[simp] theorem flipInput_store (i : Fin 5) : (flipInput i s).store = s.store := rfl
@[simp] theorem flipInput_nv (i : Fin 5) : (flipInput i s).nv = s.nv := rfl

/-! ### setIsolated -/

@[simp] theorem setIsolated_pending (z : Fin 8) (b : Bool) : (setIsolated z b s).pending = s.pending := rfl
@[simp] theorem setIsolated_freeIndex (z : Fin 8) (b : Bool) : (setIsolated z b s).freeIndex = s.freeIndex := rfl
@[simp] theorem setIsolated_pins (z : Fin 8) (b : Bool) : (setIsolated z b s).pins = s.pins := rfl
@[simp] theorem setIsolated_phase (z : Fin 8) (b : Bool) : (setIsolated z b s).phase = s.phase := rfl
@[simp] theorem setIsolated_now (z : Fin 8) (b : Bool) : (setIsolated z b s).now = s.now := rfl
@[simp] theorem setIsolated_mgmt (z : Fin 8) (b : Bool) : (setIsolated z b s).mgmt = s.mgmt := rfl
@[simp] theorem setIsolated_link (z : Fin 8) (b : Bool) : (setIsolated z b s).link = s.link := rfl
@[simp] theorem setIsolated_router (z : Fin 8) (b : Bool) : (setIsolated z b s).router = s.router := rfl
@[simp] theorem setIsolated_channels (z : Fin 8) (b : Bool) : (setIsolated z b s).channels = s.channels := rfl
@[simp] theorem setIsolated_voter_members (z : Fin 8) (b : Bool) : (setIsolated z b s).voter.members = s.voter.members :=
    rfl
@[simp] theorem setIsolated_trig (z : Fin 8) (b : Bool) : (setIsolated z b s).trig = s.trig := rfl
@[simp] theorem setIsolated_site (z : Fin 8) (b : Bool) : (setIsolated z b s).site = s.site := rfl
@[simp] theorem setIsolated_runner (z : Fin 8) (b : Bool) : (setIsolated z b s).runner = s.runner := rfl
@[simp] theorem setIsolated_store (z : Fin 8) (b : Bool) : (setIsolated z b s).store = s.store := rfl
@[simp] theorem setIsolated_nv (z : Fin 8) (b : Bool) : (setIsolated z b s).nv = s.nv := rfl

/-! ### imagesFromChannels -/

@[simp] theorem imagesFromChannels_pending : (imagesFromChannels s).pending = s.pending := by rw [imagesFromChannels]
@[simp] theorem imagesFromChannels_freeIndex : (imagesFromChannels s).freeIndex = s.freeIndex :=
    by rw [imagesFromChannels]
@[simp] theorem imagesFromChannels_pins : (imagesFromChannels s).pins = s.pins := by rw [imagesFromChannels]
@[simp] theorem imagesFromChannels_phase : (imagesFromChannels s).phase = s.phase := by rw [imagesFromChannels]
@[simp] theorem imagesFromChannels_now : (imagesFromChannels s).now = s.now := by rw [imagesFromChannels]
@[simp] theorem imagesFromChannels_mgmt : (imagesFromChannels s).mgmt = s.mgmt := by rw [imagesFromChannels]
@[simp] theorem imagesFromChannels_link : (imagesFromChannels s).link = s.link := by rw [imagesFromChannels]
@[simp] theorem imagesFromChannels_router : (imagesFromChannels s).router = s.router := by rw [imagesFromChannels]
@[simp] theorem imagesFromChannels_channels : (imagesFromChannels s).channels = s.channels :=
    by rw [imagesFromChannels]
@[simp] theorem imagesFromChannels_voter_zones : (imagesFromChannels s).voter.zones = s.voter.zones :=
    by rw [imagesFromChannels]
@[simp] theorem imagesFromChannels_trig : (imagesFromChannels s).trig = s.trig := by rw [imagesFromChannels]
@[simp] theorem imagesFromChannels_site : (imagesFromChannels s).site = s.site := by rw [imagesFromChannels]
@[simp] theorem imagesFromChannels_runner : (imagesFromChannels s).runner = s.runner := by rw [imagesFromChannels]
@[simp] theorem imagesFromChannels_store : (imagesFromChannels s).store = s.store := by rw [imagesFromChannels]
@[simp] theorem imagesFromChannels_nv : (imagesFromChannels s).nv = s.nv := by rw [imagesFromChannels]

/-! ### clearPeaks -/

@[simp] theorem clearPeaks_pending : (clearPeaks s).pending = s.pending := rfl
@[simp] theorem clearPeaks_freeIndex : (clearPeaks s).freeIndex = s.freeIndex := rfl
@[simp] theorem clearPeaks_pins : (clearPeaks s).pins = s.pins := rfl
@[simp] theorem clearPeaks_phase : (clearPeaks s).phase = s.phase := rfl
@[simp] theorem clearPeaks_now : (clearPeaks s).now = s.now := rfl
@[simp] theorem clearPeaks_mgmt : (clearPeaks s).mgmt = s.mgmt := rfl
@[simp] theorem clearPeaks_link : (clearPeaks s).link = s.link := rfl
@[simp] theorem clearPeaks_router : (clearPeaks s).router = s.router := rfl
@[simp] theorem clearPeaks_voter : (clearPeaks s).voter = s.voter := rfl
@[simp] theorem clearPeaks_trig : (clearPeaks s).trig = s.trig := rfl
@[simp] theorem clearPeaks_site : (clearPeaks s).site = s.site := rfl
@[simp] theorem clearPeaks_runner : (clearPeaks s).runner = s.runner := rfl
@[simp] theorem clearPeaks_store : (clearPeaks s).store = s.store := rfl
@[simp] theorem clearPeaks_nv : (clearPeaks s).nv = s.nv := rfl

/-! ### setStep -/

@[simp] theorem setStep_pending (i : Fin 64) (r : Step) : (setStep i r s).pending = s.pending := rfl
@[simp] theorem setStep_freeIndex (i : Fin 64) (r : Step) : (setStep i r s).freeIndex = s.freeIndex := rfl
@[simp] theorem setStep_pins (i : Fin 64) (r : Step) : (setStep i r s).pins = s.pins := rfl
@[simp] theorem setStep_phase (i : Fin 64) (r : Step) : (setStep i r s).phase = s.phase := rfl
@[simp] theorem setStep_now (i : Fin 64) (r : Step) : (setStep i r s).now = s.now := rfl
@[simp] theorem setStep_mgmt (i : Fin 64) (r : Step) : (setStep i r s).mgmt = s.mgmt := rfl
@[simp] theorem setStep_link (i : Fin 64) (r : Step) : (setStep i r s).link = s.link := rfl
@[simp] theorem setStep_router (i : Fin 64) (r : Step) : (setStep i r s).router = s.router := rfl
@[simp] theorem setStep_channels (i : Fin 64) (r : Step) : (setStep i r s).channels = s.channels := rfl
@[simp] theorem setStep_voter (i : Fin 64) (r : Step) : (setStep i r s).voter = s.voter := rfl
@[simp] theorem setStep_trig (i : Fin 64) (r : Step) : (setStep i r s).trig = s.trig := rfl
@[simp] theorem setStep_site (i : Fin 64) (r : Step) : (setStep i r s).site = s.site := rfl
@[simp] theorem setStep_runner_run (i : Fin 64) (r : Step) : (setStep i r s).runner.run = s.runner.run := rfl
@[simp] theorem setStep_runner_queued (i : Fin 64) (r : Step) : (setStep i r s).runner.queued = s.runner.queued := rfl
@[simp] theorem setStep_runner_outstanding (i : Fin 64) (r : Step) : (setStep i r s).runner.outstanding = s.runner.outstanding :=
    rfl
@[simp] theorem setStep_runner_injection (i : Fin 64) (r : Step) : (setStep i r s).runner.injection = s.runner.injection :=
    rfl
@[simp] theorem setStep_runner_tagCounter (i : Fin 64) (r : Step) : (setStep i r s).runner.tagCounter = s.runner.tagCounter :=
    rfl
@[simp] theorem setStep_runner_commandsSent (i : Fin 64) (r : Step) : (setStep i r s).runner.commandsSent = s.runner.commandsSent :=
    rfl
@[simp] theorem setStep_runner_reissues (i : Fin 64) (r : Step) : (setStep i r s).runner.reissues = s.runner.reissues :=
    rfl
@[simp] theorem setStep_runner_strays (i : Fin 64) (r : Step) : (setStep i r s).runner.strays = s.runner.strays := rfl
@[simp] theorem setStep_store (i : Fin 64) (r : Step) : (setStep i r s).store = s.store := rfl
@[simp] theorem setStep_nv (i : Fin 64) (r : Step) : (setStep i r s).nv = s.nv := rfl

/-! ### endRun -/

@[simp] theorem endRun_pending (st : RunStatus) : (endRun st s).pending = s.pending := rfl
@[simp] theorem endRun_freeIndex (st : RunStatus) : (endRun st s).freeIndex = s.freeIndex := rfl
@[simp] theorem endRun_pins (st : RunStatus) : (endRun st s).pins = s.pins := rfl
@[simp] theorem endRun_phase (st : RunStatus) : (endRun st s).phase = s.phase := rfl
@[simp] theorem endRun_now (st : RunStatus) : (endRun st s).now = s.now := rfl
@[simp] theorem endRun_mgmt (st : RunStatus) : (endRun st s).mgmt = s.mgmt := rfl
@[simp] theorem endRun_link (st : RunStatus) : (endRun st s).link = s.link := rfl
@[simp] theorem endRun_router (st : RunStatus) : (endRun st s).router = s.router := rfl
@[simp] theorem endRun_channels (st : RunStatus) : (endRun st s).channels = s.channels := rfl
@[simp] theorem endRun_voter (st : RunStatus) : (endRun st s).voter = s.voter := rfl
@[simp] theorem endRun_trig (st : RunStatus) : (endRun st s).trig = s.trig := rfl
@[simp] theorem endRun_site (st : RunStatus) : (endRun st s).site = s.site := rfl
@[simp] theorem endRun_runner_steps (st : RunStatus) : (endRun st s).runner.steps = s.runner.steps := rfl
@[simp] theorem endRun_runner_queued (st : RunStatus) : (endRun st s).runner.queued = s.runner.queued := rfl
@[simp] theorem endRun_runner_outstanding (st : RunStatus) : (endRun st s).runner.outstanding = s.runner.outstanding :=
    rfl
@[simp] theorem endRun_runner_injection (st : RunStatus) : (endRun st s).runner.injection = s.runner.injection := rfl
@[simp] theorem endRun_runner_tagCounter (st : RunStatus) : (endRun st s).runner.tagCounter = s.runner.tagCounter :=
    rfl
@[simp] theorem endRun_runner_commandsSent (st : RunStatus) : (endRun st s).runner.commandsSent = s.runner.commandsSent :=
    rfl
@[simp] theorem endRun_runner_reissues (st : RunStatus) : (endRun st s).runner.reissues = s.runner.reissues := rfl
@[simp] theorem endRun_runner_strays (st : RunStatus) : (endRun st s).runner.strays = s.runner.strays := rfl
@[simp] theorem endRun_store (st : RunStatus) : (endRun st s).store = s.store := rfl
@[simp] theorem endRun_nv (st : RunStatus) : (endRun st s).nv = s.nv := rfl

/-! ### stopSteps -/

@[simp] theorem stopSteps_pending : (stopSteps s).pending = s.pending := rfl
@[simp] theorem stopSteps_freeIndex : (stopSteps s).freeIndex = s.freeIndex := rfl
@[simp] theorem stopSteps_pins : (stopSteps s).pins = s.pins := rfl
@[simp] theorem stopSteps_phase : (stopSteps s).phase = s.phase := rfl
@[simp] theorem stopSteps_now : (stopSteps s).now = s.now := rfl
@[simp] theorem stopSteps_mgmt : (stopSteps s).mgmt = s.mgmt := rfl
@[simp] theorem stopSteps_link : (stopSteps s).link = s.link := rfl
@[simp] theorem stopSteps_router : (stopSteps s).router = s.router := rfl
@[simp] theorem stopSteps_channels : (stopSteps s).channels = s.channels := rfl
@[simp] theorem stopSteps_voter : (stopSteps s).voter = s.voter := rfl
@[simp] theorem stopSteps_trig : (stopSteps s).trig = s.trig := rfl
@[simp] theorem stopSteps_site : (stopSteps s).site = s.site := rfl
@[simp] theorem stopSteps_runner_run : (stopSteps s).runner.run = s.runner.run := rfl
@[simp] theorem stopSteps_runner_outstanding : (stopSteps s).runner.outstanding = s.runner.outstanding := rfl
@[simp] theorem stopSteps_runner_injection : (stopSteps s).runner.injection = s.runner.injection := rfl
@[simp] theorem stopSteps_runner_tagCounter : (stopSteps s).runner.tagCounter = s.runner.tagCounter := rfl
@[simp] theorem stopSteps_runner_commandsSent : (stopSteps s).runner.commandsSent = s.runner.commandsSent := rfl
@[simp] theorem stopSteps_runner_reissues : (stopSteps s).runner.reissues = s.runner.reissues := rfl
@[simp] theorem stopSteps_runner_strays : (stopSteps s).runner.strays = s.runner.strays := rfl
@[simp] theorem stopSteps_store : (stopSteps s).store = s.store := rfl
@[simp] theorem stopSteps_nv : (stopSteps s).nv = s.nv := rfl

/-! ### keepWaiting -/

@[simp] theorem keepWaiting_pending (w : List (Fin 64)) : (keepWaiting w s).pending = s.pending := rfl
@[simp] theorem keepWaiting_freeIndex (w : List (Fin 64)) : (keepWaiting w s).freeIndex = s.freeIndex := rfl
@[simp] theorem keepWaiting_pins (w : List (Fin 64)) : (keepWaiting w s).pins = s.pins := rfl
@[simp] theorem keepWaiting_phase (w : List (Fin 64)) : (keepWaiting w s).phase = s.phase := rfl
@[simp] theorem keepWaiting_now (w : List (Fin 64)) : (keepWaiting w s).now = s.now := rfl
@[simp] theorem keepWaiting_mgmt (w : List (Fin 64)) : (keepWaiting w s).mgmt = s.mgmt := rfl
@[simp] theorem keepWaiting_link (w : List (Fin 64)) : (keepWaiting w s).link = s.link := rfl
@[simp] theorem keepWaiting_router (w : List (Fin 64)) : (keepWaiting w s).router = s.router := rfl
@[simp] theorem keepWaiting_channels (w : List (Fin 64)) : (keepWaiting w s).channels = s.channels := rfl
@[simp] theorem keepWaiting_voter (w : List (Fin 64)) : (keepWaiting w s).voter = s.voter := rfl
@[simp] theorem keepWaiting_trig (w : List (Fin 64)) : (keepWaiting w s).trig = s.trig := rfl
@[simp] theorem keepWaiting_site (w : List (Fin 64)) : (keepWaiting w s).site = s.site := rfl
@[simp] theorem keepWaiting_runner_run (w : List (Fin 64)) : (keepWaiting w s).runner.run = s.runner.run := rfl
@[simp] theorem keepWaiting_runner_steps (w : List (Fin 64)) : (keepWaiting w s).runner.steps = s.runner.steps := rfl
@[simp] theorem keepWaiting_runner_outstanding (w : List (Fin 64)) : (keepWaiting w s).runner.outstanding = s.runner.outstanding :=
    rfl
@[simp] theorem keepWaiting_runner_injection (w : List (Fin 64)) : (keepWaiting w s).runner.injection = s.runner.injection :=
    rfl
@[simp] theorem keepWaiting_runner_tagCounter (w : List (Fin 64)) : (keepWaiting w s).runner.tagCounter = s.runner.tagCounter :=
    rfl
@[simp] theorem keepWaiting_runner_commandsSent (w : List (Fin 64)) : (keepWaiting w s).runner.commandsSent = s.runner.commandsSent :=
    rfl
@[simp] theorem keepWaiting_runner_reissues (w : List (Fin 64)) : (keepWaiting w s).runner.reissues = s.runner.reissues :=
    rfl
@[simp] theorem keepWaiting_runner_strays (w : List (Fin 64)) : (keepWaiting w s).runner.strays = s.runner.strays :=
    rfl
@[simp] theorem keepWaiting_store (w : List (Fin 64)) : (keepWaiting w s).store = s.store := rfl
@[simp] theorem keepWaiting_nv (w : List (Fin 64)) : (keepWaiting w s).nv = s.nv := rfl

/-! ### retireAll -/

@[simp] theorem retireAll_pending : (retireAll s).pending = s.pending := rfl
@[simp] theorem retireAll_freeIndex : (retireAll s).freeIndex = s.freeIndex := rfl
@[simp] theorem retireAll_pins : (retireAll s).pins = s.pins := rfl
@[simp] theorem retireAll_phase : (retireAll s).phase = s.phase := rfl
@[simp] theorem retireAll_now : (retireAll s).now = s.now := rfl
@[simp] theorem retireAll_mgmt : (retireAll s).mgmt = s.mgmt := rfl
@[simp] theorem retireAll_link : (retireAll s).link = s.link := rfl
@[simp] theorem retireAll_router : (retireAll s).router = s.router := rfl
@[simp] theorem retireAll_channels : (retireAll s).channels = s.channels := rfl
@[simp] theorem retireAll_voter : (retireAll s).voter = s.voter := rfl
@[simp] theorem retireAll_trig : (retireAll s).trig = s.trig := rfl
@[simp] theorem retireAll_site : (retireAll s).site = s.site := rfl
@[simp] theorem retireAll_runner_run : (retireAll s).runner.run = s.runner.run := rfl
@[simp] theorem retireAll_runner_steps : (retireAll s).runner.steps = s.runner.steps := rfl
@[simp] theorem retireAll_runner_queued : (retireAll s).runner.queued = s.runner.queued := rfl
@[simp] theorem retireAll_runner_tagCounter : (retireAll s).runner.tagCounter = s.runner.tagCounter := rfl
@[simp] theorem retireAll_runner_commandsSent : (retireAll s).runner.commandsSent = s.runner.commandsSent := rfl
@[simp] theorem retireAll_runner_reissues : (retireAll s).runner.reissues = s.runner.reissues := rfl
@[simp] theorem retireAll_runner_strays : (retireAll s).runner.strays = s.runner.strays := rfl
@[simp] theorem retireAll_store : (retireAll s).store = s.store := rfl
@[simp] theorem retireAll_nv : (retireAll s).nv = s.nv := rfl

/-! ### pSends -/

@[simp] theorem pSends_pending (f : Frame) (k : PSource) : (pSends f k s).pending = s.pending := rfl
@[simp] theorem pSends_freeIndex (f : Frame) (k : PSource) : (pSends f k s).freeIndex = s.freeIndex := rfl
@[simp] theorem pSends_pins (f : Frame) (k : PSource) : (pSends f k s).pins = s.pins := rfl
@[simp] theorem pSends_phase (f : Frame) (k : PSource) : (pSends f k s).phase = s.phase := rfl
@[simp] theorem pSends_now (f : Frame) (k : PSource) : (pSends f k s).now = s.now := rfl
@[simp] theorem pSends_mgmt (f : Frame) (k : PSource) : (pSends f k s).mgmt = s.mgmt := rfl
@[simp] theorem pSends_link_sRx (f : Frame) (k : PSource) : (pSends f k s).link.sRx = s.link.sRx := rfl
@[simp] theorem pSends_link_pRx (f : Frame) (k : PSource) : (pSends f k s).link.pRx = s.link.pRx := rfl
@[simp] theorem pSends_link_sTx (f : Frame) (k : PSource) : (pSends f k s).link.sTx = s.link.sTx := rfl
@[simp] theorem pSends_link_sCount (f : Frame) (k : PSource) : (pSends f k s).link.sCount = s.link.sCount := rfl
@[simp] theorem pSends_link_pCount (f : Frame) (k : PSource) : (pSends f k s).link.pCount = s.link.pCount := rfl
@[simp] theorem pSends_link_sReset (f : Frame) (k : PSource) : (pSends f k s).link.sReset = s.link.sReset := rfl
@[simp] theorem pSends_link_pReset (f : Frame) (k : PSource) : (pSends f k s).link.pReset = s.link.pReset := rfl
@[simp] theorem pSends_router (f : Frame) (k : PSource) : (pSends f k s).router = s.router := rfl
@[simp] theorem pSends_channels (f : Frame) (k : PSource) : (pSends f k s).channels = s.channels := rfl
@[simp] theorem pSends_voter (f : Frame) (k : PSource) : (pSends f k s).voter = s.voter := rfl
@[simp] theorem pSends_trig (f : Frame) (k : PSource) : (pSends f k s).trig = s.trig := rfl
@[simp] theorem pSends_site (f : Frame) (k : PSource) : (pSends f k s).site = s.site := rfl
@[simp] theorem pSends_runner (f : Frame) (k : PSource) : (pSends f k s).runner = s.runner := rfl
@[simp] theorem pSends_store (f : Frame) (k : PSource) : (pSends f k s).store = s.store := rfl
@[simp] theorem pSends_nv (f : Frame) (k : PSource) : (pSends f k s).nv = s.nv := rfl

/-! ### sSends -/

@[simp] theorem sSends_pending (f : Frame) (m : ResponseMark) : (sSends f m s).pending = s.pending := rfl
@[simp] theorem sSends_freeIndex (f : Frame) (m : ResponseMark) : (sSends f m s).freeIndex = s.freeIndex := rfl
@[simp] theorem sSends_pins (f : Frame) (m : ResponseMark) : (sSends f m s).pins = s.pins := rfl
@[simp] theorem sSends_phase (f : Frame) (m : ResponseMark) : (sSends f m s).phase = s.phase := rfl
@[simp] theorem sSends_now (f : Frame) (m : ResponseMark) : (sSends f m s).now = s.now := rfl
@[simp] theorem sSends_mgmt (f : Frame) (m : ResponseMark) : (sSends f m s).mgmt = s.mgmt := rfl
@[simp] theorem sSends_link_sRx (f : Frame) (m : ResponseMark) : (sSends f m s).link.sRx = s.link.sRx := rfl
@[simp] theorem sSends_link_pRx (f : Frame) (m : ResponseMark) : (sSends f m s).link.pRx = s.link.pRx := rfl
@[simp] theorem sSends_link_pTx (f : Frame) (m : ResponseMark) : (sSends f m s).link.pTx = s.link.pTx := rfl
@[simp] theorem sSends_link_sCount (f : Frame) (m : ResponseMark) : (sSends f m s).link.sCount = s.link.sCount := rfl
@[simp] theorem sSends_link_pCount (f : Frame) (m : ResponseMark) : (sSends f m s).link.pCount = s.link.pCount := rfl
@[simp] theorem sSends_link_sReset (f : Frame) (m : ResponseMark) : (sSends f m s).link.sReset = s.link.sReset := rfl
@[simp] theorem sSends_link_pReset (f : Frame) (m : ResponseMark) : (sSends f m s).link.pReset = s.link.pReset := rfl
@[simp] theorem sSends_router (f : Frame) (m : ResponseMark) : (sSends f m s).router = s.router := rfl
@[simp] theorem sSends_channels (f : Frame) (m : ResponseMark) : (sSends f m s).channels = s.channels := rfl
@[simp] theorem sSends_voter (f : Frame) (m : ResponseMark) : (sSends f m s).voter = s.voter := rfl
@[simp] theorem sSends_trig (f : Frame) (m : ResponseMark) : (sSends f m s).trig = s.trig := rfl
@[simp] theorem sSends_site (f : Frame) (m : ResponseMark) : (sSends f m s).site = s.site := rfl
@[simp] theorem sSends_runner (f : Frame) (m : ResponseMark) : (sSends f m s).runner = s.runner := rfl
@[simp] theorem sSends_store (f : Frame) (m : ResponseMark) : (sSends f m s).store = s.store := rfl
@[simp] theorem sSends_nv (f : Frame) (m : ResponseMark) : (sSends f m s).nv = s.nv := rfl

end Sys2Proof.Machine
end

