-- ==== Sys2Proof/Laws/Frame.lean ====
section
/-! SUPPORT. What the shared operations leave as it was. `State.noRunner` blanks the executor's state and the free order, `State.noRecords` the trip records, the write queue and the site controller's items, and `State.fixed` (Safety.lean) all that a trigger, a trip, a plan's start or a settling can change. An operation that keeps one of these keeps every field it does not blank. -/

namespace Sys2Proof.Machine

/-! ### What is blanked -/

/-- `s` but for the executor's state and the counter of the free values it draws. -/
def State.noRunner (s : State) : State := { s with runner := {}, freeIndex := 0 }

/-- `s` but for the site controller's state, the ring image and the write queue. -/
def State.noRecords (s : State) : State :=
  { s with
    site := {}
    store := { s.store with
      ring := .replicate 16 .blank, writeSeq := 0, recordWrites := [], otherWrites := [], writing := none
      suspensions := 0 } }

theorem fixed_of_noRunner {s t : State} (h : t.noRunner = s.noRunner) : t.fixed = s.fixed :=
  (congrArg State.fixed h : t.noRunner.fixed = s.noRunner.fixed)

theorem fixed_of_noRecords {s t : State} (h : t.noRecords = s.noRecords) : t.fixed = s.fixed :=
  (congrArg State.fixed h : t.noRecords.fixed = s.noRecords.fixed)

/-- A fold of steps that each keep a view keeps the view. -/
theorem foldl_keeps {α β γ : Type} (view : β → γ) (f : β → α → β) (h : ∀ b a, view (f b a) = view b) (l : List α)
    (b : β) : view (l.foldl f b) = view b := by
  induction l generalizing b with
  | nil => rfl
  | cons a l ih => rw [List.foldl_cons, ih, h]

/-! ### The fields that `fixed` keeps -/

section Fields
variable {s t : State} (h : t.fixed = s.fixed)
include h

theorem pending_of_fixed : t.pending = s.pending := (congrArg State.pending h : _)
theorem pins_of_fixed : t.pins = s.pins := (congrArg State.pins h : _)
theorem phase_of_fixed : t.phase = s.phase := (congrArg State.phase h : _)
theorem now_of_fixed : t.now = s.now := (congrArg State.now h : _)
theorem mgmt_of_fixed : t.mgmt = s.mgmt := (congrArg State.mgmt h : _)
theorem link_of_fixed : t.link = s.link := (congrArg State.link h : _)
theorem channels_of_fixed : t.channels = s.channels := (congrArg State.channels h : _)
theorem voter_of_fixed : t.voter = s.voter := (congrArg State.voter h : _)
theorem nv_of_fixed : t.nv = s.nv := (congrArg State.nv h : _)
theorem nodes_of_fixed : t.router.nodes = s.router.nodes := congrArg (fun u => u.router.nodes) h
theorem sToP_of_fixed : t.router.sToP = s.router.sToP := congrArg (fun u => u.router.sToP) h
theorem pToS_of_fixed : t.router.pToS = s.router.pToS := congrArg (fun u => u.router.pToS) h
theorem unknownSources_of_fixed : t.router.count.unknownSources = s.router.count.unknownSources :=
  congrArg (fun u => u.router.count.unknownSources) h
theorem work_of_fixed : t.store.work = s.store.work := congrArg (fun u => u.store.work) h
theorem workValid_of_fixed : t.store.workValid = s.store.workValid := congrArg (fun u => u.store.workValid) h
theorem shadow_of_fixed : t.store.shadow = s.store.shadow := congrArg (fun u => u.store.shadow) h
theorem shadowValid_of_fixed : t.store.shadowValid = s.store.shadowValid :=
  congrArg (fun u => u.store.shadowValid) h
theorem cond_of_fixed : t.store.cond = s.store.cond := congrArg (fun u => u.store.cond) h
theorem commit_of_fixed : t.store.commit = s.store.commit := congrArg (fun u => u.store.commit) h
theorem awaiting_of_fixed : t.store.awaiting = s.store.awaiting := congrArg (fun u => u.store.awaiting) h
theorem activeProtection_of_fixed : t.store.activeProtection = s.store.activeProtection :=
  congrArg (fun u => u.store.activeProtection) h
theorem inputs_of_fixed : t.trig.inputs = s.trig.inputs := congrArg (fun u => u.trig.inputs) h
theorem warnings_of_fixed : t.trig.warnings = s.trig.warnings := congrArg (fun u => u.trig.warnings) h
theorem forcedLevel_of_fixed : t.trig.forcedLevel = s.trig.forcedLevel := congrArg (fun u => u.trig.forcedLevel) h
theorem feedStable_of_fixed : t.trig.feedStable = s.trig.feedStable := congrArg (fun u => u.trig.feedStable) h
theorem feedStart_of_fixed : t.trig.feedStart = s.trig.feedStart := congrArg (fun u => u.trig.feedStart) h
theorem remoteSevere_of_fixed : t.trig.remoteSevere = s.trig.remoteSevere := congrArg (fun u => u.trig.remoteSevere) h
theorem remoteModerate_of_fixed : t.trig.remoteModerate = s.trig.remoteModerate :=
  congrArg (fun u => u.trig.remoteModerate) h
theorem warningsIgnored_of_fixed : t.trig.warningsIgnored = s.trig.warningsIgnored :=
  congrArg (fun u => u.trig.warningsIgnored) h
theorem warningsDropped_of_fixed : t.trig.warningsDropped = s.trig.warningsDropped :=
  congrArg (fun u => u.trig.warningsDropped) h
theorem tables_of_fixed : t.tables = s.tables := congrArg Blocks.site (work_of_fixed h)

end Fields

/-! ### The executor changes nothing but its own state (Runner.lean) -/

@[simp] theorem noRunner_setStep (i : Fin 64) (r : Step) (s : State) : (setStep i r s).noRunner = s.noRunner := rfl

@[simp] theorem noRunner_moveStep (i : Fin 64) (st : Lifecycle) (t : Option Nat) (s : State) :
    (moveStep i st t s).noRunner = s.noRunner := rfl

@[simp] theorem noRunner_dropEntry (i : Fin 64) (s : State) : (dropEntry i s).noRunner = s.noRunner := by
  unfold dropEntry; split <;> rfl

@[simp] theorem noRunner_injectFrame (tag : Byte) (a : Nat) (x : Action) (s : State) :
    (injectFrame tag a x s).noRunner = s.noRunner := rfl

@[simp] theorem noRunner_issueStep (i : Fin 64) (s : State) : (issueStep i s).noRunner = s.noRunner := rfl

@[simp] theorem noRunner_reissueEntry (e : Entry) (s : State) : (reissueEntry e s).noRunner = s.noRunner := rfl

@[simp] theorem noRunner_retireAll (s : State) : (retireAll s).noRunner = s.noRunner := rfl

@[simp] theorem noRunner_stopSteps (s : State) : (stopSteps s).noRunner = s.noRunner := rfl

@[simp] theorem noRunner_endRun (st : RunStatus) (s : State) : (endRun st s).noRunner = s.noRunner := rfl

@[simp] theorem noRunner_runChecks (i : Fin 64) (s : State) : (runChecks i s).noRunner = s.noRunner := rfl

@[simp] theorem noRunner_enterDwell (i : Fin 64) (s : State) : (enterDwell i s).noRunner = s.noRunner := by
  unfold enterDwell; dsimp only; split <;> rfl

@[simp] theorem noRunner_examine (i : Fin 64) (s : State) : (examine i s).noRunner = s.noRunner := by
  unfold examine; dsimp only; split
  · rfl
  · split
    · exact noRunner_enterDwell i s
    · rfl

@[simp] theorem noRunner_follow (just : List (Fin 64)) (s : State) : (follow just s).noRunner = s.noRunner := by
  refine foldl_keeps (fun a : State × List (Fin 64) => a.1.noRunner) followAt (fun a i => ?_) _ (s, just)
  unfold followAt; dsimp only; split
  · exact noRunner_examine i a.1
  · rfl

@[simp] theorem noRunner_keepWaiting (w : List (Fin 64)) (s : State) : (keepWaiting w s).noRunner = s.noRunner := rfl

@[simp] theorem noRunner_drawSlot (s : State) : (drawSlot s).2.noRunner = s.noRunner := rfl

/-- All that the choice of a step for a free slot can do: the step is one that waits, and the counter of the free values
may advance (R103; log 41). -/
theorem chooseQueued_cases {w : List (Fin 64)} {s t : State} {i : Fin 64} (h : chooseQueued w s = some (i, t)) :
    i ∈ w ∧ (t = s ∨ t = (drawSlot s).2) := by
  have low_mem : ∀ j, lowest (fun _ => true) w = some j → j ∈ w := fun j hj => by
    simpa using List.find?_some hj
  unfold chooseQueued at h; split at h
  · next oldest rest low hl =>
    split at h
    · cases h; exact ⟨low_mem _ hl, .inl rfl⟩
    · dsimp only at h; split at h <;> cases h
      · exact ⟨low_mem _ hl, .inr rfl⟩
      · exact ⟨List.mem_cons_self, .inr rfl⟩
  · cases h

@[simp] theorem noRunner_grantTo (n : Nat) (w : List (Fin 64)) (s : State) : (grantTo n w s).noRunner = s.noRunner := by
  induction n generalizing w s with
  | zero => rfl
  | succ n ih =>
    unfold grantTo; split
    · split
      · next i t h =>
        rw [ih, noRunner_issueStep]
        rcases (chooseQueued_cases h).2 with rfl | rfl
        · rfl
        · exact noRunner_drawSlot s
      · rfl
    · rfl

@[simp] theorem noRunner_grantSlots (s : State) : (grantSlots s).noRunner = s.noRunner := noRunner_grantTo _ _ s

@[simp] theorem noRunner_settle (just : List (Fin 64)) (s : State) : (settle just s).1.noRunner = s.noRunner := by
  unfold settle; split
  · split
    · simp
    · dsimp only; split <;> simp
  · rfl

@[simp] theorem noRunner_abandonRun (s : State) : (abandonRun s).noRunner = s.noRunner := by
  unfold abandonRun; split <;> simp

@[simp] theorem noRunner_setUpRun (p : PlanId) (s : State) : (setUpRun p s).noRunner = s.noRunner := rfl

@[simp] theorem noRunner_startPlan (p : PlanId) (s : State) : (startPlan p s).1.noRunner = s.noRunner := by
  simp [startPlan]

@[simp] theorem noRunner_failStep (i : Fin 64) (why : FailReason) (s : State) :
    (failStep i why s).noRunner = s.noRunner :=
  (rfl : (failStep i why s).noRunner = (dropEntry i s).noRunner).trans (noRunner_dropEntry i s)

@[simp] theorem noRunner_completeStep (i : Fin 64) (s : State) : (completeStep i s).1.noRunner = s.noRunner := by
  unfold completeStep; dsimp only; split <;> simp

@[simp] theorem noRunner_awaitStep (i : Fin 64) (s : State) : (awaitStep i s).noRunner = s.noRunner := by
  simp [awaitStep]

@[simp] theorem noRunner_retryOrFail (e : Entry) (why : FailReason) (s : State) :
    (retryOrFail e why s).1.noRunner = s.noRunner := by
  unfold retryOrFail; split <;> simp

@[simp] theorem noRunner_matchedReply (e : Entry) (st : NodeState) (result : Byte) (s : State) :
    (matchedReply e st result s).1.noRunner = s.noRunner := by
  unfold matchedReply; dsimp only; repeat' split
  all_goals simp

@[simp] theorem noRunner_reportToStep (st : NodeState) (i : Fin 64) (s : State) :
    (reportToStep st i s).1.noRunner = s.noRunner := by
  unfold reportToStep; dsimp only; repeat' split
  all_goals simp

@[simp] theorem noRunner_stateReport (node : Nat) (st : NodeState) (but : Option (Fin 64)) (s : State)
    (just : List (Fin 64)) : (stateReport node st but s just).1.noRunner = s.noRunner := by
  refine foldl_keeps (fun a : State × List (Fin 64) => a.1.noRunner) _ (fun a i => ?_) _ (s, just)
  unfold reportAt; dsimp only; split <;> simp

@[simp] theorem noRunner_takeReply (src tag result : Byte) (st : NodeState) (s : State) :
    (takeReply src tag result st s).1.noRunner = s.noRunner := by
  have stray : ({ s with runner.strays := bump s.runner.strays } : State).noRunner = s.noRunner := rfl
  unfold takeReply; dsimp only
  cases s.matchOf src tag <;> cases (s.nodeCfg src.toNat).present <;> simp [stray]

@[simp] theorem noRunner_takeReport (src : Byte) (st : NodeState) (s : State) :
    (takeReport src st s).1.noRunner = s.noRunner := by
  simp [takeReport]

@[simp] theorem noRunner_takeFeedRise (s : State) : (takeFeedRise s).1.noRunner = s.noRunner := by
  unfold takeFeedRise; dsimp only; rw [noRunner_settle]
  refine foldl_keeps (fun a : State × List (Fin 64) => a.1.noRunner) releaseAt (fun a i => ?_) _ (s, [])
  unfold releaseAt; dsimp only; repeat' split
  all_goals simp

@[simp] theorem noRunner_commandSent (tag : Byte) (s : State) : (commandSent tag s).noRunner = s.noRunner := rfl

@[simp] theorem noRunner_dwellExpired (i : Fin 64) (s : State) : (dwellExpired i s).1.noRunner = s.noRunner := by
  simp [dwellExpired]

@[simp] theorem noRunner_deadlineExpired (i : Fin 64) (s : State) :
    (deadlineExpired i s).1.noRunner = s.noRunner := by
  unfold deadlineExpired; split <;> simp

@[simp] theorem noRunner_readyExpired (i : Fin 64) (s : State) : (readyExpired i s).1.noRunner = s.noRunner := by
  simp [readyExpired]

@[simp] theorem noRunner_settleExpired (i : Fin 64) (s : State) : (settleExpired i s).1.noRunner = s.noRunner := by
  simp [settleExpired]

/-! ### The trip records and the write queue (Records.lean) -/

@[simp] theorem noRecords_requestWrite (w : RecordWrite) (s : State) :
    (requestWrite w s).noRecords = s.noRecords := by
  have mem : ∃ x rest, mergeWrite w s.store.recordWrites = x :: rest := by
    unfold mergeWrite; cases s.store.recordWrites.filter fun x => x.slot != w.slot <;> simp
  obtain ⟨x, rest, hx⟩ := mem
  unfold requestWrite; dsimp only; rw [hx]; split <;> rfl

@[simp] theorem noRecords_changeRecord (i : Fin 16) (r : TripRecord) (s : State) :
    (changeRecord i r s).noRecords = s.noRecords := by
  unfold changeRecord; dsimp only; rw [noRecords_requestWrite]; rfl

@[simp] theorem noRecords_updateRecord (f : TripRecord → TripRecord) (s : State) :
    (updateRecord f s).noRecords = s.noRecords := by
  unfold updateRecord; split <;> simp

@[simp] theorem noRecords_openRecord (level : Nat) (s : State) : (openRecord level s).noRecords = s.noRecords := by
  unfold openRecord; dsimp only; rw [noRecords_changeRecord]; rfl

@[simp] theorem noRecords_recoverSlot (s : State) : (recoverSlot s).noRecords = s.noRecords := by
  unfold recoverSlot; split <;> simp

/-! ### The site state controller and the trigger unit (Site.lean, Flags.lean) -/

@[simp] theorem fixed_formAlert (s : State) : (formAlert s).fixed = s.fixed := rfl

@[simp] theorem fixed_raiseNotice (o : Option TripRecord) (s : State) : (raiseNotice o s).fixed = s.fixed := rfl

@[simp] theorem fixed_setSite (st : SiteState) (l : Nat) (h : Option HoldReason) (s : State) :
    (setSite st l h s).fixed = s.fixed := rfl

@[simp] theorem fixed_updateRecord (f : TripRecord → TripRecord) (s : State) :
    (updateRecord f s).fixed = s.fixed := fixed_of_noRecords (by simp)

@[simp] theorem fixed_openRecord (level : Nat) (s : State) : (openRecord level s).fixed = s.fixed :=
  fixed_of_noRecords (by simp)

@[simp] theorem fixed_recoverSlot (s : State) : (recoverSlot s).fixed = s.fixed := fixed_of_noRecords (by simp)

@[simp] theorem fixed_startPlan (p : PlanId) (s : State) : (startPlan p s).1.fixed = s.fixed :=
  fixed_of_noRunner (by simp)

@[simp] theorem fixed_abandonRun (s : State) : (abandonRun s).fixed = s.fixed := fixed_of_noRunner (by simp)

@[simp] theorem fixed_shutdownEnded (r : Report) (s : State) : (shutdownEnded r s).fixed = s.fixed := by
  simp [shutdownEnded]

@[simp] theorem fixed_markTripPending (level : Nat) (s : State) : (markTripPending level s).fixed = s.fixed := by
  unfold markTripPending; split <;> rfl

@[simp] theorem fixed_enterShutting (level : Nat) (s : State) : (enterShutting level s).fixed = s.fixed := by
  unfold enterShutting; dsimp only; split <;> simp

@[simp] theorem fixed_tripSite (level : Nat) (s : State) : (tripSite level s).fixed = s.fixed := by simp [tripSite]

@[simp] theorem fixed_takeRise (level : Nat) (s : State) : (takeRise level s).fixed = s.fixed := by
  unfold takeRise; repeat' split
  all_goals simp [escalate, fastFromHold, escalateRecord, abortByRise, closeRecord]

@[simp] theorem fixed_takeRequest (level : Nat) (cause : Option (Fin 24)) (s : State) :
    (takeRequest level cause s).fixed = s.fixed := by
  unfold takeRequest; dsimp only; split
  · rw [fixed_takeRise]; rfl
  · rfl

@[simp] theorem fixed_enterArmed (closed : Option TripRecord) (s : State) : (enterArmed closed s).fixed = s.fixed := by
  unfold enterArmed; dsimp only; split
  · rw [fixed_tripSite]; rfl
  · rfl

@[simp] theorem fixed_closeRecord (c : Closure) (s : State) : (closeRecord c s).fixed = s.fixed := by
  simp [closeRecord]

@[simp] theorem fixed_leaveRecord (failed : Nat) (s : State) : (leaveRecord failed s).fixed = s.fixed := rfl

@[simp] theorem fixed_restartCompleted (failed : Nat) (s : State) : (restartCompleted failed s).fixed = s.fixed := by
  unfold restartCompleted; dsimp only; split <;> simp

@[simp] theorem fixed_takeCompletion (r : Report) (s : State) : (takeCompletion r s).fixed = s.fixed := by
  unfold takeCompletion restartHalted; repeat' split
  all_goals simp

@[simp] theorem fixed_enterByRing (s : State) : (enterByRing s).fixed = s.fixed := by
  unfold enterByRing; repeat' split
  all_goals simp

@[simp] theorem fixed_formRequest (s : State) : (formRequest s).fixed = s.fixed := by
  unfold formRequest; dsimp only; split
  · rfl
  · rw [fixed_takeRequest]; rfl

@[simp] theorem fixed_reloadQuiet (s : State) : (reloadQuiet s).fixed = s.fixed := rfl

@[simp] theorem fixed_setFlag (i : Fin 24) (s : State) : (setFlag i s).fixed = s.fixed := by
  unfold setFlag; split
  · rfl
  · rw [fixed_reloadQuiet]; rfl

@[simp] theorem fixed_latch (i : Fin 24) (s : State) : (latch i s).fixed = s.fixed := by
  unfold latch; split <;> simp

@[simp] theorem fixed_clearFlags (which : Fin 24 → Bool) (s : State) : (clearFlags which s).fixed = s.fixed := by
  unfold clearFlags; rw [fixed_formRequest, State.fixed, State.fixed]

@[simp] theorem fixed_drawOrder (s : State) : (drawOrder s).2.fixed = s.fixed := rfl

@[simp] theorem fixed_riseThenReport (r : Report) (s : State) : (riseThenReport r s).fixed = s.fixed := by
  unfold riseThenReport; dsimp only; split <;> simp

@[simp] theorem fixed_takeHandOver (ho : HandOver) (s : State) : (takeHandOver ho s).fixed = s.fixed := by
  unfold takeHandOver; split
  · rfl
  · simp
  · simp
  · dsimp only; split <;> simp

/-- An event of the executor keeps all that `fixed` keeps, with all that follows from it. -/
theorem fixed_runEvent (f : State → State × HandOver) (s : State) (h : (f s).1.noRunner = s.noRunner) :
    (runEvent f s).fixed = s.fixed := by
  unfold runEvent; dsimp only; rw [fixed_takeHandOver]; exact fixed_of_noRunner h

@[simp] theorem fixed_takeReply (src tag result : Byte) (st : NodeState) (s : State) :
    (runEvent (takeReply src tag result st) s).fixed = s.fixed := fixed_runEvent _ _ (by simp)

@[simp] theorem fixed_takeReport (src : Byte) (st : NodeState) (s : State) :
    (runEvent (takeReport src st) s).fixed = s.fixed := fixed_runEvent _ _ (by simp)

@[simp] theorem fixed_dwellExpired (i : Fin 64) (s : State) : (runEvent (dwellExpired i) s).fixed = s.fixed :=
  fixed_runEvent _ _ (by simp)

@[simp] theorem fixed_deadlineExpired (i : Fin 64) (s : State) : (runEvent (deadlineExpired i) s).fixed = s.fixed :=
  fixed_runEvent _ _ (by simp)

@[simp] theorem fixed_readyExpired (i : Fin 64) (s : State) : (runEvent (readyExpired i) s).fixed = s.fixed :=
  fixed_runEvent _ _ (by simp)

@[simp] theorem fixed_settleExpired (i : Fin 64) (s : State) : (runEvent (settleExpired i) s).fixed = s.fixed :=
  fixed_runEvent _ _ (by simp)

/-- A rise of feed_stable keeps all but feed_stable and its timer, besides what `fixed` blanks. -/
theorem fixed_feedRises (s : State) :
    (feedRises s).fixed = { s.fixed with trig.feedStable := true, trig.feedStart := none } := by
  unfold feedRises; rw [fixed_runEvent _ _ (noRunner_takeFeedRise _)]; rfl

/-- The forming of the REMOTE conditions keeps all but them, besides what `fixed` blanks. -/
theorem fixed_formRemote (s : State) :
    (formRemote s).fixed = { s.fixed with
      trig.remoteSevere := s.anyWarning s.params.classL2, trig.remoteModerate := s.anyWarning s.params.classL1 } := by
  unfold formRemote; dsimp only; repeat' split
  all_goals simp
  all_goals rfl

/-! ### The zone voter (Voter.lean) -/

@[simp] theorem fixed_reportRises (z : Fin 8) (a b : Bool) (s : State) : (reportRises z a b s).fixed = s.fixed := by
  have drawn : ({ s with freeIndex := s.freeIndex + 1 } : State).fixed = s.fixed := rfl
  unfold reportRises drawOrder; dsimp only; repeat' split
  all_goals simp [drawn]

/-- An evaluation sets the zone's state and changes nothing else but what `fixed` blanks. -/
theorem fixed_evaluateZone (z : Fin 8) (s : State) :
    (evaluateZone z s).fixed = { s.fixed with voter.zones := s.voter.zones.set z (s.zoneEvaluated z) } := by
  unfold evaluateZone; simp; rfl

theorem members_evaluateZone (z : Fin 8) (s : State) : (evaluateZone z s).voter.members = s.voter.members :=
  congrArg (fun u => u.voter.members) (fixed_evaluateZone z s)

theorem fixedButVoter_of_fixed {s t : State} (h : t.fixed = s.fixed) : t.fixedButVoter = s.fixedButVoter := by
  unfold State.fixedButVoter; rw [h]

@[simp] theorem fixedButVoter_evaluateZone (z : Fin 8) (s : State) :
    (evaluateZone z s).fixedButVoter = s.fixedButVoter := by
  unfold State.fixedButVoter; rw [fixed_evaluateZone]

@[simp] theorem fixedButVoter_evaluateAll (s : State) : (evaluateAll s).fixedButVoter = s.fixedButVoter :=
  foldl_keeps State.fixedButVoter _ (fun s z => fixedButVoter_evaluateZone z s) _ s

@[simp] theorem fixedButVoter_handChange (c : Change) (s : State) :
    (handChange c s).fixedButVoter = s.fixedButVoter := by
  have base : (formAlert (if c.state = .onset ∨ c.state = .strong then reloadQuiet s else s)).fixedButVoter
      = s.fixedButVoter := by split <;> rfl
  unfold handChange; dsimp only
  split
  · rw [fixedButVoter_evaluateZone, ← base]; unfold takeIntoImage; split <;> rfl
  · exact base

@[simp] theorem fixedButVoter_handAll (cs : List Change) (s : State) :
    (handAll cs s).fixedButVoter = s.fixedButVoter :=
  foldl_keeps State.fixedButVoter _ (fun s c => fixedButVoter_handChange c s) _ s

end Sys2Proof.Machine
end

