-- ==== Sys2Proof/Laws/Link.lean ====
section
/-! SUPPORT. What the arrival of a frame or of a request does on a port that is free, and the parts of the part's state that a request's answer leaves. -/

namespace Sys2Proof.Machine

/-- A port that is not in the middle of a frame abandons none. -/
theorem startCount_of_free {s : State} {port : Port} (h : s.portFree port) (f : Frame) :
    startCount (s.rx port) (s.portCount port) f = s.portCount port := by
  unfold startCount; rw [if_neg fun hc => h.2 hc.1]

/-- A frame of a possible size that arrives on a free port is counted and routed. -/
theorem frameArrives_of_free {s : State} {port : Port} (h : s.portFree port) {f : Frame} (hf : f.sizeOk = true) :
    frameArrives port f s = route port f (s.gotFrame port f) := by
  unfold frameArrives; rw [if_pos h.1, startCount_of_free h, if_pos hf]; rfl

/-- A frame of a possible size that arrives in service is routed after the port's counters have moved. -/
theorem frameArrives_running {s : State} (h : s.isRunning = true) (port : Port) {f : Frame} (hf : f.sizeOk = true) :
    frameArrives port f s =
      route port f (setPort port {} ((startCount (s.rx port) (s.portCount port) f).completed f) s) := by
  unfold frameArrives; rw [if_pos h, if_pos hf]

theorem requestFrame_sizeOk (s : State) (src tag : Byte) {payload : List Byte} (h : payload.length ≤ 48) :
    (s.requestFrame src tag payload).sizeOk = true := by
  unfold State.requestFrame Frame.sizeOk; simp [h, kindRequest, kindSample]

theorem requestFrame_wellFormed (s : State) (src tag : Byte) (payload : List Byte) :
    (s.requestFrame src tag payload).wellFormed = true := by
  simp [State.requestFrame, Frame.wellFormed, kindRequest, kindCommand, kindStatus, kindReply, kindWarning, kindTrip]

/-- A request payload that arrives on a free S-port reaches the management unit. -/
theorem requestFrame_arrives {s : State} (h : s.portFree .s) (src tag : Byte) {payload : List Byte}
    (hp : payload.length ≤ 48) :
    frameArrives .s (s.requestFrame src tag payload) s = handleRequest src tag payload { s with
      link.sRx := {}, link.sCount := { s.link.sCount with received := bump s.link.sCount.received } } := by
  rw [frameArrives_of_free h (requestFrame_sizeOk s src tag hp)]
  unfold route routeS State.isRequest State.gotFrame PortCount.completed
  rw [requestFrame_wellFormed]
  simp [State.requestFrame, setPort, State.ownAddress, State.portCount]

/-- A request payload that the management unit takes is performed, after it has been counted. -/
theorem requestFrame_performed {s : State} (h : s.OpenTo) (src tag : Byte) {payload : List Byte}
    (hp : payload.length ≤ 48) :
    frameArrives .s (s.requestFrame src tag payload) s = performPayload src tag payload s.asked := by
  rw [requestFrame_arrives h.free src tag hp]
  exact if_pos h.takes

/-- A request that is handled is performed on the state that has counted it. -/
theorem requestArrives_of_open {s : State} (h : s.OpenTo) (src tag : Byte) (r : Req) (hp : r.payload.length ≤ 48) :
    requestArrives src tag r s = performPayload src tag r.payload s.asked :=
  requestFrame_performed h src tag hp

end Sys2Proof.Machine
end

