-- ==== Sys2Proof/Laws/Requests.lean ====
section
/-! SUPPORT. The way from a request row to its effect: the payload of a request reads back as that request, so a request that is handled is performed. -/

namespace Sys2Proof.Machine

/-- Four characters of a 32-bit count read back. -/
theorem word32Of_chars (w : Word32) :
    word32Of (BitVec.ofNat 8 (w.toNat / 16777216)) (BitVec.ofNat 8 (w.toNat / 65536))
      (BitVec.ofNat 8 (w.toNat / 256)) (BitVec.ofNat 8 w.toNat) = w := by
  apply BitVec.eq_of_toNat_eq
  have := w.isLt
  simp [word32Of, beNat]
  omega

/-- The code of a request (R182). -/
def Req.code (r : Req) : Byte := r.payload.headD 0

/-- The argument characters of a request (R182). -/
def Req.args (r : Req) : List Byte := r.payload.tail

theorem payload_eq (r : Req) : r.payload = r.code :: r.args := by cases r <;> rfl

/-- A request's code and arguments read back as that request. -/
theorem parseRequest_payload (r : Req) (h : r.lengthOk = true) : parseRequest r.code r.args = some r := by
  cases r with
  | writeShadow b k f c rs =>
    exact (if_pos h : (if shadowLengthOk k c rs then some (Req.writeShadow b k f c rs) else none) = _)
  | setTime t => exact congrArg (fun w => some (Req.setTime w)) (word32Of_chars t)
  | _ => rfl

/-- The payload of a request is performed as that request. -/
theorem performPayload_payload (src tag : Byte) (r : Req) (s : State) (h : r.lengthOk = true) :
    performPayload src tag r.payload s = perform ⟨src, tag, r.code⟩ r s := by
  rw [payload_eq r]; unfold performPayload; dsimp only; rw [parseRequest_payload r h]

/-- A request row is the arrival of its request, which finds every follow-up taken. -/
theorem exec_of_requestOf {c : Instr} {src tag : Byte} {r : Req} (h : requestOf c = some (src, tag, r)) (s : State) :
    exec c s = .next (requestArrives src tag r s.caughtUp) := by
  cases c <;> simp only [requestOf, Option.some.injEq, Prod.mk.injEq, reduceCtorEq] at h <;>
    (obtain ⟨rfl, rfl, rfl⟩ := h; rfl)

/-- A request that is handled does what its own definition says, after every follow-up has been taken and the request
received and counted. -/
theorem exec_request {c : Instr} {src tag : Byte} {r : Req} {s : State} (h : requestOf c = some (src, tag, r))
    (ho : s.caughtUp.OpenTo) (hl : r.lengthOk = true) (hp : r.payload.length ≤ 48) :
    exec c s = .next (perform ⟨src, tag, r.code⟩ r s.caughtUp.asked) := by
  rw [exec_of_requestOf h, requestArrives_of_open ho src tag r hp, performPayload_payload src tag r _ hl]

/-- A response without a mark joins the queue's end. -/
theorem answer_eq_replied (src tag code : Byte) (st : Status) (data : List Byte) (s : State) :
    answer ⟨src, tag, code⟩ st data s = s.replied src tag code st data := rfl

end Sys2Proof.Machine
end

