-- ==== Sys2Proof/Laws/Store.lean ====
section
/-! SUPPORT. What the checks of non-volatile memory say: when a block passes its CRC, what programming leaves, what the scan finds in a slot, and that a changed record carries its record CRC. -/

namespace Sys2Proof.Machine

/-- A block stored with its own CRC passes it. -/
theorem NonVolatile.passes_of_check {n : NonVolatile} {b : Fin 4} (h : n.checks[b] = some (n.blocks.crcOf b)) :
    n.passes b = true := by
  unfold NonVolatile.passes; rw [h]; exact beq_self_eq_true _

/-- A block stored without a CRC fails it. -/
theorem NonVolatile.passes_of_none {n : NonVolatile} {b : Fin 4} (h : n.checks[b] = none) : n.passes b = false := by
  unfold NonVolatile.passes; rw [h]

/-- A block passes its CRC exactly where the one stored with it is that of its content. -/
theorem NonVolatile.passes_iff (n : NonVolatile) (b : Fin 4) :
    n.passes b = true ↔ n.checks[b] = some (n.blocks.crcOf b) := by
  unfold NonVolatile.passes
  split <;> rename_i h <;> simp [h]

/-- Programming stores a CRC exactly where the read-back passes. -/
theorem NonVolatile.program_check (n : NonVolatile) (b : Fin 4) (c : Blocks) (passes : Bool) :
    (n.program b c passes).checks[b] = if passes then some ((n.program b c passes).blocks.crcOf b) else none := by
  simp [NonVolatile.program]

/-- A programmed block passes its CRC where its read-back passed, and fails it otherwise. -/
theorem NonVolatile.program_passes (n : NonVolatile) (b : Fin 4) (c : Blocks) (passes : Bool) :
    (n.program b c passes).passes b = passes := by
  have h := n.program_check b c passes
  cases passes with
  | false => exact NonVolatile.passes_of_none h
  | true => exact NonVolatile.passes_of_check h

@[simp] theorem Slot.found_blank : Slot.found .blank = .blank := rfl
@[simp] theorem Slot.found_damaged : Slot.found .damaged = .damaged := rfl

/-- The scan takes a record whose CRC passes as it is, and one whose CRC does not as damaged. -/
theorem Slot.found_record (r : TripRecord) :
    Slot.found (.record r) = if r.crc = r.crcOf then .record r else .damaged := rfl

/-- The fields do not cover the record CRC. -/
@[simp] theorem TripRecord.fields_withCrc (r : TripRecord) : r.withCrc.fields = r.fields := rfl

/-- A record given its CRC carries that of its other fields. -/
theorem TripRecord.crc_withCrc (r : TripRecord) : r.withCrc.crc = crc16 r.withCrc.fields := rfl

/-- Taking up a write leaves the ring image. -/
@[simp] theorem PlanStore.takeUp_ring (p : PlanStore) : p.takeUp.ring = p.ring := by
  unfold PlanStore.takeUp
  split
  · rfl
  · dsimp only; split <;> rfl
  · rfl

/-- A record once changed carries the next write sequence and its CRC, in its slot of the ring image. -/
theorem changeRecord_ring (i : Fin 16) (r : TripRecord) (s : State) :
    (changeRecord i r s).store.ring =
      s.store.ring.set i (.record ({ r with seq := s.store.writeSeq + 1 } : TripRecord).withCrc) := by
  unfold changeRecord requestWrite; dsimp only; split <;> simp

end Sys2Proof.Machine
end

