-- ==== Sys2Proof/Laws/Trigger.lean ====
section
/-! SUPPORT. What the forming of the request does to the trigger unit: it sets request level, cause and TRIP_OUT, and ALERT_OUT with the site state, and nothing else. -/

namespace Sys2Proof.Machine

/-- The trigger unit's state but for ALERT_OUT, which follows the site state. -/
def State.besideAlert (s : State) : Trigger := { s.trig with alertOut := false }

theorem trig_changeRecord (i : Fin 16) (r : TripRecord) (s : State) : (changeRecord i r s).trig = s.trig := by
  unfold changeRecord requestWrite; dsimp only; split <;> rfl

theorem trig_updateRecord (f : TripRecord → TripRecord) (s : State) : (updateRecord f s).trig = s.trig := by
  unfold updateRecord; split <;> simp [trig_changeRecord]

theorem trig_openRecord (level : Nat) (s : State) : (openRecord level s).trig = s.trig := by
  unfold openRecord; dsimp only; rw [trig_changeRecord]

theorem trig_of_noRunner {s t : State} (h : t.noRunner = s.noRunner) : t.trig = s.trig := (congrArg State.trig h : _)

theorem besideAlert_of_trig {s t : State} (h : t.trig = s.trig) : t.besideAlert = s.besideAlert := by
  unfold State.besideAlert; rw [h]

@[simp] theorem besideAlert_setSite (st : SiteState) (l : Nat) (h : Option HoldReason) (s : State) :
    (setSite st l h s).besideAlert = s.besideAlert := rfl

@[simp] theorem besideAlert_raiseNotice (o : Option TripRecord) (s : State) :
    (raiseNotice o s).besideAlert = s.besideAlert := rfl

@[simp] theorem besideAlert_updateRecord (f : TripRecord → TripRecord) (s : State) :
    (updateRecord f s).besideAlert = s.besideAlert := besideAlert_of_trig (trig_updateRecord f s)

@[simp] theorem besideAlert_openRecord (level : Nat) (s : State) :
    (openRecord level s).besideAlert = s.besideAlert := besideAlert_of_trig (trig_openRecord level s)

@[simp] theorem besideAlert_startPlan (p : PlanId) (s : State) :
    (startPlan p s).1.besideAlert = s.besideAlert := besideAlert_of_trig (trig_of_noRunner (by simp))

@[simp] theorem besideAlert_abandonRun (s : State) : (abandonRun s).besideAlert = s.besideAlert :=
  besideAlert_of_trig (trig_of_noRunner (by simp))

@[simp] theorem besideAlert_markTripPending (level : Nat) (s : State) :
    (markTripPending level s).besideAlert = s.besideAlert := by
  unfold markTripPending; split <;> rfl

@[simp] theorem besideAlert_shutdownEnded (r : Report) (s : State) :
    (shutdownEnded r s).besideAlert = s.besideAlert := by simp [shutdownEnded]

@[simp] theorem besideAlert_enterShutting (level : Nat) (s : State) :
    (enterShutting level s).besideAlert = s.besideAlert := by
  unfold enterShutting; dsimp only; split <;> simp

@[simp] theorem besideAlert_takeRise (level : Nat) (s : State) : (takeRise level s).besideAlert = s.besideAlert := by
  unfold takeRise; repeat' split
  all_goals simp [tripSite, escalate, fastFromHold, escalateRecord, abortByRise, closeRecord]

@[simp] theorem besideAlert_takeRequest (level : Nat) (cause : Option (Fin 24)) (s : State) :
    (takeRequest level cause s).besideAlert = s.besideAlert := by
  unfold takeRequest; dsimp only; split
  · rw [besideAlert_takeRise]; rfl
  · rfl

/-- All that the forming of the request does to the trigger unit, ALERT_OUT apart (R47, R64). -/
theorem besideAlert_formRequest (s : State) :
    (formRequest s).besideAlert = { s.besideAlert with
      requestLevel := s.requestLevelNow, cause := s.causeNow
      tripOut := if s.trig.requestLevel < 2 ∧ s.requestLevelNow = 2 then true else s.trig.tripOut } := by
  unfold formRequest; dsimp only; split
  · next h =>
    unfold State.besideAlert; rw [h.1, h.2]; split
    · next h2 => omega
    · rfl
  · rw [besideAlert_takeRequest]; rfl

/-- Request level and cause depend on the flags, FORCED's level and the tables alone (R47). -/
theorem requestNow_congr {s t : State} (hf : t.trig.flags = s.trig.flags)
    (hl : t.trig.forcedLevel = s.trig.forcedLevel) (ht : t.tables = s.tables) :
    t.requestLevelNow = s.requestLevelNow ∧ t.causeNow = s.causeNow := by
  have a : t.requesting = s.requesting := by funext i; unfold State.requesting; rw [hf, ht]
  have b : t.sourceLevel = s.sourceLevel := by funext i; unfold State.sourceLevel; rw [hl, ht]
  have c : t.requestLevelNow = s.requestLevelNow := by unfold State.requestLevelNow; rw [a, b]
  exact ⟨c, by unfold State.causeNow; rw [c, a, b]⟩

/-- After the request has been formed, it would be formed the same again. -/
theorem requestNow_formRequest (s : State) :
    (formRequest s).requestLevelNow = s.requestLevelNow ∧ (formRequest s).causeNow = s.causeNow :=
  requestNow_congr (congrArg (fun t => t.flags) (besideAlert_formRequest s))
    (congrArg (fun t => t.forcedLevel) (besideAlert_formRequest s)) (tables_of_fixed (fixed_formRequest s))

/-- A hand-over that is no rise is copied and changes nothing else (R65, R73). -/
theorem takeRequest_of_not_rise {level : Nat} {s : State} (h : level ≤ s.site.requestLevel) (cause : Option (Fin 24)) :
    takeRequest level cause s = { s with site.requestLevel := level, site.cause := cause } := by
  unfold takeRequest; dsimp only; rw [if_neg (by omega)]

end Sys2Proof.Machine
end

