-- ==== Sys2Proof/Tests/Slice0.lean ====
section
/-! SUPPORT. Tests of the model against the manual's worked figures and tables, well-formedness checks, and for each statement with hypotheses a state and operands that meet them, clause by clause, at boundary values. -/

-- One test is checked after another: all at once they take more memory than the check allows.
set_option Elab.async false

namespace Sys2Proof.Tests

open Sys2Proof Sys2Proof.Machine

/-! ### Small states -/

/-- In service, freshly loaded, in a site state. -/
def svc (st : SiteState) : State := { State.reset with phase := .running, site.state := st }

/-- A node of a kind present at an address, in zone 3. -/
def withNode (a : Nat) (k : NodeKind) (s : State) : State :=
  { s with store.work.site.nodes := putAt s.store.work.site.nodes (a - 1) ⟨true, k, some 3, 0, false⟩ }

/-- The filter refuses every class in every column. -/
def refusing (s : State) : State :=
  { s with store.work.site.filter := .replicate 8 ⟨.refuse, .refuse, .refuse, .refuse⟩ }

/-- A frame that nothing inspects. -/
def plainFrame : Frame := ⟨5, 1, 0x99, 0, []⟩

/-- A SAMPLE frame from node 64 with one sample. -/
def sampleOf64 : Frame := ⟨1, 64, kindSample, 0, [5, 1, 0, 0, 0, 0, 0, 9]⟩

/-- A response without data. -/
def plainResponse : Response := ⟨1, 0, 0x01, .ok, [], 0, .plain⟩

/-- A record of a trip with a write sequence and a closure, and with its record CRC. -/
def recordAt (seq trip level : Nat) (c : Closure) : TripRecord :=
  TripRecord.withCrc ⟨BitVec.ofNat 32 seq, trip, 0, none, level, false, 0, .complete, c, 0, 0⟩

/-- A record of a trip with a closure. -/
def recordOf (trip level : Nat) (c : Closure) : TripRecord := recordAt trip trip level c

/-- A running L1 plan of two steps, with step 0 in a lifecycle state and a timer at 0. -/
def running (st : Lifecycle) (s : State) : State :=
  { s with
    store.work.l1 := { stepCount := 2, slotLimit := 2, steps := (Vector.replicate 64 {}).set 0 { action := .shed, target := some 31 } }
    runner.run := ⟨some .l1, .running, 2, 2, 0, none, 0, false⟩
    runner.steps := s.runner.steps.set 0 ⟨st, 0, some 0, none⟩ }

/-- An entry of step 0 that waits for its reply, its deadline run out. -/
def entryOf0 (left : Nat) : Entry := ⟨0, 31, .shed, 7, .waitingReply, some 0, left⟩

/-- A site at level 1 with its record in slot 15. -/
def levelOne (st : SiteState) : State :=
  { svc st with
    site.level := 1, site.requestLevel := 1, site.trip := 1, site.record := some 15
    store.ring := (Vector.replicate 16 .blank).set 15 (.record (recordOf 1 1 .isOpen)) }

/-- The state after a step. -/
def after (i : Instr) (s : State) : State :=
  match exec i s with
  | .next t => t
  | .fault _ => s
  | .refused _ => s

/-! ### Well-formedness: each check refuses an ill-formed term -/

theorem test_wf_sample_count : (Instr.pSampleFrame 1 64 0 [5, 2, 0, 0, 0, 0, 0, 9]).wf = false := by decide
theorem test_wf_sample : (Instr.pSampleFrame 1 64 0 sampleOf64.payload).wf = true := by decide
theorem test_wf_warning : (Instr.pWarningFrame 1 70 0 (.replicate 49 0)).wf = false := by decide
theorem test_wf_reply : (Instr.pReplyFrame 1 70 0 (.replicate 49 0)).wf = false := by decide
theorem test_wf_status : (Instr.pStatusFrame 1 70 0 (.replicate 49 0)).wf = false := by decide
theorem test_wf_other_kind : (Instr.pOtherFrame 1 70 0x20 0 []).wf = false := by decide
theorem test_wf_other_payload : (Instr.pOtherFrame 1 70 0x99 0 (.replicate 49 0)).wf = false := by decide
theorem test_wf_command_dst : (Instr.sCommandFrame 120 1 0 [1]).wf = false := by decide
theorem test_wf_command_payload : (Instr.sCommandFrame 5 1 0 (.replicate 49 0)).wf = false := by decide
theorem test_wf_s_other_command : (Instr.sOtherFrame 5 1 0x10 0 []).wf = false := by decide
theorem test_wf_s_other_sample : (Instr.sOtherFrame 5 1 0x20 0 [1]).wf = false := by decide
theorem test_wf_s_other_payload : (Instr.sOtherFrame 5 1 0x99 0 (.replicate 49 0)).wf = false := by decide
theorem test_wf_unknown : (Instr.unknownRequest 1 0 (.replicate 49 0)).wf = false := by decide
theorem test_wf_write_shadow : (Instr.writeShadow 1 0 3 0 0 1 (.replicate 44 0)).wf = false := by decide

/-! ### The frame check (R154): the reference value of this CRC over the digits 1 to 9 -/

theorem test_crc_reference :
    crc16 [0x31, 0x32, 0x33, 0x34, 0x35, 0x36, 0x37, 0x38, 0x39] = 0x29B1#16 := by decide +kernel

theorem test_crc_high_byte_first :
    checkChars [0x31, 0x32, 0x33, 0x34, 0x35, 0x36, 0x37, 0x38, 0x39] = [0x29, 0xB1] := by decide +kernel

/-! ### The worked figures of 1.9 -/

theorem test_baseline_and_difference : axisDiff 205 80 = 200 ∧ axisBase 205 80 = 83 := by decide
theorem test_baseline_step_rounds_to_zero : axisBase (-195) 80 = 77 := by decide
theorem test_negative_baseline_rounds_down : axisDiff 10 (-24) = 12 := by decide
theorem test_difference_clamps : axisDiff (-32768) 524272 = -32767 := by decide
theorem test_horizontal : horizontal (-300) 120 = 360 ∧ horizontal 32767 (-32767) = 49150 := by decide

/-- The settled channel of 1.9: SS 3, LS 8, R_on 48, R_off 32, F 40, G 500, H 3. -/
def cfg19 : ChanCfg := { enabled := true, ss := 3, ls := 8, rOn := 48, rOff := 32, f := 40, g := 500, h := 3, tMax := 100 }
def settled : Channel := { state := .quiet, seeded := true, priming := 256, sta := 320, lta := 320 }

theorem test_onset_in_a_settled_channel :
    (sampleTrail cfg19 5 settled (.replicate 3 ⟨0, 0, 200⟩)).map (fun c => (c.sta, c.lta, c.state)) =
      [(680, 331, .quiet), (995, 342, .quiet), (1270, 353, .onset)] := by decide

/-- The below run reaches 3 with the ninth sample, and is set to 0 by the entry to QUIET (R3). -/
theorem test_detrigger :
    (sampleTrail cfg19 5 { settled with state := .onset, sta := 1270, lta := 353 } (.replicate 9 ⟨0, 0, 20⟩)).map
      (fun c => (c.sta, c.below, c.inOnset, c.state)) =
      [(1152, 0, 1, .onset), (1048, 0, 2, .onset), (957, 0, 3, .onset), (878, 0, 4, .onset), (809, 0, 5, .onset),
       (748, 0, 6, .onset), (695, 1, 7, .onset), (649, 2, 8, .onset), (608, 0, 9, .quiet)] := by decide

/-! ### Debounce of 3.8: LOW at 200 and 201, HIGH at 202, LOW from 203 -/

theorem test_debounce_of_3_8 :
    [true, true, false, true, true, true, true, true].foldl (fun (acc : List Nat × Debouncer) raw =>
        let d := acc.2.sample raw 5
        (acc.1 ++ [d.count], d)) ([], {}) =
      ([1, 2, 0, 1, 2, 3, 4, 5], ⟨false, 5, true⟩) := by decide

/-! ### Replacement in a full table (3.8) -/

/-- Four live records A (class 3, 100.0), B (5, 105.0), C (3, 110.0), D (6, 120.0), and a new one at 130.0. -/
def fullTable : State :=
  let w (e c t : Nat) : Option Warning := some ⟨e, c, 0, BitVec.ofNat 32 t, 900000⟩
  { svc .unconfigured with
    now := 130000, trig.warnings := #v[w 1 3 100000, w 2 5 105000, w 3 3 110000, w 4 6 120000] }

def classesAfter (s : State) : List (Option Nat) := s.trig.warnings.toList.map fun w => w.map Warning.cls

theorem test_replacement_takes_the_earliest_of_the_lowest :
    classesAfter (takeWarning ⟨5, 4, 0, 130000, 900000⟩ fullTable) = [some 4, some 5, some 3, some 6] := by
  decide +kernel

theorem test_outranked_warning_is_dropped :
    (takeWarning ⟨6, 2, 0, 130000, 900000⟩ fullTable).trig.warningsDropped = 1 := by decide +kernel

/-! ### The worked scan of 7.9 -/

/-- Slots 0..8 hold trips 50..58, slot 9 is damaged, the rest blank. -/
def ring79 : Vector Slot 16 :=
  .ofFn fun i =>
    if i.val < 8 then .record (recordAt (200 + i.val) (50 + i.val) 1 .restarted)
    else if i.val = 8 then .record (recordAt 212 58 1 .restarted)
    else if i.val = 9 then .damaged
    else .blank

theorem test_scan_of_7_9 :
    scanRing ring79 = ring79 ∧ scanSeq ring79 = 212 ∧ openSlot ring79 = none ∧ lowestDamaged ring79 = some 9 ∧ scanTrip ring79 = 58 := by
  decide +kernel

theorem test_recovered_slot_of_7_9 :
    let s : State := { svc .safeHold with store.ring := ring79, store.writeSeq := 212, site.trip := 58 }
    let t := recoverSlot s
    (t.store.ring[(9 : Fin 16)].held.map fun r => (r.trip, r.seq, r.closure)) = some (58, 213, .recovered) ∧
      openingSlot t.store.ring = 10 := by decide +kernel

/-! ### Small steps -/

theorem test_reset_is_unconfigured : State.reset.site.state = .unconfigured := by decide

theorem test_trip_number_wraps : nextTrip 65535 = 1 ∧ nextTrip 0 = 1 ∧ nextTrip 41 = 42 := by decide

theorem test_counter_saturates : bump 65535 = 65535 ∧ bumpBy 65530 8 = 65535 := by decide

theorem test_set_time_zeroes_the_millisecond :
    (after (.setTime 1 2 7) { svc .armed with mgmt.siteMs := 999 }).mgmt.siteTime = 7 ∧
      (after (.setTime 1 2 7) { svc .armed with mgmt.siteMs := 999 }).mgmt.siteMs = 0 := by decide +kernel

theorem test_site_time_wraps :
    (after .siteTimeSecond { svc .armed with mgmt.siteTime := 0xFFFFFFFF, mgmt.secondDue := true }).mgmt.siteTime = 0 := by
  decide +kernel

theorem test_interlock_answers_for_the_node :
    (after (.sCommandFrame 5 1 9 [3]) (refusing (svc .shutting))).router.pToS =
      [⟨1, 5, kindReply, 9, [3, 3]⟩] := by decide +kernel

theorem test_query_passes_the_interlock :
    (after (.sCommandFrame 5 1 9 [7]) (refusing (svc .shutting))).router.sToP.length = 1 := by decide +kernel

theorem test_force_trip_in_armed_trips_at_level_2 :
    (after (.forceTrip 1 2 2) (svc .armed)).site.trip = 1 ∧
      (after (.forceTrip 1 2 2) (svc .armed)).site.tripPending = true := by decide +kernel

theorem test_trip_broadcast_carries_level_and_number :
    (after .pArbiterChoice { svc .shutting with site.tripPending := true, site.trip := 258 }).link.pTx =
      some ⟨Frame.line ⟨127, 120, kindTrip, 0, [2, 1, 2]⟩, .trip⟩ := by decide +kernel

/-- The line carries the marker on the first character alone, and the check last (R153, R154, R161). -/
theorem test_line_of_a_frame :
    (Frame.line ⟨127, 120, kindTrip, 0, [2, 1, 2]⟩).map LineChar.marker = true :: .replicate 9 false ∧
      ((Frame.line ⟨127, 120, kindTrip, 0, [2, 1, 2]⟩).map LineChar.value).take 8 = [127, 120, kindTrip, 0, 3, 2, 1, 2] := by
  decide +kernel

theorem test_sample_seeds_its_channel :
    let s : State := { withNode 64 .sensor (svc .armed) with
      store.work.site.channels := (Vector.replicate 32 {}).set 0 { cfg19 with sensor := 64 }
      channels := (Vector.replicate 32 {}).set 0 { state := .priming } }
    let c := (after (.pSampleFrame 1 64 0 sampleOf64.payload) s).channels[(0 : Fin 32)]
    (c.seeded, c.priming, c.expected, c.baseZ, c.staleTimer) = (true, 1, 6, 144, some 50) := by decide +kernel

/-! ### Witnesses: states and operands that meet the hypotheses of each statement -/

/-- Every site state in service takes requests. -/
theorem openTo_svc (st : SiteState) : (svc st).OpenTo := by
  cases st <;> exact ⟨⟨by decide, by decide⟩, by decide⟩

theorem portFree_svc (st : SiteState) (port : Port) : (svc st).portFree port := by
  cases st <;> cases port <;> exact ⟨by decide, by decide⟩

/-- A busy transmitter, so that what waits for it goes on waiting. -/
def sBusy (s : State) : State := { s with link.sTx := some ⟨[], .plain⟩ }

/-- As for the S-port. -/
def pBusy (s : State) : State := { s with link.pTx := some ⟨[], .forwarded⟩ }

/-- A record write in progress, so that what waits to be written goes on waiting. -/
def writes (s : State) : State := { s with store.writing := some ⟨.record ⟨15, recordOf 1 1 .isOpen⟩, 3⟩ }

/-- A queue of the S-port's responses, full, with a held one. -/
def fullOfResponses (s : State) : State :=
  sBusy { s with mgmt.responses := .replicate 4 plainResponse, mgmt.held := [plainResponse] }

/-- In the states below nothing follows an earlier event, so that each is what a command finds (`caughtUp_of_nothingFollows`,
and for the states out of service `caughtUp_of_not_running`). -/
theorem svc_settled (st : SiteState) : (svc st).caughtUp = svc st := caughtUp_of_nothingFollows (by cases st <;> decide)

theorem test_meets_step_runs : ({ svc .armed with pending := [.lossOfPower] } : State).pending = .lossOfPower :: [] := rfl

/-- An event due and none, and every phase; a contact at each polarity's active level. -/
theorem test_meets_empty_queue : State.reset.pending = [] ∧ State.reset.nextDue = none ∧
    ({ State.reset with mgmt.loadTimer := 0 } : State).nextDue = some .startUpLoadComplete ∧
    (svc .armed).phase = .running ∧ State.reset.phase = .loading ∧ (partReset .held State.reset).phase = .held ∧
    (partReset .unpowered State.reset).phase = .unpowered ∧
    (svc .armed).rawActive 3 = false ∧ ({ svc .armed with pins := setPin 3 false {} } : State).rawActive 3 = true := by
  decide

/-- The last millisecond of a second makes the second due and moves no millisecond count past 999 (R187). -/
theorem test_tick_at_the_second :
    (tick { svc .armed with mgmt.siteMs := 999 }).mgmt.secondDue = true ∧
      (tick { svc .armed with mgmt.siteMs := 999 }).mgmt.siteMs = 999 ∧
      (tick { svc .armed with mgmt.siteMs := 998 }).mgmt.siteMs = 999 := by decide +kernel

theorem test_meets_commanded_reset : ({ svc .armed with mgmt.cmdReset := .due } : State).phase = .running ∧
    ({ svc .armed with mgmt.cmdReset := .due } : State).mgmt.cmdReset = .due := by decide

theorem test_meets_pin_reset : (svc .armed).phase = .running ∧ State.reset.phase = .loading ∧
    (partReset .held State.reset).phase = .held := by decide

/-- A record, a protection word and a block are being written when power fails; and nothing is. -/
theorem test_meets_loss_of_power :
    ({ svc .armed with store.writing := some ⟨.record ⟨15, recordOf 1 1 .isOpen⟩, 3⟩ } : State).store.writing =
        some ⟨.record ⟨15, recordOf 1 1 .isOpen⟩, 3⟩ ∧
      ({ svc .armed with store.cond := .replicate 4 .programming } : State).store.cond[(3 : Fin 4)] = .programming ∧
      (svc .armed).store.cond[(0 : Fin 4)] ≠ .programming ∧ (svc .armed).store.writing = none ∧
      ({ svc .armed with store.writing := some ⟨.other (.protection (.replicate 4 true)), 1⟩ } : State).store.writing =
        some ⟨.other (.protection (.replicate 4 true)), 1⟩ :=
  ⟨rfl, by decide, by decide, rfl, rfl⟩

/-- A non-volatile memory of four default blocks with their CRCs. -/
def stored : NonVolatile := { checks := .ofFn fun b => some (({} : Blocks).crcOf b) }

theorem stored_valid (b : Fin 4) : stored.valid b = true := by
  have pass (k : Fin 4) : stored.passes k = true := NonVolatile.passes_of_check (by
    show (Vector.ofFn fun b => some (({} : Blocks).crcOf b))[k.val] = _; rw [Vector.getElem_ofFn]; unfold stored; rfl)
  have tables : stored.tablesValid = true := by
    unfold NonVolatile.tablesValid; rw [pass]; decide +kernel
  unfold NonVolatile.valid; rw [pass, tables]
  revert b; decide +kernel

/-- An invalid block; four valid ones with a damaged slot, with an open record and with a clean ring; and each finding of
the scan: a record whose CRC passes, one whose CRC does not, a damaged and a blank slot. -/
theorem test_meets_start_up_load :
    (State.reset.nv.valid 0 = false ∧ State.reset.nv.checks[(0 : Fin 4)] = none) ∧ (∀ b, stored.valid b = true) ∧
    lowestDamaged (scanRing ring79) = some 9 ∧
    openSlot (scanRing ((Vector.replicate 16 .blank).set 15 (.record (recordOf 9 1 .isOpen)))) = some 15 ∧
    (openSlot (scanRing stored.ring) = none ∧ lowestDamaged (scanRing stored.ring) = none) ∧
    (recordOf 9 1 .restarted).crc = crc16 (recordOf 9 1 .restarted).fields ∧
    ({ recordOf 9 1 .restarted with crc := 0 } : TripRecord).crc ≠ crc16 (recordOf 9 1 .restarted).fields :=
  ⟨⟨by decide, by decide⟩, stored_valid, by decide +kernel, by decide +kernel, ⟨by decide +kernel, by decide +kernel⟩,
    by decide +kernel, by decide +kernel⟩

/-- A load three milliseconds under way, of a part whose site time runs. -/
theorem test_meets_a_load_under_way :
    let s : State := { State.reset with now := 3, mgmt.loadTimer := 2, mgmt.siteTime := 7, nv := stored }
    s.phase = .loading ∧ ({ s with now := 0 } : State).VolatileReset :=
  ⟨rfl, rfl, rfl, rfl, rfl, rfl, rfl, rfl, rfl, rfl, rfl, rfl, rfl, rfl, rfl⟩

/-- A ring that holds both ends of the range of write sequences. -/
def wrapped : Vector Slot 16 :=
  ((Vector.replicate 16 .blank).set 14 (.record (recordAt 4294967295 8 1 .restarted))).set 15
    (.record (recordAt 0 9 1 .restarted))

/-- The ring of 7.9 opens in its damaged slot; with that slot blank in the same, after the newest; a ring that holds both ends ranks the
low end above, one that does not the higher value; an empty ring opens in slot 0; of equal sequences the lower slot is taken
(R147 to R149). -/
theorem test_newest_and_opening_slot :
    (OpensIn ring79 9 ∧ openingSlot ring79 = 9) ∧
    (OpensIn (ring79.set 9 .blank) 9 ∧ openingSlot (ring79.set 9 .blank) = 9) ∧
    (OpensIn wrapped 0 ∧ openingSlot wrapped = 0) ∧
    (OpensIn (wrapped.set 15 (.record (recordAt 1073741824 9 1 .restarted))) 15 ∧
      openingSlot (wrapped.set 15 (.record (recordAt 1073741824 9 1 .restarted))) = 15) ∧
    (OpensIn (.replicate 16 .blank) 0 ∧ openingSlot (.replicate 16 .blank) = 0) ∧
    Newest (fun _ => true) (wrapped.set 3 (.record (recordAt 0 7 1 .restarted))) 3 :=
  ⟨⟨.inl (by decide +kernel), by decide +kernel⟩,
    ⟨.inr ⟨by decide +kernel, .inl (by decide +kernel)⟩, by decide +kernel⟩,
    ⟨.inr ⟨by decide +kernel, .inl (by decide +kernel)⟩, by decide +kernel⟩,
    ⟨.inr ⟨by decide +kernel, .inl (by decide +kernel)⟩, by decide +kernel⟩,
    ⟨.inr ⟨by decide +kernel, .inr (by decide +kernel)⟩, by decide +kernel⟩, by decide +kernel⟩

theorem test_meets_receiver : (svc .armed).isRunning = true ∧ State.reset.isRunning = false := by decide

/-- A value above 48, a SAMPLE's length beside each of the four, and its count (R156, R159). -/
theorem test_length_errors :
    lengthError [5, 1, 0x99, 0, 48] = false ∧ lengthError [5, 1, 0x99, 0, 49] = true ∧ lengthError [5, 1, 0x99, 0] = false ∧
    lengthError [1, 64, 0x20, 0, 26] = false ∧ lengthError [1, 64, 0x20, 0, 27] = true ∧
    lengthError [1, 64, 0x20, 0, 26, 9, 4] = false ∧ lengthError [1, 64, 0x20, 0, 26, 9, 3] = true := by decide

/-- A frame of a size that is not taken, by its length and by its count. -/
theorem test_meets_damaged_frames : Frame.sizeOk ⟨5, 1, 0x99, 0, .replicate 49 0⟩ = false ∧
    Frame.sizeOk ⟨1, 64, kindSample, 0, [5, 2, 0, 0, 0, 0, 0, 9]⟩ = false ∧
    sFrameOf (.sOtherFrame 5 1 0x99 0 []) = some plainFrame ∧
    (after (.pSampleFrame 1 64 0 [5, 2, 0, 0, 0, 0, 0, 9]) (svc .armed)).link.pCount.length = 1 := by decide +kernel

/-- A character of value 1 with its marker, bit by bit; its stop bit low; and bits that are none (R152). -/
theorem test_character_bits :
    LineChar.bits ⟨1, true⟩ = [false, true, false, false, false, false, false, false, false, true, true] ∧
    readChar [false, true, false, false, false, false, false, false, true, false, false] = some (0x81, false, true) ∧
    readChar [true, true, false, false, false, false, false, false, false, true, true] = none ∧
    (svc .armed).txBits .p = [true] := by decide

theorem test_meets_characters : (svc .armed).portFree .p ∧ sampleOf64.sizeOk = true ∧ plainFrame.sizeOk = true :=
  ⟨portFree_svc _ _, by decide, by decide⟩

/-- Sizes at their ends, REPLY and STATUS payloads of every length class, and destinations of every class. -/
theorem test_meets_p_frame_stages : (svc .armed).portFree .p ∧ sampleOf64.sizeOk = true ∧
    Frame.sizeOk ⟨1, 70, kindWarning, 0, .replicate 7 0⟩ = true ∧
    Frame.sizeOk ⟨1, 70, kindWarning, 0, .replicate 48 0⟩ = true ∧
    ((2 :: List.replicate 8 0 : List Byte).length ≤ 9 ∧ 9 < (List.replicate 10 0 : List Byte).length) ∧
    ((List.replicate 1 0 : List Byte).length ≠ 2 ∧ (List.replicate 3 0 : List Byte).length ≠ 2) ∧
    ((svc .armed).supAddress = 1 ∧ (svc .armed).ownAddress = 120 ∧ (119 : Byte).toNat ≤ 119 ∧ 119 < (121 : Byte).toNat) ∧
    kindSample ≠ kindReply ∧ kindWarning ≠ kindReply :=
  ⟨portFree_svc _ _, by decide, by decide, by decide, by decide, by decide, by decide, by decide, by decide⟩

/-- The highest address of a node present, and the lowest of none. -/
theorem test_meets_node_table :
    pFrameOf (.pStatusFrame 1 119 0 [2]) = some ⟨1, 119, kindStatus, 0, [2]⟩ ∧ (svc .armed).isRunning = true ∧
      Frame.sizeOk ⟨1, 119, kindStatus, 0, [2]⟩ = true ∧
      ((withNode 119 .sensor (svc .armed)).nodeCfg 119).present = true ∧ ((svc .armed).nodeCfg 120).present = false := by
  decide +kernel

/-- The codes 3 and 4 of a STATUS: FAULT, and UNKNOWN with its count (R166). -/
theorem test_node_state_codes :
    let s := withNode 119 .sensor (svc .armed)
    let t := fun code => after (.pStatusFrame 120 119 0 [code]) s
    ((t 3).router.nodes[(119 : Fin 128)].reported, (t 3).router.count.unknownStates) = (.fault, 0) ∧
      ((t 4).router.nodes[(119 : Fin 128)].reported, (t 4).router.count.unknownStates) = (.unknown, 1) := by decide +kernel

/-- A source that is present and one that is not, the largest frame, and a channel's change of state. -/
theorem test_meets_sample_frame : (svc .armed).portFree .p ∧ sampleOf64.sizeOk = true ∧
    Frame.sizeOk ⟨1, 64, kindSample, 0, 255 :: 4 :: .replicate 24 0⟩ = true ∧
    ((withNode 64 .sensor (svc .armed)).nodeCfg 64).present = true ∧ ((svc .armed).nodeCfg 64).present = false ∧
    changesOf 31 0 settled [{ settled with state := .onset }] = [(0, ⟨31, .onset, true⟩)] :=
  ⟨portFree_svc _ _, by decide, by decide, by decide +kernel, by decide, by decide⟩

/-- Each offset at the edge of its class, and a channel without a seed. -/
theorem test_meets_frame_sequence : settled.seeded = true ∧ ({} : Channel).seeded = false ∧
    ([255, 0, 1, 8, 9, 254].map fun (q : Byte) => (q - settled.expected).toNat) = [255, 0, 1, 8, 9, 254] := by decide

/-- Values at the ends of their ranges; the edges of R17 to R22's tests; and 32 channels within range. -/
theorem test_meets_arithmetic : ({ settled with baseZ := -524288, sta := 524272 } : Channel).InRange ∧
    (⟨-32768, 32767, 0⟩ : Sample).InRange ∧ horizontal 500 0 = cfg19.g ∧ horizontal 499 0 < cfg19.g ∧
    ({ settled with below := 2 } : Channel).below + 1 = cfg19.h ∧
    ({ settled with inOnset := 99 } : Channel).inOnset + 1 = cfg19.tMax ∧
    cfg19.rOn * (320 : Int) ≤ 16 * 960 ∧ ¬(cfg19.rOn * (320 : Int) ≤ 16 * 959) ∧
    (∀ i : Fin 32, (svc .armed).channels[i].InRange) :=
  ⟨⟨by decide, by decide, by decide, by decide, by decide, by decide, by decide, by decide⟩,
    ⟨by decide, by decide, by decide⟩, by decide, by decide, by decide, by decide, by decide, by decide, fun i => by
      have h : (svc .armed).channels[i] = {} := Vector.getElem_replicate ..
      rw [h]
      exact ⟨by decide, by decide, by decide, by decide, by decide, by decide, by decide, by decide⟩⟩

/-- The state tests of R17 to R22 at their edges: STRONG at G, out of STRONG with the H-th sample below it, into ONSET at
the ratio, and out of ONSET with sample T_max, which re-seeds the long-term average. -/
theorem test_state_tests_at_their_edges :
    (processSample cfg19 5 settled ⟨500, 0, 0⟩).state = .strong ∧ (processSample cfg19 5 settled ⟨499, 0, 0⟩).state = .quiet ∧
    (processSample cfg19 5 { settled with state := .strong, below := 2 } ⟨0, 0, 0⟩).state = .quiet ∧
    (processSample cfg19 5 { settled with state := .strong, below := 1 } ⟨0, 0, 0⟩).state = .strong ∧
    (let d := processSample cfg19 5 { settled with state := .onset, sta := 1270, lta := 353, inOnset := 99 } ⟨0, 0, 200⟩
     (d.state, d.lta) = (.quiet, d.sta)) := by decide

/-- A gateway's warning with its record's event in the table, with a free slot, and with a full table; and a sensor's. -/
theorem test_meets_warning :
    readWarning 0 [0, 5, 9, 2, 88, 2, 88] = some ⟨5, 9, 600, 0, 600000⟩ ∧
      ((withNode 119 .gateway (svc .armed)).nodeCfg 119).kind = .gateway ∧
      ((withNode 119 .sensor (svc .armed)).nodeCfg 119).kind ≠ .gateway ∧
      fullTable.warningSlot 4 = some 3 ∧ (svc .armed).freeWarningSlot = some 0 ∧
      fullTable.warningSlot 5 = none ∧ fullTable.freeWarningSlot = none ∧
      (fullTable.weakestWarning.map fun p => (p.1, p.2.cls)) = some (0, 3) ∧
      (fullTable.trig.warnings[(3 : Fin 4)].map Warning.cls) = some 6 := by
  decide +kernel

/-- R58: a higher class at or above class_alert reloads the quiet timer and a repeat does not; R60: the conditions follow
the table, here with class_l1 at 5 and class_l2 at 7. -/
theorem test_warning_update_reloads_and_forms_remote :
    let s : State := { fullTable with
      trig.remoteModerate := true, trig.quiet := some 7
      store.work.site.site.classAlert := 4, store.work.site.site.classL1 := 5, store.work.site.site.classL2 := 7 }
    let t := takeWarning ⟨4, 7, 0, 130000, 900000⟩ s
    (takeWarning ⟨4, 6, 0, 130000, 900000⟩ s).trig.quiet = some 7 ∧ t.trig.quiet = some (s.params.q * 1000) ∧
      t.trig.remoteSevere = true ∧ t.trig.flags[srcSevere] = true ∧ t.trig.flags[srcModerate] = false ∧
      (takeWarning ⟨2, 0, 0, 130000, 900000⟩ (takeWarning ⟨4, 0, 0, 130000, 900000⟩ s)).trig.remoteModerate = false := by
  decide +kernel

/-- SUP_ADDR and broadcast, the part itself, the first and the last node, and the first address beyond. -/
theorem test_meets_p_other : (svc .armed).portFree .p ∧ ownPRow 0x99 = false ∧ (svc .armed).supAddress = 1 ∧
    (svc .armed).ownAddress = 120 ∧ (1 : Byte) ≤ 2 ∧ (124 : Byte).toNat ≠ 127 ∧ 119 < (124 : Byte).toNat :=
  ⟨portFree_svc _ _, by decide, by decide, by decide, by decide, by decide, by decide⟩

/-- Passed and refused, to a node and to broadcast, with a place and with a full queue. -/
theorem test_meets_command : (svc .armed).portFree .s ∧ nodeOrBroadcast 119 = true ∧ nodeOrBroadcast 127 = true ∧
    (svc .armed).refuses ⟨119, 1, kindCommand, 0, [1]⟩ = false ∧
    (refusing (svc .armed)).refuses ⟨119, 1, kindCommand, 0, [1]⟩ = true ∧
    (refusing (svc .armed)).refuses ⟨127, 1, kindCommand, 0, [1]⟩ = true ∧ (svc .armed).router.sToP.length < 8 ∧
    8 ≤ (pBusy { svc .armed with router.sToP := .replicate 8 plainFrame }).router.sToP.length :=
  ⟨portFree_svc _ _, by decide, by decide, by decide, by decide, by decide, by decide, by decide⟩

theorem test_meets_interlock :
    (svc .unconfigured).site.state = .unconfigured ∧ [(7 : Byte)].head? = some 7 ∧
      ((withNode 119 .pdu (svc .armed)).nodeCfg 119).zone = some 3 ∧
      (setIsolated 3 true (withNode 119 .pdu (svc .armed))).voter.zones[(3 : Fin 8)].isolated = true ∧
      Frame.actionClass ⟨119, 1, kindCommand, 0, [1]⟩ ≠ classQuery ∧
      (svc .armed).toIsolated ⟨119, 1, kindCommand, 0, [1]⟩ = false := by decide +kernel

theorem test_meets_s_other : (svc .armed).portFree .s ∧ plainFrame.sizeOk = true ∧ plainFrame.kind ≠ kindCommand ∧
    ¬(plainFrame.dst = (svc .armed).ownAddress ∧ plainFrame.kind = kindRequest) ∧ nodeOrBroadcast 0 = false ∧
    nodeOrBroadcast 120 = false ∧ nodeOrBroadcast 1 = true ∧ nodeOrBroadcast 126 = false :=
  ⟨portFree_svc _ _, by decide, by decide, by decide, by decide, by decide, by decide, by decide⟩

theorem test_meets_full_p_to_s :
    (List.replicate 15 plainFrame).length < 16 ∧ sampleOf64.isSample = true ∧ plainFrame.isSample = false ∧
      (List.replicate 7 plainFrame ++ sampleOf64 :: .replicate 8 sampleOf64).length = 16 ∧
      ∀ x ∈ List.replicate 16 plainFrame, x.isSample = false := by decide

/-- A full response queue with a held response, a commanded reset pending, and the last place. -/
theorem test_meets_discarded_request : requestOf (.readStatus 1 2) = some (1, 2, .readStatus) ∧
    (svc .armed).portFree .s ∧ Req.readStatus.payload.length ≤ 48 ∧
    (fullOfResponses (svc .armed)).takesRequest = false ∧
    ({ svc .armed with mgmt.cmdReset := .pending } : State).takesRequest = false ∧
    (sBusy { svc .armed with mgmt.responses := .replicate 3 plainResponse }).takesRequest = true :=
  ⟨rfl, portFree_svc _ _, by decide, by decide, by decide, by decide⟩

/-- A code that is not in the table, and a length that is not the code's. -/
theorem test_meets_bad_request : (svc .armed).OpenTo ∧ parseRequest 0x0A [] = none ∧ parseRequest 0x01 [0] = none :=
  ⟨openTo_svc _, by decide, by decide⟩

/-- Places at the ends of the tables, a run with a plan and none, and a slot of each kind. -/
theorem test_meets_reads : (svc .armed).OpenTo ∧ readPlace 3 2 119 1 = some (3, .node) ∧ readPlace 3 2 0 1 = none ∧
    (svc .armed).runner.run.plan = none ∧ (running .queued (svc .shutting)).runner.run.plan ≠ none ∧
    ((running .queued (svc .shutting)).stepCfg 0).prereqs.length ≤ 4 ∧
    ring79[(0 : Fin 16)] = .record (recordAt 200 50 1 .restarted) ∧ ring79[(9 : Fin 16)] = .damaged ∧
    ring79[(15 : Fin 16)] = .blank :=
  ⟨openTo_svc _, by decide, by decide, by decide, by decide, by decide, by decide +kernel, by decide +kernel,
    by decide +kernel⟩

/-- READ_STATUS holds the site's place in its first characters, and the times of READ_CHANNEL stand high byte first. -/
theorem test_read_fields :
    let s : State := { svc .safeHold with site.level := 2, site.trip := 258, site.record := some 15 }
    (fieldAt s.statusSite 0 1, fieldAt s.statusSite 1 1, fieldAt s.statusSite 3 2, fieldAt s.statusSite 5 1) =
      (3, 2, 258, 15) := by decide +kernel

/-- A wrong length, a place outside the table, an unknown name, a commit in progress, and a record that is written. -/
theorem test_meets_write_shadow : (svc .armed).OpenTo ∧ shadowLengthOk 0 1 [1] = false ∧
    shadowLengthOk 0 1 [1, 2] = true ∧ readPlace 3 0 0 1 = none ∧ readPlace 2 0 0 1 = some (2, .header) ∧
    ((svc .armed).store.shadow.writeRecords 2 .header 0 1 [65, 9]).map Prod.snd = some true ∧
    shadowLengthOk 2 1 [2, 0, 0, 0, 0] = true ∧ readPlace 3 2 119 1 = some (3, .node) ∧
    ((svc .armed).store.shadow.writeRecords 3 .node 119 1 [2, 0, 0, 0, 0]).isNone = true ∧
    ({ svc .armed with store.commit := some ⟨1, 0, .replicate 4 true, {}⟩ } : State).store.commit.isSome = true :=
  ⟨openTo_svc _, by decide, by decide, by decide, by decide, by decide +kernel, by decide, by decide,
    by decide +kernel, by decide⟩

/-- Two records at the end of a table, the second with a number below its range, beside one that stays (R137). -/
theorem test_records_are_written_one_by_one :
    readPlace 3 6 22 2 = some (3, .source) ∧ [0, 2, 1, 1, 0, 0].length = 2 * RecordKind.source.size ∧
    ((({} : Blocks).writeRecords 3 .source 22 2 [0, 2, 1, 1, 0, 0]).map fun (bs, x) =>
      (recordIn bs 3 .source 22, recordIn bs 3 .source 23, recordIn bs 3 .source 21 == recordIn {} 3 .source 21, x)) =
      some (some (.source ⟨false, 2, .low⟩), some (.source ⟨true, 1, .high⟩), true, true) := by decide +kernel

/-- The ends of the ranges, and a record of each kind. -/
theorem test_meets_records_read_back :
    readStep (StepCfg.chars { action := .cut, target := some 119, prereqs := [0, 63, 1, 2], dwell := 65535
                              deadline := 10000, reissues := 3, policy := .escalate }) =
        some ({ action := .cut, target := some 119, prereqs := [0, 63, 1, 2], dwell := 65535
                deadline := 10000, reissues := 3, policy := .escalate }, false) ∧
      readChannelCfg (ChanCfg.chars ⟨true, 119, 5, 12, 255, 254, 1000, 32767, 255, 65535, 2000⟩) =
        some (⟨true, 119, 5, 12, 255, 254, 1000, 32767, 255, 65535, 2000⟩, false) ∧
      readHeader (Plan.headerChars { stepCount := 64, slotLimit := 8 }) = some ((64, 8), false) ∧
      readZoneCfg (ZoneCfg.chars ⟨[31, 0], 8, 1, 5000, .hold⟩) = some (⟨[31, 0], 8, 1, 5000, .hold⟩, false) ∧
      readClassCfg (ClassCfg.chars ⟨600000, 100, 0, true⟩) = some (⟨600000, 100, 0, true⟩, false) ∧
      readSourceCfg (SourceCfg.chars ⟨false, 2, .high⟩) = some (⟨false, 2, .high⟩, false) ∧
      readSiteCfg (SiteCfg.chars ⟨119, .replicate 5 255, 600, 3600, 0, 9, 9⟩) =
        some (⟨119, .replicate 5 255, 600, 3600, 0, 9, 9⟩, false) := by decide +kernel

/-- Numbers just outside their ranges, and names just outside their sets (R137). -/
theorem test_clamps_and_sets :
    readHeader [65, 0] = some ((64, 1), true) ∧ readSourceCfg [1, 3, 1] = some (⟨true, 2, .low⟩, true) ∧
    readSourceCfg [2, 1, 0] = none ∧ (readStep [0, 255, 0, 255, 255, 255, 255, 0, 0, 0, 9, 4, 0]).map
      (fun x => (x.1.target, x.1.deadline, x.1.reissues, x.2)) = some (none, 10, 3, true) ∧
    readStep [1, 120, 0, 255, 255, 255, 255, 0, 0, 0, 10, 0, 0] = none ∧
    readStep [1, 5, 5, 0, 0, 0, 0, 0, 0, 0, 10, 0, 0] = none := by decide

/-- A plan whose step 0 names itself is a fault; a plan on a node that block 3 lacks is an inconsistency. -/
def faulty : State :=
  { svc .armed with
    store.activeProtection := .replicate 4 false
    store.shadow.l1 := { stepCount := 1, steps := (Vector.replicate 64 {}).set 0 { prereqs := [0] } }
    store.cond := .replicate 4 .valid
    nv.blocks.l2 := { stepCount := 1, steps := (Vector.replicate 64 {}).set 0 { action := .cut, target := some 5 } } }

theorem test_meets_commit : (svc .armed).OpenTo ∧ faulty.OpenTo ∧
    readBlockSet 15 = some (.replicate 4 true) ∧ readBlockSet 16 = none ∧ anyOf (.replicate 4 true) = true ∧
    (svc .armed).atRest = true ∧ (svc .shutting).atRest = false ∧ (svc .armed).protects (.replicate 4 true) = true ∧
    faulty.protects (.replicate 4 true) = false ∧ (faulty.shadowFault #v[true, false, false, false]).isSome = true ∧
    (faulty.shadowFault #v[false, false, false, true]).isNone = true ∧
    (faulty.inconsistency #v[false, false, false, true]).isSome = true ∧
    (faulty.shadowFault #v[false, true, false, true]).isNone = true ∧
    (faulty.inconsistency #v[false, true, false, true]).isNone = true :=
  ⟨openTo_svc _, ⟨⟨by decide, by decide⟩, by decide⟩, by decide +kernel, by decide, by decide, by decide, by decide,
    by decide, by decide, by decide +kernel, by decide +kernel, by decide +kernel, by decide +kernel, by decide +kernel⟩

/-- Of two faults the one of the lower check is found, and of two records the lower (R139). -/
theorem test_first_fault :
    faulty.shadowFault #v[true, false, false, false] = some ⟨0, .step, 0, .prerequisiteOrder⟩ ∧
    faulty.inconsistency #v[false, false, false, true] = some ⟨1, .step, 0, .targetAbsent⟩ ∧
    tablesFault { channels := .replicate 32 { ls := 4, rOff := 20 } } = some ⟨3, .channel, 0, .shiftOrder⟩ ∧
    tablesFault { zones := (Vector.replicate 8 {}).set 7 { members := [3, 3], kOn := 3 } } =
      some ⟨3, .zone, 7, .memberRepeated⟩ := by decide +kernel

/-- A set queued afresh and in place; and each word: never written, cut short, with its check and with another. -/
theorem test_meets_protection : (svc .armed).OpenTo ∧ (readBlockSet 0).isSome = true ∧
    ([.block 0] : List OtherWrite).any OtherWrite.isProtection = false ∧ (svc .armed).protectionBusy = false ∧
    (writes { svc .armed with store.otherWrites := [.block 0, .protection (.replicate 4 true)] }).protectionBusy = true ∧
    (svc .armed).nv.protection = .neverWritten ∧
    (ProtectionWord.names #v[true, false, false, true] (crc16 (blockMask #v[true, false, false, true]))).active =
      #v[true, false, false, true] ∧ crc16 (blockMask #v[true, false, false, true]) ≠ 0 :=
  ⟨openTo_svc _, by decide, by decide, by decide, by decide, by decide, by decide +kernel, by decide +kernel⟩

/-- A hold whose quiet time has elapsed. -/
def quietHold : State :=
  { svc .safeHold with
    site.hold := some .shutdownComplete, site.level := 2, site.record := some 0, trig.quietElapsed := true
    store.ring := ((Vector.replicate 16 .blank).set 0 (.record (recordOf 1 2 .isOpen))).set 15 .damaged }

theorem test_meets_authorize : quietHold.OpenTo ∧ quietHold.CopyAgrees ∧ quietHold.RingSound ∧
    quietHold.site.state = .safeHold ∧ quietHold.trig.quietElapsed = true ∧ quietHold.activeCondition = false ∧
    lowestDamaged quietHold.store.ring = some 15 ∧ (svc .armed).site.state ≠ .safeHold ∧
    (svc .safeHold).trig.quietElapsed = false ∧
    ({ quietHold with channels := quietHold.channels.set 31 { state := .onset } } : State).activeCondition = true :=
  ⟨⟨⟨by decide, by decide⟩, by decide⟩, ⟨rfl, rfl⟩, ⟨by decide +kernel, by decide, by decide⟩, rfl, rfl,
    by decide +kernel, by decide +kernel, by decide, rfl, by decide +kernel⟩

/-- A restart under way with its record, with a damaged slot beside it, and without a current record. -/
theorem test_meets_completion :
    let s := levelOne .restarting
    s.site.state = .restarting ∧ s.site.record = some 15 ∧ s.store.ring[(15 : Fin 16)] = .record (recordOf 1 1 .isOpen) ∧
      s.anyDamaged = false ∧ ({ s with store.ring := s.store.ring.set 0 .damaged } : State).anyDamaged = true ∧
      0 < s.site.requestLevel ∧ (svc .restarting).site.record = none ∧ (svc .restarting).site.requestLevel = 0 := by
  decide +kernel

theorem test_meets_abort : (svc .armed).OpenTo ∧ (svc .restarting).OpenTo ∧ (svc .restarting).site.state = .restarting ∧
    (running .queued (svc .restarting)).OpenTo ∧ (running .queued (svc .restarting)).runner.run.status = .running :=
  ⟨openTo_svc _, openTo_svc _, rfl, ⟨⟨by decide, by decide⟩, by decide⟩, rfl⟩

/-- FORCED clear and set; a request of no change and of a change; and each state in which the site takes no trip. -/
theorem test_meets_force : (svc .armed).OpenTo ∧ (svc .armed).trig.flags[(0 : Fin 24)] = false ∧
    (after (.forceTrip 1 2 2) (svc .armed)).trig.flags[(0 : Fin 24)] = true ∧
    (svc .armed).trig.requestLevel < 2 ∧ (after (.forceTrip 1 2 2) (svc .unconfigured)).trig.requestLevel = 2 ∧
    (svc .armed).requestLevelNow = (svc .armed).trig.requestLevel ∧ (svc .armed).causeNow = (svc .armed).trig.cause ∧
    ({ svc .armed with trig.flags := (Vector.replicate 24 false).set 23 true } : State).requestLevelNow = 1 ∧
    ({ svc .armed with trig.flags := (Vector.replicate 24 false).set 23 true } : State).causeNow = some 23 ∧
    (svc .shutting).site.level ≠ 1 ∧ (levelOne .safeHold).site.level = 1 :=
  ⟨openTo_svc _, by decide, by decide +kernel, by decide, by decide +kernel, by decide +kernel, by decide +kernel,
    by decide +kernel, by decide +kernel, by decide, by decide⟩

theorem test_meets_clear : (svc .unconfigured).OpenTo ∧ (svc .armed).OpenTo := ⟨openTo_svc _, openTo_svc _⟩

theorem test_meets_zones : (svc .armed).OpenTo ∧ (svc .shutting).OpenTo ∧ (8 : Byte).toNat = 8 ∧
    (7 : Byte).toNat = (7 : Fin 8).val ∧ (svc .armed).voter.zones[(7 : Fin 8)].isolated = false ∧
    (setIsolated 7 true (svc .armed)).OpenTo ∧
    (setIsolated 7 true (svc .armed)).voter.zones[(7 : Fin 8)].isolated = true :=
  ⟨openTo_svc _, openTo_svc _, by decide, by decide, by decide, ⟨⟨by decide, by decide⟩, by decide⟩, by decide⟩

theorem test_meets_settings_and_resets : (svc .armed).OpenTo ∧ (svc .shutting).OpenTo ∧ (svc .restarting).OpenTo :=
  ⟨openTo_svc _, openTo_svc _, openTo_svc _⟩

theorem test_meets_p_transmission_end :
    ({ svc .armed with link.pTx := some ⟨plainFrame.line, .forwarded⟩ } : State).link.pTx = some ⟨plainFrame.line, .forwarded⟩ ∧
      ({ svc .armed with link.pTx := some ⟨plainFrame.line, .injected 255⟩ } : State).link.pTx =
        some ⟨plainFrame.line, .injected 255⟩ := ⟨rfl, rfl⟩

/-- A plain frame's end, a port reset's with and without another that waits, and the part reset's. -/
theorem test_meets_s_transmission_end : (svc .armed).isRunning = true ∧ (svc .armed).awaitsPortReset = false ∧
    (sBusy { svc .armed with mgmt.responses := [{ plainResponse with mark := .portReset }] }).awaitsPortReset = true ∧
    ({ svc .armed with link.sReset := .pending, link.sTx := some ⟨plainFrame.line, .portReset⟩ } : State).link.sReset =
      .pending ∧
    ({ svc .armed with mgmt.cmdReset := .pending, link.sTx := some ⟨plainFrame.line, .partReset⟩ } : State).mgmt.cmdReset =
      .pending := by decide

/-- Each source alone, and none, with what comes before the choice taken. -/
theorem test_meets_p_arbiter :
    let trip := ({ svc .armed with site.tripPending := true } : State).caughtUpTo 5
    let injected := ({ svc .armed with runner.injection := [⟨0, 119, .cut, false⟩] } : State).caughtUpTo 5
    let forwarded := ({ svc .armed with router.sToP := [plainFrame] } : State).caughtUpTo 5
    (trip.isRunning = true ∧ trip.link.pTx = none ∧ trip.site.tripPending = true) ∧
    (injected.link.pTx = none ∧ injected.site.tripPending = false ∧
      injected.runner.injection = [⟨0, 119, .cut, false⟩]) ∧
    (forwarded.link.pTx = none ∧ forwarded.runner.injection = [] ∧ forwarded.router.sToP = [plainFrame]) ∧
    ((svc .armed).nothingFollows = true ∧ (svc .armed).link.pTx = none ∧ followsEvent (.forceTrip 1 2 2) = false) := by
  decide +kernel

/-- R178's example: the frame that joins the S→P queue in the event before a plan's command goes first, and the TRIP
broadcast waits for its end. -/
theorem test_first_ready_is_sent_first :
    let s := after (.forceTrip 1 2 2) (after (.sOtherFrame 5 1 0x99 0 []) (svc .armed))
    (s.link.pTx.map PSending.source = some .forwarded ∧ s.site.tripPending = true) ∧
      (s.caughtUp.link.pTx.map PSending.source = some .forwarded) := by decide +kernel

/-- A frame that joins the P→S queue in the event before a response goes first (R179). -/
theorem test_first_ready_on_the_s_port :
    let s := after (.readCounters 1 2 4) (after (.pOtherFrame 1 64 0x99 0 []) (svc .armed))
    (s.link.sTx.map fun x => (x.line.drop 2).head?.map LineChar.value) = some (some 0x99) ∧
      s.mgmt.responses.length = 1 := by decide +kernel

/-- A response with one part left, one with two (45 characters), a notice, a forwarded frame, and a pending reset, with what
comes before the choice taken. -/
theorem test_meets_s_arbiter : plainResponse.parts ≤ plainResponse.sent + 1 ∧
    (({ plainResponse with data := .replicate 45 0 } : Response).sent + 1 <
      ({ plainResponse with data := .replicate 45 0 } : Response).parts) ∧
    (let s := ({ svc .armed with mgmt.responses := [plainResponse] } : State).caughtUpTo 6
     s.isRunning = true ∧ s.link.sTx = none ∧ s.mgmt.responses = [plainResponse]) ∧
    (({ svc .armed with link.sReset := .pending } : State).caughtUpTo 6).link.sReset ≠ .none ∧
    (({ svc .armed with router.notice := some plainFrame } : State).caughtUpTo 6).router.notice = some plainFrame ∧
    (let s := ({ svc .armed with router.pToS := [plainFrame] } : State).caughtUpTo 6
     s.router.notice = none ∧ s.router.pToS = [plainFrame] ∧ s.mgmt.responses = [] ∧ s.link.sReset = .none ∧
      s.mgmt.cmdReset = .none) := by decide +kernel

/-- A RESET_PART response that waits behind an S-port reset that is due is still chosen, and its end makes the part reset
due (R179, R189). -/
theorem test_part_reset_passes_a_due_port_reset :
    let s : State := { svc .armed with
      link.sReset := .due, mgmt.cmdReset := .pending
      mgmt.responses := [{ plainResponse with code := 0x34, mark := .partReset }] }
    (after .sTransmissionEnd (after .sArbiterChoice s)).mgmt.cmdReset = .due ∧
      (after .sPortResetEffect s).mgmt.responses.length = 1 := by decide +kernel

/-- Each reset at its time, an S-port reset due under a commanded reset, a held response with the last place; and two frames
that wait for idle ports. -/
theorem test_meets_port_resets :
    (let s := ({ svc .armed with link.sReset := .due } : State).caughtUpTo 2
     s.isRunning = true ∧ s.link.sReset = .due ∧ s.mgmt.cmdReset = .none) ∧
    (({ svc .armed with link.sReset := .due, mgmt.cmdReset := .pending } : State).caughtUpTo 2).mgmt.cmdReset ≠ .none ∧
    (let s := ({ svc .armed with link.pReset := true } : State).caughtUpTo 3
     s.link.pReset = true ∧ s.link.pTx = none) ∧
    (let s := ({ svc .armed with mgmt.held := [plainResponse], mgmt.responses := .replicate 3 plainResponse } :
      State).caughtUpTo 4
     s.mgmt.held = [plainResponse] ∧ s.mgmt.responses.length < 4) ∧
    (let s : State := { svc .armed with router.sToP := [plainFrame], router.pToS := [plainFrame] }
     s.pending = [] ∧ s.caughtUp.nothingFollows = true) := by decide +kernel

theorem test_idle_steps_catch_up :
    let s : State := { svc .armed with router.sToP := [plainFrame], router.pToS := [plainFrame] }
    steps 2 s = .next s.caughtUp := rfl

theorem test_meets_stale : (svc .armed).isRunning = true ∧
    ({ svc .armed with channels := (Vector.replicate 32 {}).set 31 { settled with staleTimer := some 0 } } :
      State).channels[(31 : Fin 32)].staleTimer = some 0 ∧ (svc .armed).tables.zoneOf 31 = none := by decide

/-- A return to QUIET stamps as the state left tells, and any other change ends the stamps (R33). -/
theorem test_stamps_by_the_state_left :
    let m : Member := ⟨.strong, true, none, none⟩
    m.take ⟨3, .priming, true⟩ 5 10 = ⟨.priming, true, some 15, some 15⟩ ∧
      ({ m with state := .onset } : Member).take ⟨3, .quiet, true⟩ 5 10 = ⟨.quiet, true, some 15, none⟩ ∧
      (⟨.quiet, true, some 15, some 15⟩ : Member).take ⟨3, .onset, true⟩ 5 10 = ⟨.onset, true, none, some 15⟩ := by decide

/-- Channel 31 stands in zone 7's list, its stamp just reached. -/
def stamped : State :=
  { svc .armed with
    now := 5
    store.work.site.zones := (Vector.replicate 8 {}).set 7 { members := [31] }
    voter.members := (Vector.replicate 32 {}).set 31 { onsetUntil := some 5, strongUntil := some 5 } }

theorem test_meets_stamps : stamped.tables.zoneOf 31 = some 7 ∧ reached stamped.now 5 = true ∧
    stamped.voter.members[(31 : Fin 32)].onsetUntil = some 5 ∧
    stamped.voter.members[(31 : Fin 32)].strongUntil = some 5 := by decide +kernel

/-- A change to active with the flag clear and with it set, and a change to inactive. -/
theorem test_meets_trip_input :
    (svc .armed).trig.flags[srcContact 3] = false ∧
    ({ svc .armed with trig.flags := .replicate 24 true } : State).trig.flags[srcContact 3] = true ∧
    ({ svc .armed with trig.inputs := (Vector.replicate 5 {}).set 3 ⟨false, 20, true⟩ } :
      State).trig.inputs[(3 : Fin 4).castSucc].due = true ∧
    ({ svc .armed with trig.inputs := (Vector.replicate 5 {}).set 3 ⟨true, 20, true⟩ } :
      State).trig.inputs[(3 : Fin 4).castSucc].active = true := by decide

/-- UTILITY_OK about to change either way, with a dwell and with none, a dwell just run, and a step that waits for the
feed in a run. -/
theorem test_meets_feed :
    ({ svc .armed with trig.inputs := (Vector.replicate 5 {}).set 4 ⟨false, 20, true⟩ } :
      State).trig.inputs[(4 : Fin 5)].due = true ∧ 0 < (svc .armed).params.feedDwell ∧
    ({ svc .armed with store.work.site.site.feedDwell := 0 } : State).params.feedDwell = 0 ∧
    (svc .armed).params.feedDwell * 1000 ≤ ((60000 : Time) - 0).toNat ∧
    (running .waitingFeed (svc .restarting)).runner.run.status = .running ∧
    (running .waitingFeed (svc .restarting)).runner.steps[(0 : Fin 64)].state = .waitingFeed ∧
    (svc .armed).runner.run.status ≠ .running := by decide

theorem test_meets_warning_expiry : (svc .armed).isRunning = true ∧
    fullTable.trig.warnings[(3 : Fin 4)] = some ⟨4, 6, 0, 120000, 900000⟩ ∧ reached 900000 900000 = true := by decide

/-- A timer run out, a second due, and a pin's change, which is no sample. -/
theorem test_meets_quiet_seconds_pins :
    ({ svc .armed with trig.quiet := some 0 } : State).trig.quiet = some 0 ∧
      ({ svc .armed with mgmt.secondDue := true } : State).mgmt.secondDue = true ∧
      (svc .armed).pins.level 3 ≠ false ∧ (svc .armed).pins.level 4 ≠ true ∧
      (after (.rawInputLevelChange 4 true) (svc .armed)).trig.inputs = (svc .armed).trig.inputs ∧
      (tick (after (.rawInputLevelChange 4 true) (svc .armed))).trig.inputs[(4 : Fin 5)].count = 1 := by decide +kernel

theorem test_meets_dwell : (running .waitingDwell (svc .shutting)).isRunning = true ∧
    (running .waitingDwell (svc .shutting)).runner.steps[(0 : Fin 64)].state = .waitingDwell ∧
    (running .waitingDwell (svc .shutting)).runner.steps[(0 : Fin 64)].timer = some 0 ∧
    ((withNode 31 .pdu (svc .shutting)).nodeCfg 31).present = true ∧
    (withNode 31 .pdu (svc .shutting)).nodeIsolated 31 = false := by decide +kernel

/-- An entry with a re-issue left and with none, and a tag that an entry holds. -/
theorem test_meets_deadline :
    ({ running .issued (svc .shutting) with runner.outstanding := [entryOf0 1] } : State).entryOf 0 = some (entryOf0 1) ∧
      ({ running .issued (svc .shutting) with runner.outstanding := [entryOf0 0] } : State).entryOf 0 =
        some (entryOf0 0) ∧ (running .issued (svc .shutting)).runner.run.status = .running ∧
      ({ running .issued (svc .shutting) with runner.outstanding := [entryOf0 0], runner.tagCounter := 7 } :
        State).nextTag = 8 := by decide +kernel

theorem test_meets_ready_and_settle :
    (running .awaitingState (svc .shutting)).runner.steps[(0 : Fin 64)].state = .awaitingState ∧
      (running .settling (svc .restarting)).runner.steps[(0 : Fin 64)].state = .settling ∧
      (running .settling (svc .restarting)).runner.steps[(0 : Fin 64)].timer = some 0 := by decide

/-- A run that a failure with HALT ends, one whose steps are all terminal, one that goes on, and no run; and the parts of a
settling: a BLOCKED step with an ended prerequisite, steps QUEUED for a last slot, and a rise with a report. -/
theorem test_meets_terminal : (svc .armed).runner.steps[(63 : Fin 64)].state.terminal = true ∧
    (running .failed (svc .shutting)).runner.steps[(0 : Fin 64)].state.terminal = true ∧
    (svc .armed).runner.run.status ≠ .running ∧
    (let s := running .failed (svc .shutting)
     ({ s with store.work.l1.steps := s.store.work.l1.steps.set 0 { policy := .halt } } : State).stepCfg 0 =
        { policy := .halt } ∧ (s.stepCfg 0).policy ≠ .halt ∧ s.runner.run.plan = some .l1) ∧
    (running .done (svc .shutting)).runner.steps[(1 : Fin 64)].state.terminal = true ∧
    (running .queued (svc .shutting)).runner.steps[(0 : Fin 64)].state = .queued ∧
    (running .blocked (svc .shutting)).runner.steps[(0 : Fin 64)].state = .blocked ∧
    (levelOne .shutting).site.level = 1 := by decide +kernel

/-- A slot that frees goes to the one QUEUED step, and its frame to the injection queue (R103, R115). -/
theorem test_grant_issues_a_queued_step :
    let s := grantSlots (running .queued (svc .shutting))
    s.runner.steps[(0 : Fin 64)].state = .issued ∧ s.runner.injection = [⟨0, 31, .shed, false⟩] ∧
      s.runner.queued = [] := by decide +kernel

/-- An entry that waits for its reply, matched and unmatched, awaiting RUN and another state, with a settle dwell and
without, and a run that is off. -/
theorem test_meets_reply :
    let s : State := { running .issued (svc .shutting) with runner.outstanding := [entryOf0 1] }
    s.matchOf 31 7 = some (entryOf0 1) ∧ s.matchOf 31 8 = none ∧ Action.awaited .energize = .run ∧
      (s.stepCfg 0).action.awaited ≠ .fault ∧ (s.classOf 31).settleDwell = 0 ∧ 0 < (entryOf0 1).left ∧
      (entryOf0 0).left = 0 ∧ (svc .armed).runner.run.status ≠ .running := by decide +kernel

/-- BUSY with a re-issue left tries again, BUSY with none fails the step (R119). -/
theorem test_busy_reply :
    let s := fun left => ({ running .issued (svc .shutting) with runner.outstanding := [entryOf0 left] } : State)
    (matchedReply (entryOf0 1) .run 2 (s 1)).1.runner.outstanding.map Entry.left = [0] ∧
      (matchedReply (entryOf0 0) .run 2 (s 0)).1.runner.steps[(0 : Fin 64)].reason = some .busy := by decide +kernel

/-- The notice of a trip: SHUTTING at level 2, no hold reason, cause 0, trip 1, outcome RUNNING (R85, R182). -/
theorem test_notice_of_a_trip :
    let s : State := { svc .armed with
      store.work.l2 := { stepCount := 1, slotLimit := 1, steps := .replicate 64 { dwell := 1 } } }
    (takeRequest 2 (some 0) s).router.notice = some ⟨1, 120, 0x42, 0, [2, 2, 255, 0, 0, 1, 0]⟩ := by decide +kernel

/-- A rise in ARMED; and a shutdown with its record, whose run is on and whose run has ended. -/
theorem test_meets_rise_in_armed : (svc .armed).site.state = .armed ∧ (svc .armed).site.requestLevel < 1 ∧
    (levelOne .shutting).site.record = some 15 ∧
    (takeRequest 1 none { svc .armed with
      store.work.l1 := { stepCount := 1, slotLimit := 1, steps := .replicate 64 { dwell := 1 } } }).runner.run.status =
        .running ∧
    (takeRequest 1 none (svc .armed)).runner.run.status = .complete := by decide +kernel

theorem test_meets_rise_to_two : (levelOne .shutting).site.state = .shutting ∧
    (levelOne .safeHold).site.state = .safeHold ∧ (levelOne .safeHold).site.level = 1 ∧
    (levelOne .safeHold).site.requestLevel < 2 ∧
    (levelOne .safeHold).store.ring[(15 : Fin 16)] = .record (recordOf 1 1 .isOpen) ∧
    (levelOne .restarting).site.state = .restarting ∧ (levelOne .restarting).site.requestLevel < 2 ∧
    (takeRequest 2 none (levelOne .safeHold)).runner.run.status ≠ .running ∧
    (svc .restarting).site.state = .restarting ∧ (svc .restarting).site.record = none ∧
    (svc .restarting).site.requestLevel < 1 := by decide +kernel

theorem test_meets_write_queue :
    (let s := ({ svc .armed with store.recordWrites := [⟨15, recordOf 1 1 .isOpen⟩] } : State).caughtUpTo 8
     s.isRunning = true ∧ s.store.writing = none ∧ s.store.recordWrites = [⟨15, recordOf 1 1 .isOpen⟩]) ∧
    (let s := ({ svc .armed with store.otherWrites := [.block 3, .protection (.replicate 4 true)] } : State).caughtUpTo 8
     s.store.recordWrites = [] ∧ s.store.otherWrites = [.block 3, .protection (.replicate 4 true)]) ∧
    ({ svc .armed with store.writing := some ⟨.other (.block 0), 25⟩ } : State).caughtUp.store.writing =
      some ⟨.other (.block 0), 25⟩ ∧
    ({ svc .armed with store.writing := some ⟨.other (.protection (.replicate 4 true)), 0⟩ } : State).caughtUp.store.writing =
      some ⟨.other (.protection (.replicate 4 true)), 0⟩ := by decide +kernel

/-- A record write requested again takes the place of the one that waits for its slot, at the queue's end (R145). -/
theorem test_record_write_is_replaced :
    (requestWrite ⟨3, recordOf 2 1 .isOpen⟩ { svc .armed with
      store.recordWrites := [⟨3, recordOf 1 1 .isOpen⟩, ⟨5, recordOf 1 1 .isOpen⟩] }).store.recordWrites.map
        (fun w => (w.slot, w.image.trip)) = [(5, 1), (3, 2)] := by decide +kernel

/-- The last block of a commit, one before it, at rest and in a shutdown. -/
def programmed (st : SiteState) (later : List OtherWrite) : State :=
  { svc st with
    store.writing := some ⟨.other (.block 0), 0⟩, store.otherWrites := later
    store.commit := some ⟨1, 7, #v[true, false, false, true], {}⟩ }

theorem test_meets_block_end : (programmed .armed []).store.writing = some ⟨.other (.block 0), 0⟩ ∧
    (programmed .armed []).store.commit.isSome = true ∧ (programmed .armed []).atRest = true ∧
    (programmed .shutting []).atRest = false ∧
    (programmed .armed [.block 3]).store.otherWrites.any OtherWrite.isBlock = true ∧
    (programmed .armed []).store.otherWrites.any OtherWrite.isBlock = false := by decide +kernel

/-- An activation pending without and with block 3; UNCONFIGURED with four valid working copies, with and without an OPEN
record, a damaged slot and a request. -/
theorem test_meets_deferred_activation :
    (({ svc .safeHold with site.activationPending := true, store.awaiting := #v[false, false, true, false] } :
      State).caughtUpTo 1).site.activationPending = true ∧ (svc .safeHold).site.state = .safeHold ∧ (svc .armed).site.state = .armed ∧
    ({ svc .armed with store.awaiting := .replicate 4 true } : State).store.awaiting[(3 : Fin 4)] = true ∧
    (svc .armed).store.awaiting[(3 : Fin 4)] = false ∧ (svc .unconfigured).anyDamaged = false ∧
    openSlot (svc .unconfigured).store.ring = none ∧ openSlot (levelOne .unconfigured).store.ring = some 15 ∧
    ({ svc .unconfigured with store.ring := ring79 } : State).anyDamaged = true ∧
    (activate { svc .unconfigured with store.awaiting := .replicate 4 true }).site.state = .armed := by decide +kernel

/-- As `svc_settled`, for the states of the witnesses above that are not `svc` itself. -/
theorem test_witnesses_are_caught_up :
    [withNode 119 .sensor (svc .armed), withNode 119 .gateway (svc .armed), withNode 64 .sensor (svc .armed), fullTable,
      refusing (svc .armed), pBusy { svc .armed with router.sToP := .replicate 8 plainFrame },
      fullOfResponses (svc .armed), sBusy { svc .armed with mgmt.responses := .replicate 3 plainResponse },
      { svc .armed with mgmt.cmdReset := .pending }, { svc .armed with store.commit := some ⟨1, 0, .replicate 4 true, {}⟩ },
      faulty, writes { svc .armed with store.otherWrites := [.block 0, .protection (.replicate 4 true)] }, quietHold,
      running .queued (svc .restarting), running .waitingDwell (svc .shutting), running .settling (svc .restarting),
      { running .issued (svc .shutting) with runner.outstanding := [entryOf0 1] }, stamped,
      setIsolated 7 true (svc .armed), { svc .armed with link.pTx := some ⟨plainFrame.line, .injected 255⟩ },
      { svc .armed with link.sReset := .pending, link.sTx := some ⟨plainFrame.line, .portReset⟩ },
      { svc .armed with trig.inputs := (Vector.replicate 5 {}).set 3 ⟨false, 20, true⟩ },
      { svc .armed with trig.quiet := some 0, mgmt.secondDue := true }, programmed .armed [], programmed .shutting [.block 3],
      writes (svc .armed)].all State.nothingFollows = true := by decide +kernel

/-- A site in service, with a command in front of its queue. -/
def served : State := { svc .armed with pending := [.lossOfPower] }

theorem test_meets_counters : served.CountersBounded :=
  ⟨by unfold PortCount.Bounded; decide, by unfold PortCount.Bounded; decide, by unfold RouterCount.Bounded; decide,
    fun i => by
      have h : served.channels[i] = {} := Vector.getElem_replicate ..
      rw [h]; unfold Channel.CountersBounded; decide,
    by decide, by decide, by decide, by decide⟩

theorem served_ring (i : Fin 16) : served.store.ring[i] = .blank := Vector.getElem_replicate ..

theorem test_meets_records_checked : served.RecordsChecked :=
  ⟨fun i r h => (by rw [served_ring i] at h; cases h), fun _ h => by (cases h), fun _ _ h => by (cases h), fun i r h => by
    have e : served.nv.ring[i] = .blank := Vector.getElem_replicate ..
    rw [e] at h; cases h⟩

theorem served_warning (i : Fin 4) : served.trig.warnings[i] = none := Vector.getElem_replicate ..

theorem test_meets_alert : served.AlertFormed := by
  unfold State.AlertFormed
  constructor
  · intro h; cases h
  · rintro (⟨c, h⟩ | ⟨z, h⟩ | ⟨i, w, h, -⟩ | h)
    · have e : served.channels[c] = {} := Vector.getElem_replicate ..
      rw [e] at h; rcases h with h | h <;> cases h
    · have e : served.voter.zones[z] = {} := Vector.getElem_replicate ..
      rw [e] at h; rcases h with h | h <;> cases h
    · rw [served_warning i] at h; cases h
    · cases h

theorem test_meets_trip_out : served.TripOutHeld :=
  ⟨⟨rfl, rfl⟩, ⟨by decide, by unfold SiteTables.levelsInRange; decide, by unfold SiteTables.levelsInRange; decide,
    by unfold SiteTables.levelsInRange; decide, fun _ h => by (cases h)⟩, by decide, fun h => by (cases h),
    fun h => by (cases h)⟩

theorem test_meets_executor : served.RunnerSound ∧ served.LineTagUnique :=
  ⟨⟨by decide, by decide, by decide, by decide, fun _ h => by (cases h), by decide, by decide, by decide⟩,
    fun _ _ h => by (cases h)⟩

/-- A site in service meets the other invariants too, and steps. -/
theorem test_meets_invariants : served.QueuesBounded ∧ served.RingSound ∧ served.CopyAgrees ∧ served.SiteFits ∧
    served.WarningsDistinct ∧ ∃ t, step served = .next t :=
  ⟨⟨by decide, by decide, by decide⟩, ⟨by decide, by decide, by decide⟩, ⟨rfl, rfl⟩, ⟨by decide, by decide, by decide⟩,
    fun i j v w h => (by rw [served_warning i] at h; cases h), _, rfl⟩

end Sys2Proof.Tests
end

section
/-! SUPPORT. The state right after a power-on reset: its places one by one, and the invariants of a run in it. -/

namespace Sys2Proof.Machine

/-! ### The places of the vectors -/

theorem reset_channel (i : Fin 32) : State.reset.channels[i] = {} := Vector.getElem_replicate ..
theorem reset_member (c : Fin 32) : State.reset.voter.members[c] = {} := Vector.getElem_replicate ..
theorem reset_zone (z : Fin 8) : State.reset.voter.zones[z] = {} := Vector.getElem_replicate ..
theorem reset_flag (i : Fin 24) : State.reset.trig.flags[i] = false := Vector.getElem_replicate ..
theorem reset_input (i : Fin 5) : State.reset.trig.inputs[i] = {} := Vector.getElem_replicate ..
theorem reset_warning (i : Fin 4) : State.reset.trig.warnings[i] = none := Vector.getElem_replicate ..
theorem reset_runStep (i : Fin 64) : State.reset.runner.steps[i] = {} := Vector.getElem_replicate ..
theorem reset_slot (i : Fin 16) : State.reset.store.ring[i] = .blank := Vector.getElem_replicate ..
theorem reset_storedSlot (i : Fin 16) : State.reset.nv.ring[i] = .blank := Vector.getElem_replicate ..
theorem reset_node (a : Fin 128) : State.reset.router.nodes[a] = {} := Vector.getElem_replicate ..

/-- The plans of both copies are empty after a reset. -/
theorem reset_stepCount (p : PlanId) :
    (State.reset.store.work.plan p).stepCount = 0 ∧ (State.reset.store.shadow.plan p).stepCount = 0 := by
  cases p <;> exact ⟨rfl, rfl⟩

/-- Settles O8: the tables' items are the fields of `State.reset`, block by block. -/
theorem resetStateHoldsTheTablesValues : Obligations.ResetStateHoldsTheTablesValues := by
  unfold Obligations.ResetStateHoldsTheTablesValues
  intro t
  have inputs (i : Fin 5) : t.trig.inputs[i].active = false ∧ t.trig.inputs[i].count = 0 := by
    rw [reset_input]; exact ⟨rfl, rfl⟩
  have blocks : ∀ b : Fin 4, t.store.workValid[b] = false ∧ t.store.shadowValid[b] = false ∧
      t.store.activeProtection[b] = true ∧ t.store.awaiting[b] = false := by decide
  refine ⟨rfl, reset_channel, reset_member, reset_zone, reset_flag, rfl, rfl, rfl, rfl, rfl, inputs, rfl, rfl,
    reset_warning, ?_⟩
  -- the trigger unit's counters, timer and outputs, and the site
  refine ⟨rfl, rfl, rfl, rfl, rfl, rfl, rfl, rfl, rfl, rfl, rfl, rfl, rfl, rfl, rfl, rfl, ?_⟩
  -- the executor and the store
  refine ⟨rfl, reset_runStep, rfl, rfl, rfl, rfl, rfl, rfl, reset_stepCount, blocks, reset_slot, rfl, rfl, rfl, rfl,
    rfl, rfl, ?_⟩
  -- the ports, the router and the management unit
  exact ⟨rfl, rfl, rfl, rfl, rfl, rfl, rfl, rfl, reset_node, rfl, rfl, rfl, rfl, rfl, rfl, rfl, rfl, rfl, rfl, rfl⟩

/-! ### The invariants -/

theorem reset_ringSound : State.reset.RingSound where
  openIsCurrent i := by rw [reset_slot]; simp [Slot.isOpen, State.reset]
  armedClean h := by cases h
  outOfService _ := rfl

theorem reset_countersBounded : State.reset.CountersBounded where
  sPort := by unfold PortCount.Bounded; decide
  pPort := by unfold PortCount.Bounded; decide
  router := by unfold RouterCount.Bounded; decide
  channels i := by rw [reset_channel]; unfold Channel.CountersBounded; decide
  trigger := by decide
  executor := by decide
  store := by decide
  unit := by decide

theorem reset_runnerSound : State.reset.RunnerSound where
  issued _ h := by cases h
  steps := List.nodup_nil
  tags := List.nodup_nil
  slots := Nat.zero_le _
  frames _ h := by cases h
  framesOnce := List.nodup_nil
  idle _ := rfl
  beyond i _ := by rw [reset_runStep]

theorem reset_recordsChecked : State.reset.RecordsChecked where
  image i r h := by rw [reset_slot] at h; cases h
  waiting _ h := by cases h
  writing _ _ h := by cases h
  stored i r h := by rw [reset_storedSlot] at h; cases h

theorem reset_warningsDistinct : State.reset.WarningsDistinct := by
  intro i j v w h
  rw [reset_warning] at h; cases h

theorem reset_lineTagUnique : State.reset.LineTagUnique := fun _ _ h => by cases h

theorem reset_alertFormed : State.reset.AlertFormed := by
  simp only [State.AlertFormed, reset_channel, reset_zone, reset_warning]
  simp [State.reset]

theorem defaultTables_levelsInRange : SiteTables.levelsInRange {} := by unfold SiteTables.levelsInRange; decide

theorem reset_tripOutHeld : State.reset.TripOutHeld where
  copy := ⟨rfl, rfl⟩
  levels := ⟨by decide, defaultTables_levelsInRange, defaultTables_levelsInRange, defaultTables_levelsInRange,
    fun _ h => by cases h⟩
  request := Nat.zero_le _
  atRequest h := by cases h
  inShutting h := by cases h

theorem reset_channel_inRange (i : Fin 32) : State.reset.channels[i].InRange := by
  rw [reset_channel]; constructor <;> decide

/-- Settles O60. -/
theorem invariantsHoldAtReset : Obligations.InvariantsHoldAtReset :=
  ⟨⟨by decide, by decide, by decide⟩, reset_ringSound, ⟨rfl, rfl⟩, ⟨fun _ => rfl, fun _ => rfl, fun h => by cases h⟩,
    reset_countersBounded, reset_warningsDistinct, reset_runnerSound,
    reset_lineTagUnique, reset_recordsChecked, reset_alertFormed, reset_tripOutHeld, reset_channel_inRange⟩

end Sys2Proof.Machine
end

section
/-! SUPPORT. One millisecond: what a tick does to every clock, and the step of an empty queue. -/

namespace Sys2Proof.Machine

/-! ### A vector changed place by place -/

/-- What a pass over the places of a list leaves at place `i`, where each place is set from its own content. -/
theorem getElem_foldl_set {α : Type} {n : Nat} (g : Fin n → α → α) (l : List (Fin n)) (hl : l.Nodup) (v : Vector α n)
    (i : Fin n) :
    (l.foldl (fun v j => v.set j (g j v[j])) v)[i] = if i ∈ l then g i v[i] else v[i] := by
  induction l generalizing v with
  | nil => rfl
  | cons j l ih =>
    obtain ⟨hj, hl⟩ := List.nodup_cons.mp hl
    rw [List.foldl_cons, ih hl]
    by_cases hij : i = j
    · subst hij; simp [hj]
    · have hne : j.val ≠ i.val := fun h => hij (Fin.ext h.symm)
      simp [hij, Vector.getElem_set_ne _ _ hne]

/-- A pass over all places. -/
theorem foldl_set_finRange {α : Type} {n : Nat} (g : Fin n → α → α) (v : Vector α n) :
    (List.finRange n).foldl (fun v j => v.set j (g j v[j])) v = .ofFn fun i => g i v[i] := by
  ext i hi
  have := getElem_foldl_set g _ (List.nodup_finRange n) v ⟨i, hi⟩
  simpa using this

/-! ### The tick -/

/-- The inputs of a state after each input of a list has been sampled. -/
theorem foldl_sampleInput (l : List (Fin 5)) (s : State) :
    l.foldl (fun s i => sampleInput i s) s = { s with trig.inputs := l.foldl (fun v (i : Fin 5) =>
      v.set i (v[i].sample (s.rawActive i) s.params.debounce[i])) s.trig.inputs } := by
  induction l generalizing s with
  | nil => rfl
  | cons i l ih => rw [List.foldl_cons, ih]; rfl

/-- All five inputs are sampled, each once (R53). -/
theorem sampleAll_eq (s : State) :
    sampleAll s = { s with trig.inputs := .ofFn fun i =>
      s.trig.inputs[i].sample (s.rawActive i) s.params.debounce[i] } := by
  have inputs := foldl_set_finRange (fun i d => d.sample (s.rawActive i) s.params.debounce[i]) s.trig.inputs
  rw [sampleAll, foldl_sampleInput, inputs]

/-- The millisecond count by whether it can still advance (R187). -/
theorem advanceMs_eq (m : Mgmt) :
    advanceMs m = if m.siteMs < 999 then { m with siteMs := m.siteMs + 1 } else { m with secondDue := true } := by
  unfold advanceMs
  by_cases h : m.siteMs < 999
  · rw [if_pos h, if_neg (by omega)]
  · rw [if_neg h, if_pos (by omega)]

theorem tick_of_running {s : State} (h : s.phase = .running) : tick s = sampleAll (tickTimers s) := by
  unfold tick; rw [h]

theorem tick_of_loading {s : State} (h : s.phase = .loading) :
    tick s = { s with now := s.now + 1, mgmt := { advanceMs s.mgmt with loadTimer := s.mgmt.loadTimer - 1 } } := by
  unfold tick; rw [h]

theorem tick_of_stopped {s : State} (h : s.phase = .held ∨ s.phase = .unpowered) : tick s = s := by
  unfold tick; rcases h with h | h <;> rw [h]

/-- A contact's raw level is active where the pin is HIGH and active high, or LOW and active low (R53). -/
theorem rawActive_contact (s : State) (i : Fin 4) :
    s.rawActive i.castSucc = true ↔ (s.pins.trip[i] = true ↔ s.tables.sources[srcContact i].polarity = .high) := by
  have value : s.rawActive i.castSucc = (s.pins.trip[i] == (s.tables.sources[srcContact i].polarity == .high)) := by
    unfold State.rawActive
    rw [dif_pos (show i.castSucc.val < 4 from i.isLt)]
    rfl
  rw [value]
  cases s.pins.trip[i] <;> cases s.tables.sources[srcContact i].polarity <;> simp

theorem step_of_empty {s : State} (h : s.pending = []) : step s = idle s := by
  unfold step; rw [h]

/-- Settles O2. -/
theorem emptyQueueTakesTheDueEventOrTicks : Obligations.EmptyQueueTakesTheDueEventOrTicks := by
  unfold Obligations.EmptyQueueTakesTheDueEventOrTicks
  intro s
  refine ⟨fun hp => ⟨fun c hc => ?_, fun hn => ?_⟩, fun hr => ?_, rawActive_contact s, Iff.rfl, fun hl => ?_, fun h =>
    tick_of_stopped h⟩
  · rw [step_of_empty hp]; unfold idle; rw [hc]
  · rw [step_of_empty hp]; unfold idle; rw [hn]
  · rw [tick_of_running hr, sampleAll_eq, ← advanceMs_eq]; rfl
  · rw [tick_of_loading hl, advanceMs_eq]
    by_cases hm : s.mgmt.siteMs < 999
    · simp [hm, Nat.not_le.mpr hm]
    · simp [hm, Nat.not_lt.mp hm]

end Sys2Proof.Machine
end

section
/-! SUPPORT. The detector on one channel: what a sample's arithmetic and tests do, the ranges they keep (R2), and what a frame
leaves of a channel by its sequence class (R7 to R11). -/

namespace Sys2Proof.Machine

/-! ### A run of samples -/

/-- After a run of samples the channel is as the samples leave it, taken one after another (R5). -/
theorem sampleTrail_last (cfg : ChanCfg) (now : Time) (samples : List Sample) (c : Channel) :
    (sampleTrail cfg now c samples).getLastD c = samples.foldl (processSample cfg now) c := by
  induction samples generalizing c with
  | nil => rfl
  | cons a rest ih => rw [sampleTrail, List.getLastD_cons, ih, List.foldl_cons]

/-- Where the first sample seeds, the rest are taken by the channel that it leaves (R6). -/
theorem seedTrail_last (cfg : ChanCfg) (now : Time) (a : Sample) (rest : List Sample) (c d : Channel) :
    (seedTrail cfg now c (a :: rest)).getLastD d = rest.foldl (processSample cfg now) (seedChannel c a) := by
  rw [seedTrail, List.getLastD_cons, sampleTrail_last]

/-! ### What acceptance sets, no sample changes -/

/-- The items that a frame's acceptance sets: expected sequence, stale timer and the three frame counters. -/
def Channel.acceptance (c : Channel) : Byte × Option Nat × Nat × Nat × Nat :=
  (c.expected, c.staleTimer, c.missed, c.duplicates, c.resyncs)

theorem sampleTests_acceptance (cfg : ChanCfg) (now : Time) (c : Channel) (h : Nat) :
    (sampleTests cfg now c h).acceptance = c.acceptance := by
  unfold sampleTests testStrong testOnset
  dsimp only
  repeat' split
  all_goals rfl

theorem processSample_acceptance (cfg : ChanCfg) (now : Time) (c : Channel) (a : Sample) :
    (processSample cfg now c a).acceptance = c.acceptance :=
  sampleTests_acceptance cfg now (sampleArith cfg c a).1 _

theorem foldl_processSample_acceptance (cfg : ChanCfg) (now : Time) (samples : List Sample) (c : Channel) :
    (samples.foldl (processSample cfg now) c).acceptance = c.acceptance :=
  foldl_keeps Channel.acceptance _ (processSample_acceptance cfg now) samples c

theorem seedTrail_acceptance (cfg : ChanCfg) (now : Time) (samples : List Sample) (c : Channel) :
    ((seedTrail cfg now c samples).getLastD c).acceptance = c.acceptance := by
  cases samples with
  | nil => rfl
  | cons a rest => rw [seedTrail_last, foldl_processSample_acceptance]; rfl

/-! ### The sequence classes (R7 to R11) -/

theorem channelFrame_duplicate (cfg : ChanCfg) (now : Time) (seq : Byte) (samples : List Sample) {c : Channel}
    (hs : c.seeded = true) (off : (seq - c.expected).toNat = 255) :
    channelFrame cfg now seq samples c = ({ c with duplicates := bump c.duplicates }, []) := by
  unfold channelFrame; rw [if_pos hs]; dsimp only; rw [if_pos off]

theorem channelFrame_next (cfg : ChanCfg) (now : Time) (seq : Byte) (samples : List Sample) {c : Channel}
    (hs : c.seeded = true) (off : (seq - c.expected).toNat = 0) :
    channelFrame cfg now seq samples c =
      (acceptFrame cfg seq c, sampleTrail cfg now (acceptFrame cfg seq c) samples) := by
  unfold channelFrame; rw [if_pos hs]; dsimp only; rw [if_neg (by omega), if_pos off]

theorem channelFrame_gap (cfg : ChanCfg) (now : Time) (seq : Byte) (samples : List Sample) {c : Channel}
    (hs : c.seeded = true) (lo : 1 ≤ (seq - c.expected).toNat) (hi : (seq - c.expected).toNat ≤ 8) :
    let e := acceptFrame cfg seq { c with missed := bumpBy c.missed (seq - c.expected).toNat }
    channelFrame cfg now seq samples c = (e, sampleTrail cfg now e samples) := by
  unfold channelFrame; rw [if_pos hs]; dsimp only; rw [if_neg (by omega), if_neg (by omega), if_pos hi]

theorem channelFrame_resync (cfg : ChanCfg) (now : Time) (seq : Byte) (samples : List Sample) {c : Channel}
    (hs : c.seeded = true) (lo : 9 ≤ (seq - c.expected).toNat) (hi : (seq - c.expected).toNat ≤ 254) :
    let e := acceptFrame cfg seq { c with resyncs := bump c.resyncs }
    channelFrame cfg now seq samples c = (e, seedTrail cfg now e samples) := by
  unfold channelFrame; rw [if_pos hs]; dsimp only; rw [if_neg (by omega), if_neg (by omega), if_neg (by omega)]

theorem channelFrame_unseeded (cfg : ChanCfg) (now : Time) (seq : Byte) (samples : List Sample) {c : Channel}
    (hs : c.seeded = false) :
    channelFrame cfg now seq samples c =
      (acceptFrame cfg seq c, seedTrail cfg now (acceptFrame cfg seq c) samples) := by
  unfold channelFrame; rw [if_neg (by simp [hs])]

/-- The samples of a frame leave what its acceptance has set (R7 to R11). -/
theorem channelFrame_acceptance (cfg : ChanCfg) (now : Time) (seq : Byte) (samples : List Sample) (c : Channel) :
    let r := channelFrame cfg now seq samples c
    (r.2.getLastD r.1).acceptance = r.1.acceptance := by
  unfold channelFrame
  dsimp only
  repeat' split
  · rfl
  · rw [sampleTrail_last, foldl_processSample_acceptance]
  · rw [sampleTrail_last, foldl_processSample_acceptance]
  · exact seedTrail_acceptance ..
  · exact seedTrail_acceptance ..

/-- The accepted items of the channel after a frame are those of the record `e` that its acceptance leaves (R11). -/
theorem channelFrame_items {cfg : ChanCfg} {now : Time} {seq : Byte} {samples : List Sample} {c e : Channel}
    {trail : List Channel} (h : channelFrame cfg now seq samples c = (e, trail)) :
    let r := channelFrame cfg now seq samples c
    let d := r.2.getLastD r.1
    d.expected = e.expected ∧ d.staleTimer = e.staleTimer ∧ d.missed = e.missed ∧ d.duplicates = e.duplicates ∧
      d.resyncs = e.resyncs := by
  have kept := channelFrame_acceptance cfg now seq samples c
  dsimp only at kept ⊢
  rw [show (channelFrame cfg now seq samples c).1 = e from congrArg Prod.fst h] at kept ⊢
  simpa [Channel.acceptance] using kept

/-- Settles O14, class by class. -/
theorem frameSequenceClassesOfASeededChannel : Obligations.FrameSequenceClassesOfASeededChannel := by
  unfold Obligations.FrameSequenceClassesOfASeededChannel
  intro cfg now seq samples c off r d accepted seeded
  have bound : off ≤ 255 := by have := (seq - c.expected).isLt; omega
  refine ⟨fun hs => ⟨fun h => ?_, fun h => ?_, fun h => ?_, fun lo hi => ?_, fun lo hi => ?_, fun h => ?_,
    fun lo hi => ?_, fun lo hi a rest hr => ?_⟩, fun hs a rest hr => ?_⟩
  · simp only [d, r, channelFrame_duplicate cfg now seq samples hs h, List.getLastD_nil]
  · rcases (by omega : off = 0 ∨ (1 ≤ off ∧ off ≤ 8) ∨ (9 ≤ off ∧ off ≤ 254)) with h0 | ⟨lo, hi⟩ | ⟨lo, hi⟩
    · obtain ⟨hexp, hstale, -, hdup, -⟩ := channelFrame_items (channelFrame_next cfg now seq samples hs h0)
      exact ⟨hexp, hstale, hdup⟩
    · obtain ⟨hexp, hstale, -, hdup, -⟩ := channelFrame_items (channelFrame_gap cfg now seq samples hs lo hi)
      exact ⟨hexp, hstale, hdup⟩
    · obtain ⟨hexp, hstale, -, hdup, -⟩ := channelFrame_items (channelFrame_resync cfg now seq samples hs lo hi)
      exact ⟨hexp, hstale, hdup⟩
  · obtain ⟨-, -, hmiss, -, hres⟩ := channelFrame_items (channelFrame_next cfg now seq samples hs h)
    exact ⟨hmiss, hres⟩
  · obtain ⟨-, -, hmiss, -, hres⟩ := channelFrame_items (channelFrame_gap cfg now seq samples hs lo hi)
    exact ⟨hmiss, hres⟩
  · obtain ⟨-, -, hmiss, -, hres⟩ := channelFrame_items (channelFrame_resync cfg now seq samples hs lo hi)
    exact ⟨hmiss, hres⟩
  · simp only [d, r, channelFrame_next cfg now seq samples hs h, sampleTrail_last]; rfl
  · simp only [d, r, channelFrame_gap cfg now seq samples hs lo hi, sampleTrail_last]; rfl
  · simp only [d, r, channelFrame_resync cfg now seq samples hs lo hi, hr, seedTrail_last]; rfl
  · simp only [d, r, channelFrame_unseeded cfg now seq samples hs, hr, seedTrail_last]; rfl

end Sys2Proof.Machine
end

section
/-! SUPPORT. A sample's arithmetic (R13 to R16) and its tests by the state it is taken up in (R17 to R22). -/

namespace Sys2Proof.Machine

/-! ### The arithmetic -/

/-- A step of a part of the way towards a target stays between where it began and the target. -/
theorem tdiv_step_between (a target : Int) (k : Int) (hk : 0 < k) :
    min a target ≤ a + (target - a).tdiv k ∧ a + (target - a).tdiv k ≤ max a target := by
  rcases Int.le_total 0 (target - a) with h | h
  · have lo := Int.tdiv_nonneg h hk.le
    have hi := Int.tdiv_le_self k h
    omega
  · have h' : 0 ≤ a - target := by omega
    have lo := Int.tdiv_nonneg h' hk.le
    have hi := Int.tdiv_le_self k h'
    have flip : (target - a).tdiv k = -((a - target).tdiv k) := by rw [← Int.neg_tdiv]; congr 1; omega
    omega

theorem clampInt_eq {lo hi : Int} (h : lo ≤ hi) (z : Int) : clampInt lo hi z = max lo (min hi z) := by
  unfold clampInt; split
  · omega
  · split <;> omega

theorem axisDiff_natAbs_le (a b : Int) : (axisDiff a b).natAbs ≤ 32767 := by
  unfold axisDiff; rw [clampInt_eq (by decide)]; omega

/-- A baseline stays in the range of sixteenths of a sample (R2, R13). -/
theorem axisBase_inRange {a b : Int} (ha : -32768 ≤ a ∧ a ≤ 32767) (hb : -524288 ≤ b ∧ b ≤ 524272) :
    -524288 ≤ axisBase a b ∧ axisBase a b ≤ 524272 := by
  have := tdiv_step_between b (16 * a) 1024 (by decide)
  unfold axisBase
  omega

/-- An average stays in its range, whatever the shift (R2, R15). -/
theorem average_inRange {a : Int} {u : Nat} (ha : 0 ≤ a ∧ a ≤ 524272) (hu : u ≤ 32767) (shift : Nat) :
    0 ≤ average a u shift ∧ average a u shift ≤ 524272 := by
  have := tdiv_step_between a (16 * (u : Int)) (2 ^ shift) (by positivity)
  unfold average
  omega

theorem horizontal_le {dx dy : Int} (hx : dx.natAbs ≤ 32767) (hy : dy.natAbs ≤ 32767) : horizontal dx dy ≤ 49150 := by
  unfold horizontal; omega

theorem sampleArith_inRange (cfg : ChanCfg) {c : Channel} {a : Sample} (hc : c.InRange) (ha : a.InRange) :
    (sampleArith cfg c a).1.InRange := by
  have hu := axisDiff_natAbs_le a.z c.baseZ
  refine ⟨axisBase_inRange ha.x hc.bx, axisBase_inRange ha.y hc.byy, axisBase_inRange ha.z hc.bz,
    average_inRange hc.sta hu _, ?_, ?_, ?_, ?_⟩
  · unfold sampleArith; dsimp only; split
    · exact hc.lta
    · exact average_inRange hc.lta hu _
  · have := hc.priming
    unfold sampleArith; dsimp only; split <;> omega
  · exact max_le hc.peakH (horizontal_le (axisDiff_natAbs_le ..) (axisDiff_natAbs_le ..))
  · exact max_le hc.peakU hu

/-! ### The tests -/

/-- The tests set the state, its runs and times and, at T_max, the long-term average to the short-term one (R21): all
else stays. -/
theorem sampleTests_cases (cfg : ChanCfg) (now : Time) (c : Channel) (h : Nat) :
    ∃ st below inOnset onsetAt strongAt lta, (lta = c.lta ∨ lta = c.sta) ∧ sampleTests cfg now c h =
      { c with state := st, below := below, inOnset := inOnset, onsetAt := onsetAt, strongAt := strongAt, lta := lta } := by
  unfold sampleTests testStrong testOnset Channel.enter
  dsimp only
  repeat' split
  all_goals first
    | exact ⟨_, _, _, _, _, _, .inl rfl, rfl⟩
    | exact ⟨_, _, _, _, _, _, .inr rfl, rfl⟩

theorem sampleTests_inRange (cfg : ChanCfg) (now : Time) {c : Channel} (hc : c.InRange) (h : Nat) :
    (sampleTests cfg now c h).InRange := by
  obtain ⟨_, _, _, _, _, lta, hl, e⟩ := sampleTests_cases cfg now c h
  rw [e]
  refine ⟨hc.bx, hc.byy, hc.bz, hc.sta, ?_, hc.priming, hc.peakH, hc.peakU⟩
  rcases hl with rfl | rfl
  · exact hc.lta
  · exact hc.sta

theorem processSample_inRange (cfg : ChanCfg) (now : Time) {c : Channel} {a : Sample} (hc : c.InRange) (ha : a.InRange) :
    (processSample cfg now c a).InRange :=
  sampleTests_inRange cfg now (sampleArith_inRange cfg hc ha) _

theorem seedChannel_inRange {c : Channel} {a : Sample} (hc : c.InRange) (ha : a.InRange) : (seedChannel c a).InRange := by
  obtain ⟨hx, hy, hz⟩ := ha
  refine ⟨?_, ?_, ?_, ?_, ?_, ?_, hc.peakH, hc.peakU⟩ <;> simp only [seedChannel] <;> omega

/-- What one sample does, by the state it is taken up in (R13 to R22): the second part of O15. -/
theorem processSample_byState (cfg : ChanCfg) (now : Time) (c : Channel) (a : Sample) :
    let e := (sampleArith cfg c a).1
    let h := (sampleArith cfg c a).2
    let d := processSample cfg now c a
    (c.state = .strong →
      (h < cfg.g → cfg.h ≤ c.below + 1 →
        d = { e with state := if e.priming = 256 then .quiet else .priming, below := 0 }) ∧
      (h < cfg.g → c.below + 1 < cfg.h → d = { e with below := c.below + 1 }) ∧
      (cfg.g ≤ h → d = { e with below := 0 })) ∧
    (c.state = .priming ∨ c.state = .quiet ∨ c.state = .onset → cfg.g ≤ h →
      d = { e with state := .strong, below := 0, strongAt := now }) ∧
    (c.state = .priming → h < cfg.g → d = if e.priming = 256 then { e with state := .quiet, below := 0 } else e) ∧
    (c.state = .quiet → h < cfg.g →
      d = if cfg.rOn * e.lta ≤ 16 * e.sta ∧ 16 * (cfg.f : Int) ≤ e.sta then
        { e with state := .onset, below := 0, onsetAt := now, inOnset := 0 } else e) ∧
    (c.state = .onset → h < cfg.g →
      let n := c.inOnset + 1
      let b := if 16 * e.sta < cfg.rOff * e.lta then c.below + 1 else 0
      (cfg.tMax ≤ n → d = { e with state := .quiet, below := 0, inOnset := n, lta := e.sta }) ∧
      (n < cfg.tMax → cfg.h ≤ b → d = { e with state := .quiet, below := 0, inOnset := n }) ∧
      (n < cfg.tMax → b < cfg.h → d = { e with inOnset := n, below := b })) ∧
    (c.state = .off ∨ c.state = .stale → d = e) := by
  intro e h d
  have hd : d = sampleTests cfg now e h := rfl
  have hs : e.state = c.state := rfl
  have hb : e.below = c.below := rfl
  have hn : e.inOnset = c.inOnset := rfl
  refine ⟨fun st => ⟨fun hg hh => ?_, fun hg hh => ?_, fun hg => ?_⟩, fun st hg => ?_, fun st hg => ?_, fun st hg => ?_,
    fun st hg => ⟨fun ht => ?_, fun ht hh => ?_, fun ht hh => ?_⟩, fun st => ?_⟩
  · simp only [hd, sampleTests, hs, st, testStrong, if_pos hg, hb, if_pos hh, Channel.enter]
  · simp only [hd, sampleTests, hs, st, testStrong, if_pos hg, hb, if_neg (Nat.not_le.mpr hh)]
  · simp only [hd, sampleTests, hs, st, testStrong, if_neg (Nat.not_lt.mpr hg)]
  · rcases st with st | st | st <;> simp only [hd, sampleTests, hs, st, if_pos hg, Channel.enter]
  · simp only [hd, sampleTests, hs, st, if_neg (Nat.not_le.mpr hg), Channel.enter]
  · simp only [hd, sampleTests, hs, st, if_neg (Nat.not_le.mpr hg), Channel.enter, onsetCondition, Bool.and_eq_true,
      decide_eq_true_eq]
  · simp only [hd, sampleTests, hs, st, if_neg (Nat.not_le.mpr hg), testOnset, hn, if_pos ht, Channel.enter]
  · simp only [hd, sampleTests, hs, st, if_neg (Nat.not_le.mpr hg), testOnset, hn, hb, if_neg (Nat.not_le.mpr ht),
      if_pos hh, Channel.enter]
  · simp only [hd, sampleTests, hs, st, if_neg (Nat.not_le.mpr hg), testOnset, hn, hb, if_neg (Nat.not_le.mpr ht),
      if_neg (Nat.not_le.mpr hh)]
  · rcases st with st | st <;> simp only [hd, sampleTests, hs, st]

end Sys2Proof.Machine
end

section
/-! SUPPORT. A SAMPLE frame and the 32 channels: which channels it reaches, what is handed to the voter, and the frame's way
through the router (R4, R5, R23, R168, R169). -/

namespace Sys2Proof.Machine

/-! ### One frame over the channels -/

section Frame
variable (src seq : Byte) (samples : List Sample)

/-- The channel's record and trail for the frame (R5). -/
def State.frameOf (s : State) (i : Fin 32) : Channel × List Channel :=
  channelFrame s.tables.channels[i] s.now seq samples s.channels[i]

/-- The channel after the frame. -/
def State.afterFrame (s : State) (i : Fin 32) : Channel :=
  if s.listens i src then (s.frameOf seq samples i).2.getLastD (s.frameOf seq samples i).1 else s.channels[i]

/-- The changes of the channel in the frame, each with its sample's number. -/
def State.frameChanges (s : State) (i : Fin 32) : List (Nat × Change) :=
  if s.listens i src then changesOf i 0 (s.frameOf seq samples i).1 (s.frameOf seq samples i).2 else []

/-- One channel's part in the frame sets that channel and adds its changes. -/
theorem frameAt_eq (s : State) (cs : List (Nat × Change)) (i : Fin 32) :
    frameAt src seq samples (s, cs) i =
      ({ s with channels := s.channels.set i (s.afterFrame src seq samples i) },
        cs ++ s.frameChanges src seq samples i) := by
  unfold frameAt State.afterFrame State.frameChanges
  dsimp only
  split
  · rfl
  · simp

/-- A channel's part in the frame is its own record's: another channel set before changes nothing of it. -/
theorem frame_of_other (s : State) {i j : Fin 32} (h : i ≠ j) (x : Channel) :
    let t : State := { s with channels := s.channels.set i x }
    t.afterFrame src seq samples j = s.afterFrame src seq samples j ∧
      t.frameChanges src seq samples j = s.frameChanges src seq samples j := by
  intro t
  have kept : t.channels[j] = s.channels[j] := Vector.getElem_set_ne i.isLt j.isLt fun e => h (Fin.ext e)
  have hears : t.listens j src = s.listens j src := by unfold State.listens; rw [kept]; rfl
  have frame : t.frameOf seq samples j = s.frameOf seq samples j := by unfold State.frameOf; rw [kept]; rfl
  unfold State.afterFrame State.frameChanges
  rw [hears, frame, kept]
  exact ⟨rfl, rfl⟩

/-- The frame taken by the channels of a list: each of them as the frame leaves it, with its changes in the list's order. -/
theorem foldl_frameAt (l : List (Fin 32)) (hl : l.Nodup) (s : State) (cs : List (Nat × Change)) :
    l.foldl (frameAt src seq samples) (s, cs) =
      ({ s with channels := .ofFn fun i => if i ∈ l then s.afterFrame src seq samples i else s.channels[i] },
        cs ++ l.flatMap (s.frameChanges src seq samples)) := by
  induction l generalizing s cs with
  | nil => simp
  | cons i l ih =>
    obtain ⟨hi, hl⟩ := List.nodup_cons.mp hl
    have other := fun (j : Fin 32) (hj : j ∈ l) =>
      frame_of_other src seq samples s (i := i) (j := j) (fun e => hi (e ▸ hj)) (s.afterFrame src seq samples i)
    have chans : (.ofFn fun j => if j ∈ l then
          State.afterFrame src seq samples
            { s with channels := s.channels.set i (s.afterFrame src seq samples i) } j
        else (s.channels.set i (s.afterFrame src seq samples i))[j] : Vector Channel 32) =
        .ofFn fun j => if j ∈ i :: l then s.afterFrame src seq samples j else s.channels[j] := by
      refine congrArg Vector.ofFn (funext fun j => ?_)
      by_cases hm : j ∈ l
      · rw [if_pos hm, if_pos (List.mem_cons_of_mem i hm), (other j hm).1]
      · rw [if_neg hm]
        by_cases e : j = i
        · subst e; simp
        · rw [if_neg (by simp [e, hm])]
          exact Vector.getElem_set_ne i.isLt j.isLt fun h => e (Fin.ext h.symm)
    rw [List.foldl_cons, frameAt_eq, ih hl, List.flatMap_cons, List.append_assoc,
      List.flatMap_congr fun j hj => (other j hj).2]
    dsimp only
    rw [chans]

end Frame

/-- A SAMPLE frame from a present source: every channel as the frame leaves it, and the changes handed over in sample
order (R4, R5, R23). -/
theorem sampleFrame_present {src seq count : Byte} {rest : List Byte} {s : State}
    (h : (s.nodeCfg src.toNat).present = true) :
    sampleFrame src (seq :: count :: rest) s =
      handAll (inSampleOrder (readSamples rest).length
        ((List.finRange 32).flatMap (s.frameChanges src seq (readSamples rest))))
        { s with channels := .ofFn (s.afterFrame src seq (readSamples rest)) } := by
  unfold sampleFrame
  dsimp only
  rw [if_pos h, foldl_frameAt _ _ _ _ (List.nodup_finRange 32)]
  simp

theorem sampleFrame_absent {src : Byte} {s : State} (h : (s.nodeCfg src.toNat).present = false) (payload : List Byte) :
    sampleFrame src payload s = s := by
  unfold sampleFrame
  split
  · rw [if_neg (by simp [h])]
  · rfl

/-! ### The changes along a trail (R23) -/

theorem mem_changesOf {i : Fin 32} {n k : Nat} {c : Channel} {trail : List Channel} {x : Change} :
    (k, x) ∈ changesOf i n c trail ↔ ∃ j old new, k = n + j ∧ (c :: trail)[j]? = some old ∧ trail[j]? = some new ∧
      (new.state ≠ old.state ∨ new.seeded ≠ old.seeded) ∧ x = ⟨i, new.state, new.seeded⟩ := by
  induction trail generalizing n c with
  | nil => simp [changesOf]
  | cons d rest ih =>
    have later : (k, x) ∈ changesOf i (n + 1) d rest ↔ ∃ j old new, k = n + (j + 1) ∧
        (c :: d :: rest)[j + 1]? = some old ∧ (d :: rest)[j + 1]? = some new ∧
        (new.state ≠ old.state ∨ new.seeded ≠ old.seeded) ∧ x = ⟨i, new.state, new.seeded⟩ := by
      rw [ih]
      simp only [List.getElem?_cons_succ, Nat.add_assoc, Nat.add_comm 1]
    have first : (∃ j old new, k = n + j ∧ (c :: d :: rest)[j]? = some old ∧ (d :: rest)[j]? = some new ∧
        (new.state ≠ old.state ∨ new.seeded ≠ old.seeded) ∧ x = ⟨i, new.state, new.seeded⟩) ↔
        (k = n ∧ (d.state ≠ c.state ∨ d.seeded ≠ c.seeded) ∧ x = ⟨i, d.state, d.seeded⟩) ∨
          (k, x) ∈ changesOf i (n + 1) d rest := by
      rw [later]
      constructor
      · rintro ⟨j, old, new, hk, ho, hn, hne, hx⟩
        cases j with
        | zero =>
          simp only [List.getElem?_cons_zero, Option.some.injEq] at ho hn
          subst ho hn
          exact .inl ⟨hk, hne, hx⟩
        | succ j => exact .inr ⟨j, old, new, hk, ho, hn, hne, hx⟩
      · rintro (⟨hk, hne, hx⟩ | ⟨j, old, new, hk, ho, hn, hne, hx⟩)
        · exact ⟨0, c, d, hk, rfl, rfl, hne, hx⟩
        · exact ⟨j + 1, old, new, hk, ho, hn, hne, hx⟩
    rw [first, changesOf]
    split
    · next same => simp [same.1, same.2]
    · next differs =>
      have changed : d.state ≠ c.state ∨ d.seeded ≠ c.seeded := by
        by_contra h; push Not at h; exact differs h
      simp [changed]

/-! ### The router's stages leave the detector as it was -/

/-- The first stage changes the router alone (R166, R168). -/
theorem hearSource_router (f : Frame) (s : State) : ∃ r, hearSource f s = { s with router := r } := by
  unfold hearSource
  dsimp only
  split
  · split
    · unfold takeNodeState; dsimp only; split <;> exact ⟨_, rfl⟩
    · exact ⟨_, rfl⟩
  · exact ⟨_, rfl⟩

/-- The third stage changes the router alone (R169). -/
theorem forwardP_router (f : Frame) (s : State) : ∃ r, forwardP f s = { s with router := r } := by
  have kept : ∃ r, s = { s with router := r } := ⟨s.router, rfl⟩
  have queued : ∃ r, queueToS f s = { s with router := r } := ⟨_, rfl⟩
  have discarded : ∃ r, discardP s = { s with router := r } := ⟨_, rfl⟩
  unfold forwardP
  split
  · split
    · exact kept
    · exact queued
  · split
    · split
      · exact kept
      · exact discarded
    · split
      · exact kept
      · exact discarded

/-- The part that the detector works on: the channels, the configuration and the time base. -/
structure State.SameGround (t s : State) : Prop where
  channels : t.channels = s.channels
  store : t.store = s.store
  now : t.now = s.now

theorem State.SameGround.trans {u t s : State} (h : u.SameGround t) (k : t.SameGround s) : u.SameGround s :=
  ⟨h.channels.trans k.channels, h.store.trans k.store, h.now.trans k.now⟩

theorem sameGround_setPort (port : Port) (r : Receiver) (c : PortCount) (s : State) :
    (setPort port r c s).SameGround s := ⟨by simp, by simp, by simp⟩

theorem sameGround_hearSource (f : Frame) (s : State) : (hearSource f s).SameGround s := by
  obtain ⟨r, e⟩ := hearSource_router f s
  rw [e]; exact ⟨rfl, rfl, rfl⟩

theorem sameGround_heard (port : Port) (f : Frame) (s : State) : (hearSource f (s.gotFrame port f)).SameGround s :=
  (sameGround_hearSource f _).trans (sameGround_setPort ..)

/-- What a frame does to the channels depends on what the detector works on alone. -/
theorem State.SameGround.frame {t s : State} (h : t.SameGround s) (src seq : Byte) (samples : List Sample) :
    t.afterFrame src seq samples = s.afterFrame src seq samples ∧
      t.frameChanges src seq samples = s.frameChanges src seq samples := by
  obtain ⟨hc, hs, hn⟩ := h
  unfold State.afterFrame State.frameChanges State.frameOf State.listens State.tables
  rw [hc, hs, hn]
  exact ⟨rfl, rfl⟩

theorem State.SameGround.nodeCfg {t s : State} (h : t.SameGround s) : t.nodeCfg = s.nodeCfg := by
  unfold State.nodeCfg State.tables; rw [h.store]

theorem channels_forwardP (f : Frame) (s : State) : (forwardP f s).channels = s.channels := by
  obtain ⟨r, e⟩ := forwardP_router f s; rw [e]

theorem channels_of_fixedButVoter {t s : State} (h : t.fixedButVoter = s.fixedButVoter) : t.channels = s.channels :=
  (congrArg State.channels h : _)

/-- The channels once a SAMPLE frame has been through the detector (R4, R5). -/
theorem channels_sampleFrame (src seq count : Byte) (rest : List Byte) (s : State) (i : Fin 32) :
    (sampleFrame src (seq :: count :: rest) s).channels[i] =
      if (s.nodeCfg src.toNat).present then s.afterFrame src seq (readSamples rest) i else s.channels[i] := by
  cases hp : (s.nodeCfg src.toNat).present with
  | false => rw [sampleFrame_absent hp]; rfl
  | true =>
    rw [sampleFrame_present hp, channels_of_fixedButVoter (fixedButVoter_handAll _ _)]
    simp

/-- A SAMPLE frame of the P-port goes to the node table, to the detector and on (R168). -/
theorem route_sample (dst src tag : Byte) (payload : List Byte) (s : State) :
    route .p ⟨dst, src, kindSample, tag, payload⟩ s = forwardP ⟨dst, src, kindSample, tag, payload⟩
      (sampleFrame src payload (hearSource ⟨dst, src, kindSample, tag, payload⟩ s)) := by
  unfold route routeP handToBlocks
  rw [if_pos (show Frame.isSample _ = true from beq_self_eq_true _)]

/-- Settles O13. -/
theorem sampleFrameReachesExactlyItsChannels : Obligations.SampleFrameReachesExactlyItsChannels := by
  unfold Obligations.SampleFrameReachesExactlyItsChannels
  refine ⟨?_, ?_, fun i c trail k x => ?_⟩
  · intro dst src tag seq count rest s₀ s hr hf
    have ground := (sameGround_hearSource ⟨dst, src, kindSample, tag, seq :: count :: rest⟩ _).trans
      (sameGround_setPort .p {} ((startCount (s.rx .p) (s.portCount .p)
        ⟨dst, src, kindSample, tag, seq :: count :: rest⟩).completed
          ⟨dst, src, kindSample, tag, seq :: count :: rest⟩) s)
    refine ⟨_, rfl, fun i => ?_⟩
    rw [frameArrives_running hr .p hf, route_sample, channels_forwardP, channels_sampleFrame, ground.nodeCfg,
      (ground.frame ..).1, ground.channels]
    cases (s.nodeCfg src.toNat).present with
    | false => simp
    | true => simp only [State.afterFrame, State.frameOf, Bool.true_and, if_true]
  · intro dst src tag seq count rest s₀ s hp f hf h samples r u changes
    have ground : h.SameGround s := sameGround_heard .p f s
    have arrives : frameArrives .p f s = forwardP f (sampleFrame src (seq :: count :: rest) h) := by
      rw [frameArrives_of_free hp hf, route_sample]
    refine ⟨fun absent => congrArg Host.Outcome.next ?_, fun there => congrArg Host.Outcome.next ?_⟩
    · show frameArrives .p f s = _
      rw [arrives, sampleFrame_absent (by rw [ground.nodeCfg]; exact absent)]
    · show frameArrives .p f s = _
      rw [arrives, sampleFrame_present (by rw [ground.nodeCfg]; exact there), (ground.frame ..).1, (ground.frame ..).2]
      rfl
  · rw [mem_changesOf]
    constructor
    · rintro ⟨j, old, new, hk, h⟩
      rw [hk, Nat.zero_add]
      exact ⟨old, new, h⟩
    · rintro ⟨old, new, h⟩
      exact ⟨k, old, new, (Nat.zero_add k).symm, h⟩

end Sys2Proof.Machine
end

section
/-! SUPPORT. The three stages of a P-port frame (R168, R169), kind by kind. -/

namespace Sys2Proof.Machine

/-! ### The second stage by kind -/

/-- A frame of a possible size on a free P-port goes through the three stages (R168). -/
theorem pFrame_stages {s : State} {f : Frame} (hp : s.portFree .p) (hf : f.sizeOk = true) :
    frameArrives .p f s = forwardP f (handToBlocks f (hearSource f (s.gotFrame .p f))) :=
  frameArrives_of_free hp hf

theorem sizeOk_of_not_sample {f : Frame} (hk : f.kind ≠ kindSample) (hl : f.payload.length ≤ 48) : f.sizeOk = true := by
  simp [Frame.sizeOk, hk, hl]

section Kinds
variable (dst src tag : Byte) (payload : List Byte) (h : State)

theorem handToBlocks_sample :
    handToBlocks ⟨dst, src, kindSample, tag, payload⟩ h = sampleFrame src payload h := by
  unfold handToBlocks
  rw [if_pos (show Frame.isSample _ = true from beq_self_eq_true _)]

/-- A WARNING reaches the trigger unit where it has its seven characters (R57, R158). -/
theorem handToBlocks_warning :
    handToBlocks ⟨dst, src, kindWarning, tag, payload⟩ h =
      if payload.length = 7 then warningFrame src payload h else h := by
  simp [handToBlocks, Frame.isSample, Frame.wellFormed, Frame.stateCode, kindCommand, kindReply, kindStatus, kindSample,
    kindWarning]

/-- A REPLY without exactly two characters reaches no block (R158). -/
theorem handToBlocks_reply_malformed (hl : payload.length ≠ 2) :
    handToBlocks ⟨dst, src, kindReply, tag, payload⟩ h = h := by
  have code : Frame.stateCode ⟨dst, src, kindReply, tag, payload⟩ = none := by
    match payload, hl with
    | [], _ => rfl
    | [_], _ => rfl
    | _ :: _ :: _ :: _, _ => rfl
  simp [handToBlocks, Frame.isSample, code, kindReply, kindSample, kindWarning]

/-- A STATUS without one to nine characters reaches no block (R158). -/
theorem handToBlocks_status_malformed (hl : payload = [] ∨ 9 < payload.length) :
    handToBlocks ⟨dst, src, kindStatus, tag, payload⟩ h = h := by
  have code : Frame.stateCode ⟨dst, src, kindStatus, tag, payload⟩ = none := by
    rcases hl with rfl | hl
    · rfl
    · simp [Frame.stateCode, Frame.wellFormed, kindReply, kindStatus, Nat.not_le.mpr hl]
  simp [handToBlocks, Frame.isSample, code, kindStatus, kindSample, kindWarning]

/-- A REPLY of two characters goes to the executor: to the part as a reply, else as its source's state report (R118, R123,
R168). -/
theorem handToBlocks_reply (result code : Byte) :
    handToBlocks ⟨dst, src, kindReply, tag, [result, code]⟩ h =
      if dst = h.ownAddress then runEvent (takeReply src tag result (nodeStateOf code)) h
      else if (h.nodeCfg src.toNat).present then runEvent (takeReport src (nodeStateOf code)) h else h := by
  simp [handToBlocks, Frame.isSample, Frame.stateCode, handToExecutor, kindReply, kindSample, kindWarning]

/-- A STATUS of one to nine characters goes to the executor as its source's state report (R123, R168). -/
theorem handToBlocks_status (code : Byte) (detail : List Byte) (hl : detail.length ≤ 8) :
    handToBlocks ⟨dst, src, kindStatus, tag, code :: detail⟩ h =
      if (h.nodeCfg src.toNat).present then runEvent (takeReport src (nodeStateOf code)) h else h := by
  simp [handToBlocks, Frame.isSample, Frame.stateCode, Frame.wellFormed, handToExecutor, Nat.lt_succ_of_le hl, kindReply, kindStatus,
    kindSample, kindWarning]

end Kinds

/-! ### The third stage by destination -/

theorem toSupervisor_iff (f : Frame) (h : State) :
    h.toSupervisor f = true ↔ f.dst = h.supAddress ∨ f.dst = 127 := by
  have broadcast : f.dst.toNat = 127 ↔ f.dst = 127 := by
    rw [← BitVec.toNat_inj]; rfl
  simp [State.toSupervisor, isBroadcast, broadcast]

theorem ownAddress_toNat (h : State) : h.ownAddress.toNat = 120 + h.mgmt.straps.addr.val := by
  have := h.mgmt.straps.addr.isLt
  simp [State.ownAddress]; omega

/-- What the part itself has taken: every SAMPLE, a REPLY of two characters, a WARNING of seven (R158, R169). -/
theorem takenByPart_iff (f : Frame) :
    f.takenByPart = true ↔ f.kind = kindSample ∨ f.kind = kindReply ∧ f.payload.length = 2 ∨
      f.kind = kindWarning ∧ f.payload.length = 7 := by
  unfold Frame.takenByPart Frame.wellFormed
  by_cases hs : f.kind = kindSample
  · simp [hs, kindSample, kindCommand, kindStatus, kindReply, kindWarning, kindTrip]
  · by_cases hr : f.kind = kindReply
    · simp [hr, kindSample, kindCommand, kindStatus, kindReply, kindWarning]
    · by_cases hw : f.kind = kindWarning
      · simp [hw, kindSample, kindCommand, kindStatus, kindReply, kindWarning]
      · simp [hs, hr, hw]

/-- To SUP_ADDR or broadcast: queued, a SAMPLE only where its present source has forward_samples (R169). -/
theorem forwardP_supervisor {f : Frame} {h : State} (hd : f.dst = h.supAddress ∨ f.dst = 127) :
    (f.kind ≠ kindSample → forwardP f h = queueToS f h) ∧
    (f.kind = kindSample → forwardP f h =
      if (h.nodeCfg f.src.toNat).present = true ∧ (h.nodeCfg f.src.toNat).forward = true then queueToS f h else h) := by
  unfold forwardP
  rw [if_pos ((toSupervisor_iff f h).mpr hd)]
  refine ⟨fun hk => ?_, fun hk => ?_⟩
  · simp [Frame.isSample, hk]
  · cases hp : (h.nodeCfg f.src.toNat).present <;> cases hw : (h.nodeCfg f.src.toNat).forward <;>
      simp [Frame.isSample, hk, State.forwardsSamples, hp, hw]

/-- To the part itself: what a block has taken stays, the rest is discarded (R169). -/
theorem forwardP_own {f : Frame} {h : State} (hd : f.dst = h.ownAddress) (hs : f.dst ≠ h.supAddress) :
    forwardP f h = if f.takenByPart then h else discardP h := by
  have notBroadcast : f.dst ≠ 127 := by
    intro e
    have own := congrArg BitVec.toNat (hd.symm.trans e)
    rw [ownAddress_toNat] at own
    have := h.mgmt.straps.addr.isLt
    simp at own; omega
  unfold forwardP
  rw [if_neg (by rw [toSupervisor_iff]; tauto), if_pos hd]

/-- To another node: the frame stays where it is (R169). -/
theorem forwardP_node {f : Frame} {h : State} (hs : f.dst ≠ h.supAddress) (lo : 1 ≤ f.dst.toNat)
    (hi : f.dst.toNat ≤ 119) : forwardP f h = h := by
  have notOwn : f.dst ≠ h.ownAddress := fun e => by rw [e, ownAddress_toNat] at hi; omega
  have notBroadcast : f.dst ≠ 127 := fun e => by rw [e] at hi; simp at hi
  unfold forwardP
  rw [if_neg (by rw [toSupervisor_iff]; tauto), if_neg notOwn, if_pos (by simp [isNode, lo, hi])]

/-- To any other address: discarded and counted (R169). -/
theorem forwardP_elsewhere {f : Frame} {h : State} (hs : f.dst ≠ h.supAddress) (ho : f.dst ≠ h.ownAddress)
    (hb : f.dst ≠ 127) (hd : f.dst.toNat = 0 ∨ 119 < f.dst.toNat) : forwardP f h = discardP h := by
  unfold forwardP
  rw [if_neg (by rw [toSupervisor_iff]; tauto), if_neg ho, if_neg]
  simp only [isNode, Bool.and_eq_true, decide_eq_true_eq]
  omega

/-- Settles O11. -/
theorem pFrameStagesFollowOneAnother : Obligations.PFrameStagesFollowOneAnother := by
  unfold Obligations.PFrameStagesFollowOneAnother
  refine ⟨?_, fun f h => ?_⟩
  · intro dst src tag payload s₀ s hp
    have arrives := fun (f : Frame) (hf : f.sizeOk = true) =>
      congrArg (Host.Outcome.next (φ := Fault) (ρ := Refusal)) (pFrame_stages hp hf)
    have own := fun f : Frame => show (hearSource f (s.gotFrame .p f)).ownAddress = s.ownAddress by
      obtain ⟨r, e⟩ := hearSource_router f (s.gotFrame .p f); rw [e]; simp [State.ownAddress, State.gotFrame]
    have cfg := fun f : Frame => (sameGround_heard .p f s).nodeCfg
    have notReply : kindReply ≠ kindSample := by decide
    have notStatus : kindStatus ≠ kindSample := by decide
    refine ⟨?_, ?_, ?_, ?_, ?_, ?_⟩
    · intro f hf
      exact (arrives f hf).trans (by rw [handToBlocks_sample])
    · intro f hf
      exact (arrives f hf).trans (by rw [handToBlocks_warning])
    · rintro result code rfl f h
      refine (arrives f (sizeOk_of_not_sample notReply (by simp [f]))).trans ?_
      rw [handToBlocks_reply, own, cfg]
    · rintro code detail rfl hl f h
      simp only [List.length_cons] at hl
      refine (arrives f (sizeOk_of_not_sample notStatus (by simp [f]; omega))).trans ?_
      rw [handToBlocks_status _ _ _ _ _ _ (by omega), cfg]
    · intro hl h2 f
      exact (arrives f (sizeOk_of_not_sample notReply hl)).trans (by rw [handToBlocks_reply_malformed _ _ _ _ _ h2])
    · intro hl hm f
      exact (arrives f (sizeOk_of_not_sample notStatus hl)).trans (by rw [handToBlocks_status_malformed _ _ _ _ _ hm])
  · intro discarded
    refine ⟨forwardP_supervisor, fun hd hs => ⟨fun taken => ?_, fun hk hr hw => ?_⟩, forwardP_node, forwardP_elsewhere⟩
    · rw [forwardP_own hd hs, if_pos ((takenByPart_iff f).mpr taken)]
    · rw [forwardP_own hd hs, if_neg (by rw [takenByPart_iff]; tauto)]; rfl

end Sys2Proof.Machine
end

section
/-! SUPPORT. What can change a channel: a property of a channel's record that the detector's operations keep holds of all 32
channels after every step, if it did before. -/

namespace Sys2Proof.Machine

/-- Every channel has the property. -/
def State.AllChannels (s : State) (P : Channel → Prop) : Prop := ∀ i : Fin 32, P s.channels[i]

/-- The property is kept by all that the detector does to a channel: the reset values, restart (R26 to R28), the clearing of
counters and peaks (R186, R77), a tick and the expiry of the stale timer (R12), and a frame (R5 to R11). -/
structure Channel.Invariant (P : Channel → Prop) : Prop where
  reset : P {}
  restarted : ∀ c runs, P c → P (c.restarted runs)
  uncounted : ∀ c, P c → P c.uncounted
  peaksCleared : ∀ c : Channel, P c → P { c with peakH := 0, peakU := 0 }
  tick : ∀ c, P c → P c.tick
  stale : ∀ c : Channel, P c → P { c.enter .stale with
    seeded := false, staleTimer := none, staleEntries := bump c.staleEntries }
  frame : ∀ (cfg : ChanCfg) (now : Time) (seq : Byte) (samples : List Sample) (c : Channel),
    (∀ a ∈ samples, a.InRange) → P c →
    let r := channelFrame cfg now seq samples c
    P (r.2.getLastD r.1)

/-! ### Operations that leave the channels -/

section Fixed
variable (s : State)

@[simp] theorem channels_startPlan (p : PlanId) : (startPlan p s).1.channels = s.channels :=
  channels_of_fixed (fixed_startPlan p s)

@[simp] theorem channels_recoverSlot : (recoverSlot s).channels = s.channels := channels_of_fixed (fixed_recoverSlot s)

@[simp] theorem channels_abandonRun : (abandonRun s).channels = s.channels := channels_of_fixed (fixed_abandonRun s)

@[simp] theorem channels_takeCompletion (r : Report) : (takeCompletion r s).channels = s.channels :=
  channels_of_fixed (fixed_takeCompletion r s)

@[simp] theorem channels_enterByRing : (enterByRing s).channels = s.channels := channels_of_fixed (fixed_enterByRing s)

@[simp] theorem channels_formRequest : (formRequest s).channels = s.channels := channels_of_fixed (fixed_formRequest s)

@[simp] theorem channels_setFlag (i : Fin 24) : (setFlag i s).channels = s.channels :=
  channels_of_fixed (fixed_setFlag i s)

@[simp] theorem channels_latch (i : Fin 24) : (latch i s).channels = s.channels := channels_of_fixed (fixed_latch i s)

@[simp] theorem channels_clearFlags (which : Fin 24 → Bool) : (clearFlags which s).channels = s.channels :=
  channels_of_fixed (fixed_clearFlags which s)

end Fixed

@[simp] theorem channels_takeHandOver (ho : HandOver) (s : State) : (takeHandOver ho s).channels = s.channels :=
  channels_of_fixed (fixed_takeHandOver ho s)

theorem channels_runEvent {f : State → State × HandOver} {s : State} (h : (f s).1.noRunner = s.noRunner) :
    (runEvent f s).channels = s.channels := channels_of_fixed (fixed_runEvent f s h)

@[simp] theorem channels_feedRises (s : State) : (feedRises s).channels = s.channels := by
  unfold feedRises; rw [channels_runEvent (noRunner_takeFeedRise _)]

@[simp] theorem channels_formRemote (s : State) : (formRemote s).channels = s.channels :=
  (congrArg State.channels (fixed_formRemote s) : _)

@[simp] theorem channels_evaluateZone (z : Fin 8) (s : State) : (evaluateZone z s).channels = s.channels :=
  channels_of_fixedButVoter (fixedButVoter_evaluateZone z s)

@[simp] theorem channels_evaluateAll (s : State) : (evaluateAll s).channels = s.channels :=
  channels_of_fixedButVoter (fixedButVoter_evaluateAll s)

@[simp] theorem channels_handChange (c : Change) (s : State) : (handChange c s).channels = s.channels :=
  channels_of_fixedButVoter (fixedButVoter_handChange c s)

@[simp] theorem channels_reloadIfAlert (n : Nat) (s : State) : (reloadIfAlert n s).channels = s.channels := by
  unfold reloadIfAlert; split <;> rfl

@[simp] theorem channels_takeWarning (w : Warning) (s : State) : (takeWarning w s).channels = s.channels := by
  unfold takeWarning
  split
  · dsimp only; rw [channels_formRemote]; repeat' split
    all_goals rfl
  · split
    · rw [channels_formRemote, channels_reloadIfAlert]; rfl
    · split
      · split
        · rw [channels_formRemote, channels_reloadIfAlert]; rfl
        · rfl
      · rfl

@[simp] theorem channels_warningFrame (src : Byte) (payload : List Byte) (s : State) :
    (warningFrame src payload s).channels = s.channels := by
  unfold warningFrame
  dsimp only
  split
  · split
    · exact channels_takeWarning _ s
    · rfl
  · rfl

@[simp] theorem channels_handToExecutor (f : Frame) (code : Byte) (s : State) :
    (handToExecutor f code s).channels = s.channels := by
  unfold handToExecutor
  split
  · exact channels_of_fixed (fixed_takeReply ..)
  · split
    · exact channels_of_fixed (fixed_takeReport ..)
    · rfl

@[simp] theorem channels_queueToS (f : Frame) (s : State) : (queueToS f s).channels = s.channels := rfl

@[simp] theorem channels_queueToP (f : Frame) (s : State) : (queueToP f s).channels = s.channels := by
  unfold queueToP answerFor
  dsimp only
  repeat' split
  all_goals rfl

@[simp] theorem channels_routeThroughS (f : Frame) (s : State) : (routeThroughS f s).channels = s.channels := by
  have interlocked : (interlock f s).channels = s.channels := by
    unfold interlock answerFor
    split
    · split <;> rfl
    · exact channels_queueToP f s
  unfold routeThroughS
  split
  · rfl
  · split
    · split
      · exact interlocked
      · exact channels_queueToP f s
    · rfl

@[simp] theorem channels_markConfigurationChanged (set : Vector Bool 4) (s : State) :
    (markConfigurationChanged set s).channels = s.channels := by
  unfold markConfigurationChanged
  split
  · split <;> rfl
  · rfl

@[simp] theorem channels_leaveUnconfigured (s : State) : (leaveUnconfigured s).channels = s.channels := by
  unfold leaveUnconfigured
  split
  · exact channels_of_fixed (fixed_enterByRing s)
  · rfl

@[simp] theorem channels_feedTakesTables (s : State) : (feedTakesTables s).channels = s.channels := by
  unfold feedTakesTables
  split
  · exact channels_feedRises s
  · rfl

@[simp] theorem channels_reloadAwaiting (s : State) : (reloadAwaiting s).channels = s.channels := by
  unfold reloadAwaiting; rfl

@[simp] theorem channels_routerTakesTables (old : SiteTables) (s : State) :
    (routerTakesTables old s).channels = s.channels := by
  unfold routerTakesTables; rfl

@[simp] theorem channels_contactChanges (i : Fin 4) (s : State) : (contactChanges i s).channels = s.channels := by
  unfold contactChanges
  dsimp only
  split
  · rw [channels_of_fixed (fixed_latch _ _)]; rfl
  · rfl

@[simp] theorem channels_utilityChanged (s : State) : (utilityChanged s).channels = s.channels := by
  unfold utilityChanged
  dsimp only
  split
  · split
    · rw [channels_feedRises]; rfl
    · rfl
  · rfl

@[simp] theorem channels_onsetStampExpired (c : Fin 32) (s : State) : (onsetStampExpired c s).channels = s.channels := by
  unfold onsetStampExpired
  dsimp only
  split
  · rw [channels_evaluateZone]
  · rfl

@[simp] theorem channels_strongStampExpired (c : Fin 32) (s : State) : (strongStampExpired c s).channels = s.channels := by
  unfold strongStampExpired
  dsimp only
  split
  · rw [channels_evaluateZone]
  · rfl

@[simp] theorem channels_pEnds (s : State) : (pEnds s).channels = s.channels := by
  unfold pEnds
  split
  · rfl
  · dsimp only; split <;> rfl

@[simp] theorem channels_sEnds (s : State) : (sEnds s).channels = s.channels := by
  unfold sEnds resetAfter
  repeat' split
  all_goals rfl

@[simp] theorem channels_pChooses (s : State) : (pChooses s).channels = s.channels := by
  unfold pChooses
  repeat' split
  all_goals rfl

@[simp] theorem channels_sChooses (s : State) : (sChooses s).channels = s.channels := by
  unfold sChooses sChoosesOther
  repeat' split
  all_goals rfl

@[simp] theorem channels_heldJoin (s : State) : (heldJoin s).channels = s.channels := by
  unfold heldJoin heldResponseJoins
  repeat' split
  all_goals rfl

@[simp] theorem channels_joinOrHold (r : Response) (s : State) : (joinOrHold r s).channels = s.channels := by
  unfold joinOrHold; split <;> rfl

@[simp] theorem channels_endCommit (c : CommitRun) (st : Status) (data : List Byte) (s : State) :
    (endCommit c st data s).channels = s.channels := channels_joinOrHold _ _

/-! ### Requests that leave the channels -/

section Requests
variable (q : Asker) (s : State)

@[simp] theorem channels_reqReadChannel (x : Byte) : (reqReadChannel q x s).channels = s.channels := by
  unfold reqReadChannel; split <;> rfl

@[simp] theorem channels_reqReadZone (x : Byte) : (reqReadZone q x s).channels = s.channels := by
  unfold reqReadZone; split <;> rfl

@[simp] theorem channels_reqReadNode (x : Byte) : (reqReadNode q x s).channels = s.channels := by
  unfold reqReadNode; split <;> rfl

@[simp] theorem channels_reqReadStep (x : Byte) : (reqReadStep q x s).channels = s.channels := by
  unfold reqReadStep; split <;> rfl

@[simp] theorem channels_reqReadTripRecord (x : Byte) : (reqReadTripRecord q x s).channels = s.channels := by
  unfold reqReadTripRecord; split <;> rfl

@[simp] theorem channels_reqReadCounters (x : Byte) : (reqReadCounters q x s).channels = s.channels := by
  unfold reqReadCounters; split <;> rfl

@[simp] theorem channels_reqSetProtection (x : Byte) : (reqSetProtection q x s).channels = s.channels := by
  unfold reqSetProtection; split <;> rfl

@[simp] theorem channels_reqReloadProtection : (reqReloadProtection q s).channels = s.channels := by
  unfold reqReloadProtection; split <;> rfl

@[simp] theorem channels_reqReadShadow (b k f c : Byte) : (reqReadShadow q b k f c s).channels = s.channels := by
  unfold reqReadShadow
  repeat' split
  all_goals rfl

@[simp] theorem channels_reqWriteShadow (b k f c : Byte) (r : List Byte) : (reqWriteShadow q b k f c r s).channels = s.channels := by
  unfold reqWriteShadow
  repeat' split
  all_goals rfl

@[simp] theorem channels_reqCommit (x : Byte) : (reqCommit q x s).channels = s.channels := by
  unfold reqCommit commitNamed
  repeat' split
  all_goals rfl

@[simp] theorem channels_reqResetPort (x : Byte) : (reqResetPort q x s).channels = s.channels := by
  unfold reqResetPort acceptResetP
  repeat' split
  all_goals rfl

@[simp] theorem channels_reqAbortRestart : (reqAbortRestart q s).channels = s.channels := by
  unfold reqAbortRestart holdAborted
  split <;> simp [answer, refuse]

@[simp] theorem channels_reqForceTrip (x : Byte) : (reqForceTrip q x s).channels = s.channels := by
  unfold reqForceTrip forceAt
  split <;> simp [answer, refuse]

@[simp] theorem channels_reqClearTriggers : (reqClearTriggers q s).channels = s.channels := by
  unfold reqClearTriggers releaseTripOut
  dsimp only
  split <;> simp [answer]

end Requests

/-! ### Operations that change the channels -/

/-- The samples of a frame are signed 16-bit numbers (R159). -/
theorem readSamples_inRange (l : List Byte) : ∀ a ∈ readSamples l, a.InRange := by
  have bounds (hi lo : Byte) : -32768 ≤ signed16 hi lo ∧ signed16 hi lo ≤ 32767 := by
    have lo' := BitVec.le_toInt (BitVec.ofNat 16 (beNat [hi, lo]))
    have hi' := BitVec.toInt_lt (x := BitVec.ofNat 16 (beNat [hi, lo]))
    unfold signed16
    omega
  induction l using readSamples.induct with
  | case1 x1 x0 y1 y0 z1 z0 rest ih =>
    intro a ha
    rcases List.mem_cons.mp ha with rfl | ha
    · exact ⟨bounds .., bounds .., bounds ..⟩
    · exact ih a ha
  | case2 l hl =>
    intro a ha
    rw [readSamples] at ha
    · cases ha
    · exact hl

section Kept
variable {P : Channel → Prop} (hP : Channel.Invariant P) {s : State} (h : s.AllChannels P)

theorem State.AllChannels.congr {t s : State} (h : s.AllChannels P) (e : t.channels = s.channels) : t.AllChannels P := by
  unfold State.AllChannels; rw [e]; exact h

theorem allChannels_answer {s : State} (h : s.AllChannels P) (q : Asker) (st : Status) (data : List Byte) :
    (answer q st data s).AllChannels P := h

theorem allChannels_refuse {s : State} (h : s.AllChannels P) (q : Asker) (st : Status) :
    (refuse q st s).AllChannels P := h

include hP

theorem allChannels_reset {t : State} (e : t.channels = .replicate 32 {}) : t.AllChannels P := by
  intro i
  rw [e, Fin.getElem_fin, Vector.getElem_replicate]
  exact hP.reset

include h

theorem allChannels_restartAll : (restartAllChannels s).AllChannels P := by
  intro i
  have e : (restartAllChannels s).channels[i] = s.channels[i].restarted (s.mayRun i) := by
    simp [restartAllChannels, imagesFromChannels]
  rw [e]; exact hP.restarted _ _ (h i)

theorem allChannels_restartMembers (z : Fin 8) : (restartMembers z s).AllChannels P := by
  intro i
  have e : (restartMembers z s).channels[i] = if s.tables.zones[z].members.contains i
      then s.channels[i].restarted (s.mayRun i) else s.channels[i] := by
    simp [restartMembers]
  rw [e]
  split
  · exact hP.restarted _ _ (h i)
  · exact h i

theorem allChannels_clearPeaks : (clearPeaks s).AllChannels P := by
  intro i
  simpa [clearPeaks] using hP.peaksCleared _ (h i)

theorem allChannels_clearAllCounters : (clearAllCounters s).AllChannels P := by
  intro i
  simpa [clearAllCounters] using hP.uncounted _ (h i)

theorem allChannels_tickTimers : (tickTimers s).AllChannels P := by
  intro i
  simpa [tickTimers] using hP.tick _ (h i)

theorem allChannels_staleExpired (i : Fin 32) : (staleExpired i s).AllChannels P := by
  refine State.AllChannels.congr ?_ (channels_handChange _ _)
  intro j
  by_cases e : i = j
  · subst e; simpa using hP.stale _ (h i)
  · have kept := Vector.getElem_set_ne (xs := s.channels) (x := { s.channels[i].enter .stale with
      seeded := false, staleTimer := none, staleEntries := bump s.channels[i].staleEntries })
      i.isLt j.isLt fun k => e (Fin.ext k)
    exact kept ▸ h j

/-! ### Frames and requests -/

theorem allChannels_sampleFrame (src : Byte) (payload : List Byte) : (sampleFrame src payload s).AllChannels P := by
  match payload with
  | seq :: count :: rest =>
    intro i
    rw [channels_sampleFrame]
    split
    · unfold State.afterFrame
      split
      · exact hP.frame _ _ _ _ _ (readSamples_inRange rest) (h i)
      · exact h i
    · exact h i
  | [] => exact h
  | [_] => exact h

theorem allChannels_handToBlocks (f : Frame) : (handToBlocks f s).AllChannels P := by
  unfold handToBlocks
  split
  · exact allChannels_sampleFrame hP h _ _
  · split
    · exact h.congr (channels_warningFrame ..)
    · split
      · exact h.congr (channels_handToExecutor ..)
      · exact h

theorem allChannels_routeP (f : Frame) : (routeP f s).AllChannels P :=
  (allChannels_handToBlocks hP (h.congr (sameGround_hearSource f s).channels) f).congr (channels_forwardP f _)

theorem allChannels_startRestart : (startRestart s).AllChannels P := by
  have cleared := allChannels_clearPeaks hP (h.congr (channels_clearFlags s fun _ => true))
  unfold startRestart
  dsimp only
  split <;> exact cleared.congr (by simp)

theorem allChannels_isolate (z : Fin 8) : (isolate z s).AllChannels P := by
  unfold isolate
  dsimp only
  refine State.AllChannels.congr ?_ (channels_clearFlags _ _)
  split
  · exact h
  · exact (allChannels_restartMembers hP (s := setIsolated z true s) h z).congr (channels_evaluateZone z _)

theorem allChannels_restore (z : Fin 8) : (restore z s).AllChannels P := by
  unfold restore
  split
  · exact (allChannels_restartMembers hP (s := setIsolated z false s) h z).congr (channels_evaluateZone z _)
  · exact h

theorem allChannels_authorizeRestart (q : Asker) : (reqAuthorizeRestart q s).AllChannels P := by
  unfold reqAuthorizeRestart
  repeat' split
  · exact allChannels_refuse h q _
  · exact allChannels_refuse h q _
  · exact allChannels_refuse h q _
  · exact allChannels_answer (allChannels_startRestart hP h) q _ _

theorem allChannels_isolateZone (q : Asker) (zone : Byte) : (reqIsolateZone q zone s).AllChannels P := by
  unfold reqIsolateZone
  repeat' split
  · exact allChannels_answer (allChannels_isolate hP h _) q _ _
  · exact allChannels_refuse h q _
  · exact allChannels_refuse h q _

theorem allChannels_restoreZone (q : Asker) (zone : Byte) : (reqRestoreZone q zone s).AllChannels P := by
  unfold reqRestoreZone
  repeat' split
  · exact allChannels_answer (allChannels_restore hP h _) q _ _
  · exact allChannels_refuse h q _
  · exact allChannels_refuse h q _

/-- Of the requests four change channels: the start of a restart, the two of a zone, and the clearing of the counters. -/
theorem allChannels_perform (q : Asker) (r : Req) : (perform q r s).AllChannels P := by
  cases r with
  | authorizeRestart => exact allChannels_authorizeRestart hP h q
  | isolateZone z => exact allChannels_isolateZone hP h q z
  | restoreZone z => exact allChannels_restoreZone hP h q z
  | clearCounters => exact allChannels_clearAllCounters hP h
  | readStatus | readOutstanding | readWarnings | setTime | clearCause | resetPart => exact h.congr rfl
  | _ => exact h.congr (by simp [perform])

theorem allChannels_routeS (f : Frame) : (routeS f s).AllChannels P := by
  have performed : (performPayload f.src f.tag f.payload (countHandled s)).AllChannels P := by
    unfold performPayload
    split
    · exact h
    · split
      · exact allChannels_perform hP (s := countHandled s) h _ _
      · exact h
  unfold routeS handleRequest
  split
  · split
    · exact performed
    · exact h
  · exact h.congr (channels_routeThroughS f s)

theorem allChannels_route (port : Port) (f : Frame) : (route port f s).AllChannels P := by
  cases port
  · exact allChannels_routeS hP h f
  · exact allChannels_routeP hP h f

theorem allChannels_frameArrives (port : Port) (f : Frame) : (frameArrives port f s).AllChannels P := by
  unfold frameArrives
  dsimp only
  repeat' split
  · exact allChannels_route hP (h.congr (setPort_channels ..)) port f
  · exact h.congr (setPort_channels ..)
  · exact h

theorem allChannels_characterArrives (port : Port) (v : Byte) (marker framing : Bool) :
    (characterArrives port v marker framing s).AllChannels P := by
  unfold characterArrives
  dsimp only
  repeat' split
  · exact allChannels_route hP (h.congr (setPort_channels ..)) port _
  · exact h.congr (setPort_channels ..)
  · exact h

omit hP in
theorem allChannels_gapExpires (port : Port) : (gapExpires port s).AllChannels P := by
  unfold gapExpires
  dsimp only
  split
  · split
    · exact h
    · exact h.congr (setPort_channels ..)
    · exact h.congr (setPort_channels ..)
  · exact h

/-! ### Activation, writes and follow-ups -/

theorem allChannels_activate : (activate s).AllChannels P := by
  have taken : (takeTables s.tables (reloadAwaiting s)).AllChannels P := by
    have restarted := allChannels_restartAll hP (s := routerTakesTables s.tables (reloadAwaiting s)) (h.congr (by simp))
    exact restarted.congr (by simp [takeTables])
  unfold activate
  dsimp only
  refine State.AllChannels.congr ?_ ((channels_leaveUnconfigured _).trans (channels_markConfigurationChanged _ _))
  split
  · exact taken
  · exact h.congr (channels_reloadAwaiting s)

theorem allChannels_committed (c : CommitRun) : (committed c s).AllChannels P := by
  have ended : (endCommit c .committed [] s).AllChannels P := h.congr (channels_endCommit c .committed [] s)
  unfold committed
  dsimp only
  split
  · exact allChannels_activate hP (State.AllChannels.congr ended rfl)
  · exact ended

theorem allChannels_blockWritten (b : Fin 4) (passes : Bool) : (blockWritten b passes s).AllChannels P := by
  unfold blockWritten
  dsimp only
  split
  · exact h
  · split
    · split
      · exact h
      · exact allChannels_committed hP (State.AllChannels.congr h (by rfl)) _
    · exact h.congr (channels_endCommit ..)

theorem allChannels_commandedReset (addr rate : Fin 4) : (commandedReset addr rate s).AllChannels P := by
  unfold commandedReset
  split
  · exact allChannels_reset hP (by simp [beginLoad, partReset, State.reset])
  · exact h

theorem allChannels_followUp : ∀ f ∈ followUpSteps, (f s).AllChannels P := by
  intro f hf
  simp only [followUpSteps, List.mem_cons, List.not_mem_nil, or_false] at hf
  rcases hf with rfl | rfl | rfl | rfl | rfl | rfl | rfl | rfl | rfl
  · exact allChannels_commandedReset hP h _ _
  · unfold activationFollows; split
    · exact allChannels_activate hP h
    · exact h
  · unfold sResetFollows sResetTakesEffect
    repeat' split
    all_goals exact h
  · unfold pResetFollows pResetTakesEffect
    repeat' split
    all_goals exact h
  · unfold heldFollow; split <;> exact h
  · exact h.congr (channels_pChooses s)
  · exact h.congr (channels_sChooses s)
  · unfold heldFollow; split <;> exact h
  · unfold takeUpFollows; split <;> exact h

omit h in
theorem allChannels_followUps (fs : List (State → State)) (hfs : ∀ f ∈ fs, f ∈ followUpSteps) :
    ∀ s : State, s.AllChannels P → (fs.foldl (fun s f => f s) s).AllChannels P := by
  induction fs with
  | nil => exact fun s h => h
  | cons f fs ih =>
    intro s h
    exact ih (fun g hg => hfs g (List.mem_cons_of_mem f hg)) _
      (allChannels_followUp hP h f (hfs f List.mem_cons_self))

theorem allChannels_caughtUpTo (k : Nat) : (s.caughtUpTo k).AllChannels P :=
  allChannels_followUps hP _ (fun _ hf => List.mem_of_mem_take hf) s h

theorem allChannels_tick : (tick s).AllChannels P := by
  unfold tick
  split
  · rw [sampleAll_eq]; exact allChannels_tickTimers hP h
  · exact h
  · exact h
  · exact h

end Kept

end Sys2Proof.Machine
end

section
/-! SUPPORT. Every command, and with it every step, keeps a property of the channels that the detector's operations keep; the
ranges of R2 are one. -/

namespace Sys2Proof.Machine

/-- A P-port frame row is the arrival of its frame, which finds every follow-up taken. -/
theorem exec_of_pFrameOf {c : Instr} {f : Frame} (h : pFrameOf c = some f) (s : State) :
    exec c s = .next (frameArrives .p f s.caughtUp) := by
  cases c <;> simp only [pFrameOf, Option.some.injEq, reduceCtorEq] at h <;> (subst h; rfl)

/-- An S-port frame row is the arrival of its frame, which finds every follow-up taken. -/
theorem exec_of_sFrameOf {c : Instr} {f : Frame} (h : sFrameOf c = some f) (s : State) :
    exec c s = .next (frameArrives .s f s.caughtUp) := by
  cases c <;> simp only [sFrameOf, Option.some.injEq, reduceCtorEq] at h <;> (subst h; rfl)

section Kept
variable {P : Channel → Prop} (hP : Channel.Invariant P) {s : State} (h : s.AllChannels P)
include hP h

/-- A command that takes an operation after the first `k` follow-ups keeps what the operation keeps. -/
theorem allChannels_after (k : Nat) {f : State → State} (hf : ∀ t : State, t.AllChannels P → (f t).AllChannels P) :
    ∃ t, (.next (f (s.caughtUpTo k)) : Host.Outcome State Fault Refusal) = .next t ∧ t.AllChannels P :=
  ⟨_, rfl, hf _ (allChannels_caughtUpTo hP h k)⟩

/-- A command that is an event of its own keeps what its operation keeps. -/
theorem allChannels_event {f : State → State} (hf : ∀ t : State, t.AllChannels P → (f t).AllChannels P) :
    ∃ t, event f s = .next t ∧ t.AllChannels P := allChannels_after hP h 9 hf

/-- A timer or input row keeps what its event keeps. -/
theorem allChannels_whenDue (due : State → Bool) {f : State → State}
    (hf : ∀ t : State, t.AllChannels P → (f t).AllChannels P) :
    ∃ t, whenDue due f s = .next t ∧ t.AllChannels P := by
  refine allChannels_event hP h fun t ht => ?_
  split
  · exact hf t ht
  · exact ht

theorem allChannels_pFrameRow {c : Instr} {f : Frame} (hc : pFrameOf c = some f) :
    ∃ t, exec c s = .next t ∧ t.AllChannels P := by
  rw [exec_of_pFrameOf hc]
  exact allChannels_after hP h 9 fun _ ht => allChannels_frameArrives hP ht .p f

theorem allChannels_sFrameRow {c : Instr} {f : Frame} (hc : sFrameOf c = some f) :
    ∃ t, exec c s = .next t ∧ t.AllChannels P := by
  rw [exec_of_sFrameOf hc]
  exact allChannels_after hP h 9 fun _ ht => allChannels_frameArrives hP ht .s f

theorem allChannels_requestRow {c : Instr} {src tag : Byte} {r : Req} (hc : requestOf c = some (src, tag, r)) :
    ∃ t, exec c s = .next t ∧ t.AllChannels P := by
  rw [exec_of_requestOf hc]
  exact allChannels_after hP h 9 fun t ht => allChannels_frameArrives hP ht .s (t.requestFrame src tag r.payload)

theorem allChannels_completeLoad : (completeLoad s).AllChannels P := by
  have restarted := allChannels_restartAll hP (s := loadStore { s with phase := .running }) h
  refine restarted.congr ?_
  unfold completeLoad enterService
  dsimp only
  split <;> simp

omit h in
theorem allChannels_partReset (phase : Phase) (u : State) : (partReset phase u).AllChannels P :=
  allChannels_reset hP rfl

/-- Every command keeps the property (the rows of the table in their groups). -/
theorem allChannels_exec (c : Instr) : ∃ t, exec c s = .next t ∧ t.AllChannels P := by
  cases c with
  -- resets and power
  | powerOnReset addr rate =>
    unfold exec execPowerOnReset
    exact allChannels_event hP h fun t _ => allChannels_partReset hP .loading t
  | resetPinAssert =>
    unfold exec execResetPinAssert
    refine allChannels_event hP h fun t ht => ?_
    have cleared := allChannels_partReset hP .held t
    split
    · exact cleared
    · exact cleared
    · exact ht
    · exact ht
  | resetPinRelease =>
    unfold exec execResetPinRelease
    refine allChannels_event hP h fun t ht => ?_
    split <;> exact ht
  | startUpLoadComplete =>
    unfold exec execStartUpLoadComplete
    refine allChannels_event hP h fun t ht => ?_
    split
    · exact allChannels_completeLoad hP ht
    · exact ht
    · exact ht
    · exact ht
  | commandedReset a r =>
    unfold exec execCommandedReset
    exact ⟨_, rfl, allChannels_commandedReset hP h a r⟩
  | lossOfPower =>
    unfold exec execLossOfPower
    exact allChannels_event hP h fun t _ => allChannels_partReset hP .unpowered t
  -- frames and characters
  | receiveCharacter port v marker framing =>
    unfold exec execReceiveCharacter
    refine allChannels_event hP h fun t ht => ?_
    rw [bitsArrive_charBits]
    exact allChannels_characterArrives hP ht port v marker _
  | receiveGapExpiry port =>
    unfold exec execReceiveGapExpiry
    exact allChannels_event hP h fun t ht => allChannels_gapExpires ht port
  | pSampleFrame | pWarningFrame | pReplyFrame | pStatusFrame | pOtherFrame =>
    exact allChannels_pFrameRow hP h rfl
  | sCommandFrame | sOtherFrame => exact allChannels_sFrameRow hP h rfl
  | unknownRequest src tag payload =>
    unfold exec execUnknownRequest
    exact allChannels_event hP h fun _ ht => allChannels_frameArrives hP ht .s _
  | readStatus | readChannel | readZone | readNode | readStep | readOutstanding | readWarnings | readTripRecord
  | readCounters | readShadow | writeShadow | commit | setProtection | reloadProtection | authorizeRestart
  | abortRestart | forceTrip | clearTriggers | isolateZone | restoreZone | setTime | clearCounters | clearCause
  | resetPortS | resetPortP | resetPart => exact allChannels_requestRow hP h rfl
  -- transmission and what follows an event
  | pTransmissionEnd =>
    unfold exec execPTransmissionEnd
    refine allChannels_event hP h fun t ht => ?_
    split
    · exact ht.congr (channels_pEnds t)
    · exact ht
  | sTransmissionEnd =>
    unfold exec execSTransmissionEnd
    refine allChannels_event hP h fun t ht => ?_
    split
    · exact ht.congr (channels_sEnds t)
    · exact ht
  | sPortResetEffect =>
    unfold exec execSPortResetEffect
    exact allChannels_after hP h 2 fun t ht => allChannels_followUp hP ht _ (by simp [followUpSteps])
  | pPortResetEffect =>
    unfold exec execPPortResetEffect
    exact allChannels_after hP h 3 fun t ht => allChannels_followUp hP ht _ (by simp [followUpSteps])
  | heldResponseJoin =>
    unfold exec execHeldResponseJoin
    exact allChannels_after hP h 4 fun t ht => ht.congr (channels_heldJoin t)
  | pArbiterChoice =>
    unfold exec execPArbiterChoice
    exact allChannels_after hP h 5 fun t ht => ht.congr (channels_pChooses t)
  | sArbiterChoice =>
    unfold exec execSArbiterChoice
    exact allChannels_after hP h 6 fun t ht => ht.congr (channels_sChooses t)
  | nvWriteTakeUp =>
    unfold exec execNvWriteTakeUp
    exact allChannels_after hP h 8 fun t ht => allChannels_followUp hP ht _ (by simp [followUpSteps])
  | deferredActivation =>
    unfold exec execDeferredActivation
    exact allChannels_after hP h 1 fun t ht => allChannels_followUp hP ht _ (by simp [followUpSteps])
  -- timers and inputs
  | staleTimerExpiry i =>
    unfold exec execStaleTimerExpiry
    exact allChannels_whenDue hP h _ fun t ht => allChannels_staleExpired hP ht i
  | onsetUntilExpiry i =>
    unfold exec execOnsetUntilExpiry
    exact allChannels_whenDue hP h _ fun t ht => ht.congr (channels_onsetStampExpired i t)
  | strongUntilExpiry i =>
    unfold exec execStrongUntilExpiry
    exact allChannels_whenDue hP h _ fun t ht => ht.congr (channels_strongStampExpired i t)
  | tripInDebouncedChange i =>
    unfold exec execTripInDebouncedChange
    exact allChannels_whenDue hP h _ fun t ht => ht.congr (channels_contactChanges i t)
  | utilityOkDebouncedChange =>
    unfold exec execUtilityOkDebouncedChange
    exact allChannels_whenDue hP h _ fun t ht => ht.congr (channels_utilityChanged t)
  | feedDwellExpiry =>
    unfold exec execFeedDwellExpiry
    exact allChannels_whenDue hP h _ fun t ht => ht.congr (channels_feedRises t)
  | warningExpiry i =>
    unfold exec execWarningExpiry
    exact allChannels_whenDue hP h _ fun t ht => ht.congr (channels_formRemote (putWarning i none t))
  | quietTimerExpiry =>
    unfold exec execQuietTimerExpiry
    exact allChannels_whenDue hP h _ fun t ht => ht.congr rfl
  | dwellExpiry i =>
    unfold exec execDwellExpiry
    exact allChannels_whenDue hP h _ fun t ht => ht.congr (channels_of_fixed (fixed_dwellExpired i t))
  | replyDeadlineExpiry i =>
    unfold exec execReplyDeadlineExpiry
    exact allChannels_whenDue hP h _ fun t ht => ht.congr (channels_of_fixed (fixed_deadlineExpired i t))
  | readyTimeoutExpiry i =>
    unfold exec execReadyTimeoutExpiry
    exact allChannels_whenDue hP h _ fun t ht => ht.congr (channels_of_fixed (fixed_readyExpired i t))
  | settleExpiry i =>
    unfold exec execSettleExpiry
    exact allChannels_whenDue hP h _ fun t ht => ht.congr (channels_of_fixed (fixed_settleExpired i t))
  | siteTimeSecond =>
    unfold exec execSiteTimeSecond
    refine allChannels_event hP h fun t ht => ?_
    split <;> exact ht
  | rawInputLevelChange =>
    unfold exec execRawInputLevelChange
    exact allChannels_event hP h fun t ht => ht
  -- non-volatile writes
  | recordWriteEnd =>
    unfold exec execRecordWriteEnd
    refine allChannels_event hP h fun t ht => ?_
    split <;> exact ht
  | blockProgramEnd passes =>
    unfold exec execBlockProgramEnd
    refine allChannels_event hP h fun t ht => ?_
    split
    · exact allChannels_blockWritten hP ht _ passes
    · exact ht
  | protectionWriteEnd =>
    unfold exec execProtectionWriteEnd
    refine allChannels_event hP h fun t ht => ?_
    split <;> exact ht

/-- Every step keeps the property. -/
theorem allChannels_step {t : State} (ht : step s = .next t) : t.AllChannels P := by
  have of_exec (c : Instr) (u : State) (hu : u.AllChannels P) (e : exec c u = .next t) : t.AllChannels P := by
    obtain ⟨t', e', k⟩ := allChannels_exec hP hu c
    rw [e] at e'; cases e'; exact k
  unfold step at ht
  split at ht
  · refine of_exec _ _ ?_ ht
    exact h
  · unfold idle at ht
    split at ht
    · refine of_exec _ _ ?_ ht
      unfold State.afterDraw; split <;> exact h
    · cases ht
      exact allChannels_tick hP h

end Kept

/-! ### The ranges of R2 -/

theorem foldl_processSample_inRange (cfg : ChanCfg) (now : Time) (samples : List Sample)
    (ha : ∀ a ∈ samples, a.InRange) {c : Channel} (hc : c.InRange) :
    (samples.foldl (processSample cfg now) c).InRange := by
  induction samples generalizing c with
  | nil => exact hc
  | cons a rest ih =>
    exact ih (fun b hb => ha b (List.mem_cons_of_mem a hb)) (processSample_inRange cfg now hc (ha a List.mem_cons_self))

theorem seedTrail_inRange (cfg : ChanCfg) (now : Time) (samples : List Sample)
    (ha : ∀ a ∈ samples, a.InRange) {c : Channel} (hc : c.InRange) :
    ((seedTrail cfg now c samples).getLastD c).InRange := by
  cases samples with
  | nil => exact hc
  | cons a rest =>
    rw [seedTrail_last]
    exact foldl_processSample_inRange cfg now rest (fun b hb => ha b (List.mem_cons_of_mem a hb))
      (seedChannel_inRange hc (ha a List.mem_cons_self))

/-- A record with the arithmetic fields of one in range is in range. -/
theorem Channel.InRange.congr {c d : Channel} (h : c.InRange) (bx : d.baseX = c.baseX) (by' : d.baseY = c.baseY)
    (bz : d.baseZ = c.baseZ) (sta : d.sta = c.sta) (lta : d.lta = c.lta) (pr : d.priming = c.priming)
    (ph : d.peakH = c.peakH) (pu : d.peakU = c.peakU) : d.InRange :=
  ⟨bx ▸ h.bx, by' ▸ h.byy, bz ▸ h.bz, sta ▸ h.sta, lta ▸ h.lta, pr ▸ h.priming, ph ▸ h.peakH, pu ▸ h.peakU⟩

theorem channelFrame_inRange (cfg : ChanCfg) (now : Time) (seq : Byte) (samples : List Sample)
    (ha : ∀ a ∈ samples, a.InRange) {c : Channel} (hc : c.InRange) :
    let r := channelFrame cfg now seq samples c
    (r.2.getLastD r.1).InRange := by
  have accepted (m q : Nat) : (acceptFrame cfg seq { c with missed := m, resyncs := q }).InRange :=
    hc.congr rfl rfl rfl rfl rfl rfl rfl rfl
  unfold channelFrame
  dsimp only
  repeat' split
  · exact hc.congr rfl rfl rfl rfl rfl rfl rfl rfl
  · rw [sampleTrail_last]; exact foldl_processSample_inRange cfg now samples ha (accepted c.missed c.resyncs)
  · rw [sampleTrail_last]; exact foldl_processSample_inRange cfg now samples ha (accepted _ c.resyncs)
  · exact seedTrail_inRange cfg now samples ha (accepted c.missed _)
  · exact seedTrail_inRange cfg now samples ha (accepted c.missed c.resyncs)

/-- The ranges are kept by all that the detector does to a channel (R2). -/
theorem inRange_invariant : Channel.Invariant Channel.InRange where
  reset := by constructor <;> decide
  restarted c runs _ := by constructor <;> simp [Channel.restarted, Channel.cleared]
  uncounted c h := h.congr rfl rfl rfl rfl rfl rfl rfl rfl
  peaksCleared c h := ⟨h.bx, h.byy, h.bz, h.sta, h.lta, h.priming, Nat.zero_le _, Nat.zero_le _⟩
  tick c h := h.congr rfl rfl rfl rfl rfl rfl rfl rfl
  stale c h := h.congr rfl rfl rfl rfl rfl rfl rfl rfl
  frame cfg now seq samples c ha h := channelFrame_inRange cfg now seq samples ha h

/-- Settles O15: the ranges of one sample and of a seeding, the tests by state, and the ranges through every step. -/
theorem sampleArithmeticStaysInRange : Obligations.SampleArithmeticStaysInRange := by
  unfold Obligations.SampleArithmeticStaysInRange
  refine ⟨fun cfg now c a hc ha => ⟨processSample_inRange cfg now hc ha, seedChannel_inRange hc ha⟩, ?_,
    fun s t h ht => allChannels_step inRange_invariant h ht⟩
  intro cfg now c a diff base dx dy h u e d
  have diffs (x b : Int) : axisDiff x b = diff x b := clampInt_eq (by decide) _
  have active : c.active = true ↔ c.state = .onset ∨ c.state = .strong := by simp [Channel.active]
  have arith : sampleArith cfg c a = (e, h) := by
    simp only [sampleArith, diffs, active]; rfl
  have byState := processSample_byState cfg now c a
  rw [arith] at byState
  exact byState

end Sys2Proof.Machine
end

section
/-! SUPPORT. What the rise of conditions does to the trigger unit: flags latched, the quiet timer reloaded where one was clear
(R46, R62); and what an evaluation of a zone and a change of a channel do with it (R32, R33, R39). -/

namespace Sys2Proof.Machine

/-! ### Conditions that rise -/

/-- From `s` on the conditions of `which` have risen: their flags are set, the quiet timer is reloaded where one of them was
clear, and of the rest only what a cascade can change has changed (R46). -/
structure State.Latched (t s : State) (which : Fin 24 → Bool) : Prop where
  fixed : t.fixed = s.fixed
  flags : ∀ i : Fin 24, t.trig.flags[i] = (s.trig.flags[i] || which i)
  kept : (∀ i : Fin 24, which i = true → s.trig.flags[i] = true) →
    t.trig.quiet = s.trig.quiet ∧ t.trig.quietElapsed = s.trig.quietElapsed
  reloaded : (∃ i : Fin 24, which i = true ∧ s.trig.flags[i] = false) →
    t.trig.quiet = some (s.params.q * 1000) ∧ t.trig.quietElapsed = false

theorem params_of_fixed {s t : State} (h : t.fixed = s.fixed) : t.params = s.params :=
  congrArg SiteTables.site (tables_of_fixed h)

/-- Nothing rises where flags and quiet timer stay. -/
theorem State.Latched.of_same {s t : State} (fixed : t.fixed = s.fixed) (flags : t.trig.flags = s.trig.flags)
    (quiet : t.trig.quiet = s.trig.quiet) (elapsed : t.trig.quietElapsed = s.trig.quietElapsed) :
    t.Latched s fun _ => false where
  fixed := fixed
  flags i := by rw [flags, Bool.or_false]
  kept _ := ⟨quiet, elapsed⟩
  reloaded h := by obtain ⟨i, h, -⟩ := h; cases h

/-- Conditions that rise one after another have all risen. -/
theorem State.Latched.trans {s t u : State} {a b : Fin 24 → Bool} (hb : u.Latched t b) (ha : t.Latched s a) :
    u.Latched s fun i => a i || b i where
  fixed := hb.fixed.trans ha.fixed
  flags i := by rw [hb.flags, ha.flags, Bool.or_assoc]
  kept h := by
    have first := ha.kept fun i hi => h i (by simp [hi])
    have second := hb.kept fun i hi => by rw [ha.flags, h i (by simp [hi]), Bool.true_or]
    exact ⟨second.1.trans first.1, second.2.trans first.2⟩
  reloaded h := by
    by_cases later : ∃ i : Fin 24, b i = true ∧ t.trig.flags[i] = false
    · rw [← params_of_fixed ha.fixed]; exact hb.reloaded later
    · have set : ∀ i : Fin 24, b i = true → t.trig.flags[i] = true := by
        intro i hi
        by_contra hf
        exact later ⟨i, hi, by simpa using hf⟩
      obtain ⟨i, hi, clear⟩ := h
      have first : a i = true := by
        cases hai : a i with
        | true => rfl
        | false =>
          have := set i (by simpa [hai] using hi)
          rw [ha.flags, clear, hai] at this
          exact this
      have reload := ha.reloaded ⟨i, first, clear⟩
      obtain ⟨quiet, elapsed⟩ := hb.kept set
      exact ⟨quiet.trans reload.1, elapsed.trans reload.2⟩

theorem State.Latched.congr {s t : State} {a b : Fin 24 → Bool} (h : t.Latched s a) (e : ∀ i, a i = b i) :
    t.Latched s b := (funext e : a = b) ▸ h

/-- Where no flag changes the quiet timer stays. -/
theorem State.Latched.quiet_of_flags_eq {s t : State} {a : Fin 24 → Bool} (h : t.Latched s a)
    (e : t.trig.flags = s.trig.flags) : t.trig.quiet = s.trig.quiet := by
  refine (h.kept fun i hi => ?_).1
  have := h.flags i
  rw [e, hi, Bool.or_true] at this
  exact this

/-- Where a flag changes the quiet timer is reloaded. -/
theorem State.Latched.quiet_of_flags_ne {s t : State} {a : Fin 24 → Bool} (h : t.Latched s a)
    (e : t.trig.flags ≠ s.trig.flags) : t.trig.quiet = some (s.params.q * 1000) ∧ t.trig.quietElapsed = false := by
  refine h.reloaded ?_
  by_contra none
  refine e (Vector.ext fun i hi => ?_)
  have flag := h.flags ⟨i, hi⟩
  cases ha : a ⟨i, hi⟩ with
  | false => simpa [ha] using flag
  | true =>
    have set : s.trig.flags[(⟨i, hi⟩ : Fin 24)] = true := by
      by_contra hf
      exact none ⟨⟨i, hi⟩, ha, by simpa using hf⟩
    rw [set, Bool.true_or] at flag
    exact flag.trans set.symm

theorem latched_formAlert (s : State) : (formAlert s).Latched s fun _ => false :=
  .of_same (fixed_formAlert s) rfl rfl rfl

theorem latched_drawOrder (s : State) : (drawOrder s).2.Latched s fun _ => false :=
  .of_same (fixed_drawOrder s) rfl rfl rfl

theorem flags_formRequest (s : State) : (formRequest s).trig.flags = s.trig.flags :=
  congrArg (fun t => t.flags) (besideAlert_formRequest s)

theorem latched_formRequest (s : State) : (formRequest s).Latched s fun _ => false :=
  .of_same (fixed_formRequest s) (flags_formRequest s) (congrArg (fun t => t.quiet) (besideAlert_formRequest s))
    (congrArg (fun t => t.quietElapsed) (besideAlert_formRequest s))

theorem latched_setFlag (i : Fin 24) (s : State) : (setFlag i s).Latched s fun j => decide (j = i) := by
  by_cases h : s.trig.flags[i] = true
  · have same : setFlag i s = s := if_pos h
    refine ⟨by rw [same], fun j => ?_, fun _ => by rw [same]; exact ⟨rfl, rfl⟩, fun clear => ?_⟩
    · rw [same]
      by_cases e : j = i
      · subst e; rw [h]; rfl
      · simp [e]
    · obtain ⟨j, hj, hf⟩ := clear
      rw [of_decide_eq_true hj, h] at hf
      cases hf
  · have set : setFlag i s = reloadQuiet { s with trig.flags := s.trig.flags.set i true } := if_neg h
    refine ⟨fixed_setFlag i s, fun j => ?_, fun all => absurd (all i (by simp)) h, fun _ => by rw [set]; exact ⟨rfl, rfl⟩⟩
    rw [set]
    show (s.trig.flags.set i true)[j] = _
    by_cases e : j = i
    · subst e; simp
    · have ne : i.val ≠ j.val := fun k => e (Fin.ext k.symm)
      simp [e, Vector.getElem_set_ne _ _ ne]

theorem latched_latch (i : Fin 24) (s : State) : (latch i s).Latched s fun j => decide (j = i) := by
  by_cases h : s.trig.flags[i] = true
  · have same : latch i s = setFlag i s := by unfold latch setFlag; rw [if_pos h, if_pos h]
    rw [same]; exact latched_setFlag i s
  · have formed : latch i s = formRequest (setFlag i s) := by unfold latch; rw [if_neg h]
    rw [formed]
    exact ((latched_formRequest _).trans (latched_setFlag i s)).congr fun j => Bool.or_false _

/-- The rises of a zone's votes latch the votes' sources, in either order (R39, R46). -/
theorem latched_reportRises (z : Fin 8) (onset strong : Bool) (s : State) :
    (reportRises z onset strong s).Latched s fun i =>
      (decide (i = srcOnset z) && onset) || (decide (i = srcStrong z) && strong) := by
  unfold reportRises
  cases onset <;> cases strong
  · exact (State.Latched.of_same rfl rfl rfl rfl).congr fun i => by simp
  · exact (latched_latch (srcStrong z) s).congr fun i => by simp
  · exact (latched_latch (srcOnset z) s).congr fun i => by simp
  · rw [if_pos ⟨rfl, rfl⟩]
    dsimp only
    have drawn := latched_drawOrder s
    split
    · exact (((latched_latch _ _).trans (latched_latch _ _)).trans drawn).congr fun i => by simp
    · exact (((latched_latch _ _).trans (latched_latch _ _)).trans drawn).congr fun i => by simp [Bool.or_comm]

/-! ### Evaluations -/

/-- An evaluation sets the zone and latches the sources of the votes that rise (R37 to R39). -/
theorem latched_evaluateZone (z : Fin 8) (s : State) :
    (evaluateZone z s).Latched { s with voter.zones := s.voter.zones.set z (s.zoneEvaluated z) } fun i =>
      (decide (i = srcOnset z) && ((s.zoneEvaluated z).onsetVote && !s.voter.zones[z].onsetVote)) ||
        (decide (i = srcStrong z) && ((s.zoneEvaluated z).strongVote && !s.voter.zones[z].strongVote)) := by
  unfold evaluateZone
  dsimp only
  exact (((latched_formAlert _).trans (latched_reportRises z _ _ _)).trans (latched_formAlert _)).congr fun i => by simp

theorem zones_evaluateZone (z : Fin 8) (s : State) :
    (evaluateZone z s).voter.zones = s.voter.zones.set z (s.zoneEvaluated z) :=
  congrArg (fun u => u.voter.zones) (fixed_evaluateZone z s)

theorem tables_evaluateZone (z : Fin 8) (s : State) : (evaluateZone z s).tables = s.tables :=
  congrArg (fun u => u.store.work.site) (fixed_evaluateZone z s)

theorem zones_set_same {zones : Vector Zone 8} (z : Fin 8) (x : Zone) : (zones.set z x)[z] = x := by simp

theorem zones_set_other {zones : Vector Zone 8} {y z : Fin 8} (h : y ≠ z) (x : Zone) :
    (zones.set z x)[y] = zones[y] := by
  have ne : z.val ≠ y.val := fun e => h (Fin.ext e.symm)
  simp [Vector.getElem_set_ne _ _ ne]

/-- An evaluation rests on the configuration, the members' images and the zone's isolation alone (R35 to R38). -/
theorem zoneEvaluated_congr {s t : State} (z : Fin 8) (ht : t.tables = s.tables)
    (hm : t.voter.members = s.voter.members) (hi : t.voter.zones[z].isolated = s.voter.zones[z].isolated) :
    t.zoneEvaluated z = s.zoneEvaluated z := by
  unfold State.zoneEvaluated State.zoneCounts State.zoneMembers
  rw [ht, hm, hi]

/-- Right after an evaluation the zone is as it would be evaluated again. -/
theorem zone_evaluated_again (z : Fin 8) (s : State) :
    (evaluateZone z s).voter.zones[z] = (evaluateZone z s).zoneEvaluated z := by
  have zone : (evaluateZone z s).voter.zones[z] = s.zoneEvaluated z := by rw [zones_evaluateZone, zones_set_same]
  rw [zone, zoneEvaluated_congr z (tables_evaluateZone z s) (members_evaluateZone z s) (by rw [zone]; rfl)]

/-! ### A change of a channel -/

/-- A member's stamps by the state entered and, where they begin to run, the state left (R33). -/
theorem Member.take_eq (m : Member) (c : Change) (now : Time) (w : Nat) :
    let stamp := some (now + BitVec.ofNat 32 w)
    let image : Member := { m with state := c.state, seeded := c.seeded }
    (c.state = .onset → m.take c now w = { image with onsetUntil := none }) ∧
    (c.state = .strong ∨ c.state = .stale ∨ c.state = .off →
      m.take c now w = { image with onsetUntil := none, strongUntil := none }) ∧
    (c.state = .quiet ∨ c.state = .priming →
      (m.state = .onset → m.take c now w = { image with onsetUntil := stamp }) ∧
      (m.state = .strong → m.take c now w = { image with onsetUntil := stamp, strongUntil := stamp }) ∧
      (m.state ≠ .onset → m.state ≠ .strong → m.take c now w = image)) := by
  intro stamp image
  refine ⟨fun h => ?_, fun h => ?_, fun h => ⟨fun was => ?_, fun was => ?_, fun onset strong => ?_⟩⟩
  · simp [Member.take, h, image]
  · rcases h with h | h | h <;> simp [Member.take, h, image]
  · rcases h with h | h <;> simp [Member.take, h, was, image, stamp, laterBy]
  · rcases h with h | h <;> simp [Member.take, h, was, image, stamp, laterBy]
  · rcases h with h | h <;> simp [Member.take, h, onset, strong, image]

/-- The state once the quiet timer and ALERT_OUT have taken a change (R62, R63). -/
def State.noted (s : State) (c : Change) : State :=
  formAlert (if c.state = .onset ∨ c.state = .strong then reloadQuiet s else s)

section Noted
variable (s : State) (c : Change)

/-- The change is noted in quiet timer and ALERT_OUT alone. -/
theorem noted_eq : ∃ alert, s.noted c = { s with
    trig.quiet := if c.state = .onset ∨ c.state = .strong then some (s.params.q * 1000) else s.trig.quiet
    trig.alertOut := alert
    trig.quietElapsed := s.trig.quietElapsed && !(c.state == .onset || c.state == .strong) } := by
  unfold State.noted
  by_cases h : c.state = .onset ∨ c.state = .strong
  · rw [if_pos h, if_pos h]
    have entered : (c.state == .onset || c.state == .strong) = true := by simpa using h
    exact ⟨_, by rw [entered, Bool.not_true, Bool.and_false]; rfl⟩
  · rw [if_neg h, if_neg h]
    have entered : (c.state == .onset || c.state == .strong) = false := by simpa using h
    exact ⟨_, by rw [entered, Bool.not_false, Bool.and_true]; rfl⟩

theorem tables_noted : (s.noted c).tables = s.tables := by
  obtain ⟨alert, e⟩ := noted_eq s c; rw [e]; rfl

/-- A change of a channel of no zone is noted, and that is all. -/
theorem handChange_of_no_zone {c : Change} {s : State} (h : s.tables.zoneOf c.channel = none) :
    handChange c s = s.noted c := by
  have tables := tables_noted s c
  unfold State.noted at tables ⊢
  unfold handChange
  dsimp only
  rw [tables, h]

/-- The state in which the zone of a changed channel is evaluated: the change is noted and stands in its member's image
(R32, R33). -/
def State.beforeEvaluation (z : Fin 8) : State :=
  { s.noted c with
    voter.members := s.voter.members.set c.channel (s.voter.members[c.channel].take c s.now s.tables.zones[z].w) }

theorem handChange_of_zone {c : Change} {s : State} {z : Fin 8} (h : s.tables.zoneOf c.channel = some z) :
    handChange c s = evaluateZone z (s.beforeEvaluation c z) := by
  have tables := tables_noted s c
  have image : takeIntoImage c (s.noted c) = s.beforeEvaluation c z := by
    unfold takeIntoImage State.beforeEvaluation
    rw [tables, h]
    obtain ⟨alert, e⟩ := noted_eq s c
    rw [e]
  rw [← image]
  unfold State.noted at tables ⊢
  unfold handChange
  dsimp only
  rw [tables, h]

end Noted

/-- What a change leaves: the image, the zone evaluated, the votes' sources latched, and the rest as the note of the change
left it (R32, R33, R39, R46, R62). -/
theorem latched_handChange {c : Change} {s : State} {z : Fin 8} (h : s.tables.zoneOf c.channel = some z) :
    let u := s.beforeEvaluation c z
    (handChange c s).Latched { u with voter.zones := s.voter.zones.set z (u.zoneEvaluated z) } fun i =>
      (decide (i = srcOnset z) && (u.zoneEvaluated z).onsetVote && !s.voter.zones[z].onsetVote) ||
        (decide (i = srcStrong z) && (u.zoneEvaluated z).strongVote && !s.voter.zones[z].strongVote) := by
  intro u
  have zones : u.voter.zones = s.voter.zones := by
    obtain ⟨alert, e⟩ := noted_eq s c
    simp only [u, State.beforeEvaluation, e]
  have latched := latched_evaluateZone z u
  rw [zones] at latched
  rw [handChange_of_zone h]
  exact latched.congr fun i => by simp only [Bool.and_assoc]

section BeforeEvaluation
variable (s : State) (c : Change) (z : Fin 8)

theorem zones_beforeEvaluation : (s.beforeEvaluation c z).voter.zones = s.voter.zones := by
  obtain ⟨alert, e⟩ := noted_eq s c
  unfold State.beforeEvaluation
  rw [e]

theorem tables_beforeEvaluation : (s.beforeEvaluation c z).tables = s.tables := tables_noted s c

end BeforeEvaluation

/-- A change of a channel leaves the state of every zone that the channel is no member of. -/
theorem zones_handChange_other {c : Change} {s : State} {y : Fin 8} (h : s.tables.zoneOf c.channel ≠ some y) :
    (handChange c s).voter.zones[y] = s.voter.zones[y] := by
  cases hz : s.tables.zoneOf c.channel with
  | none =>
    obtain ⟨alert, e⟩ := noted_eq s c
    rw [handChange_of_no_zone hz, e]
  | some z =>
    have ne : y ≠ z := fun e => h (by rw [hz, e])
    rw [handChange_of_zone hz, zones_evaluateZone, zones_set_other ne, zones_beforeEvaluation]

/-- The channel once its stale timer has run out (R12, R23). -/
def State.gone (s : State) (i : Fin 32) : State :=
  { s with channels := s.channels.set i { s.channels[i] with
      state := .stale, seeded := false, below := 0, staleTimer := none
      staleEntries := bump s.channels[i].staleEntries } }

theorem staleExpired_eq (i : Fin 32) (s : State) : staleExpired i s = handChange ⟨i, .stale, false⟩ (s.gone i) := rfl

theorem staleDue_of_expired {s : State} {i : Fin 32} (seeded : s.channels[i].seeded = true)
    (timer : s.channels[i].staleTimer = some 0) : s.staleDue i = true := by
  unfold State.staleDue
  rw [seeded, timer]
  rfl

/-- An event of the part's own that is due in service takes place. -/
theorem whenDue_of_due {due : State → Bool} {f : State → State} {s : State} (running : s.caughtUp.isRunning = true)
    (h : due s.caughtUp = true) : whenDue due f s = .next (f s.caughtUp) := by
  have both : (s.caughtUp.isRunning && due s.caughtUp) = true := by rw [running, h, Bool.and_self]
  exact congrArg Host.Outcome.next (if_pos both)

theorem exec_staleTimerExpiry {i : Fin 32} {s : State} (running : s.caughtUp.isRunning = true)
    (due : s.caughtUp.staleDue i = true) : exec (.staleTimerExpiry i) s = .next (staleExpired i s.caughtUp) := by
  unfold exec execStaleTimerExpiry
  exact whenDue_of_due (due := fun s => s.staleDue i) running due

/-- The expiry of a stale timer: the image STALE without stamps, the member's zone evaluated, no other (R12, R33). -/
theorem voter_staleExpired (s : State) (i : Fin 32) :
    let t := staleExpired i s
    (∀ z : Fin 8, s.tables.zoneOf i ≠ some z → t.voter.zones[z] = s.voter.zones[z]) ∧
    ∀ z : Fin 8, s.tables.zoneOf i = some z →
      t.voter.members = s.voter.members.set i ⟨.stale, false, none, none⟩ ∧ t.voter.zones[z] = t.zoneEvaluated z := by
  dsimp only
  rw [staleExpired_eq]
  refine ⟨fun z hz => zones_handChange_other hz, fun z hz => ?_⟩
  have zone : (s.gone i).tables.zoneOf i = some z := hz
  have image : ((s.gone i).beforeEvaluation ⟨i, .stale, false⟩ z).voter.members =
      s.voter.members.set i ⟨.stale, false, none, none⟩ := by
    unfold State.beforeEvaluation
    rw [(Member.take_eq _ _ _ _).2.1 (.inr (.inl rfl))]
    rfl
  rw [handChange_of_zone zone]
  exact ⟨(members_evaluateZone z _).trans image, zone_evaluated_again z _⟩

/-- What is fixed once a member's zone is evaluated, the note of the change left out. -/
theorem fixed_beforeEvaluation {s : State} {c : Change} (z : Fin 8) (zones : Vector Zone 8) :
    ({ s.beforeEvaluation c z with voter.zones := zones } : State).fixed = ({ s with
      voter.members := s.voter.members.set c.channel (s.voter.members[c.channel].take c s.now s.tables.zones[z].w)
      voter.zones := zones } : State).fixed := by
  obtain ⟨alert, e⟩ := noted_eq s c
  unfold State.beforeEvaluation
  rw [e]
  rfl

/-- Settles O41: the expiry is the change to STALE; the stamps' table; and every change, of a channel of no zone and of a
zone's member. -/
theorem staleExpiryMakesTheChannelStale : Obligations.StaleExpiryMakesTheChannelStale := by
  unfold Obligations.StaleExpiryMakesTheChannelStale
  refine ⟨?_, Member.take_eq, fun c s => ?_⟩
  · intro i s₀ s running seeded timer
    refine ⟨staleExpired i s, exec_staleTimerExpiry running (staleDue_of_expired seeded timer), ?_, voter_staleExpired s i⟩
    rw [staleExpired_eq, fixedButVoter_handChange]
    rfl
  · intro quiet
    obtain ⟨alert, e⟩ := noted_eq s c
    refine ⟨fun hz => ⟨alert, by rw [handChange_of_no_zone hz, e]⟩, fun z hz => ?_⟩
    intro member u new t
    have latched := latched_handChange hz
    have flags : (s.beforeEvaluation c z).trig.flags = s.trig.flags := by
      unfold State.beforeEvaluation; rw [e]
    have timer : (s.beforeEvaluation c z).trig.quiet = quiet := by
      unfold State.beforeEvaluation; rw [e]
    have params : (s.beforeEvaluation c z).params = s.params :=
      congrArg SiteTables.site (tables_beforeEvaluation s c z)
    have judged : (s.beforeEvaluation c z).zoneEvaluated z = new :=
      zoneEvaluated_congr z (tables_beforeEvaluation s c z) rfl (by rw [zones_beforeEvaluation])
    dsimp only at latched
    rw [judged] at latched
    refine ⟨latched.fixed.trans (fixed_beforeEvaluation z _), fun i => ?_, fun same => ?_, fun other => ?_⟩
    · rw [Bool.or_assoc, ← flags]
      exact latched.flags i
    · rw [← timer]
      exact latched.quiet_of_flags_eq (same.trans flags.symm)
    · rw [← params]
      exact latched.quiet_of_flags_ne fun e => other (e.trans flags)

end Sys2Proof.Machine
end

section
/-! SUPPORT. What isolating and restoring a zone does to its members, its votes, its condition and the flags (R27, R41, R42). -/

namespace Sys2Proof.Machine

/-- Where nothing rises no flag changes. -/
theorem State.Latched.flags_eq {s t : State} {a : Fin 24 → Bool} (h : t.Latched s a) (e : ∀ i, a i = false) :
    t.trig.flags = s.trig.flags := by
  refine Vector.ext fun i hi => ?_
  have flag := h.flags ⟨i, hi⟩
  rwa [e, Bool.or_false] at flag

section
variable (z : Fin 8) (s : State)

/-- A restart of members touches channels, images and ALERT_OUT alone. -/
theorem restartMembers_eq : ∃ channels members alert, restartMembers z s = { s with
    channels := channels, voter.members := members, trig.alertOut := alert } :=
  ⟨_, _, _, rfl⟩

theorem tables_restartMembers : (restartMembers z s).tables = s.tables := by
  obtain ⟨channels, members, alert, e⟩ := restartMembers_eq z s
  rw [e]
  rfl

theorem flags_restartMembers : (restartMembers z s).trig.flags = s.trig.flags := by
  obtain ⟨channels, members, alert, e⟩ := restartMembers_eq z s
  rw [e]

theorem zones_restartMembers : (restartMembers z s).voter.zones = s.voter.zones := by
  obtain ⟨channels, members, alert, e⟩ := restartMembers_eq z s
  rw [e]

theorem fixedButVoter_restartMembers : (restartMembers z s).fixedButVoter =
    ({ s with channels := (restartMembers z s).channels } : State).fixedButVoter := by
  obtain ⟨channels, members, alert, e⟩ := restartMembers_eq z s
  rw [e]
  rfl

/-- The members of the zone are restarted, every other channel stays (R27). -/
theorem channels_restartMembers (c : Fin 32) : (restartMembers z s).channels[c] =
    if c ∈ s.tables.zones[z].members then s.channels[c].restarted (s.mayRun c) else s.channels[c] := by
  simp [restartMembers]

theorem image_restartMembers {c : Fin 32} (h : c ∈ s.tables.zones[z].members) :
    (restartMembers z s).voter.members[c] = ⟨if s.mayRun c then .priming else .off, false, none, none⟩ := by
  rw [Fin.getElem_fin] at h
  simp [restartMembers, formAlert, h, Channel.restarted]

/-- The image of a restarted member can report neither onset nor strong motion (R36). -/
theorem image_incapable {c : Fin 32} (h : c ∈ s.tables.zones[z].members) :
    ((restartMembers z s).voter.members[c]).capableOn = false ∧
      ((restartMembers z s).voter.members[c]).capableStrong = false := by
  rw [image_restartMembers z s h]
  split <;> exact ⟨rfl, rfl⟩

/-- No member of a zone just restarted is capable (R36). -/
theorem zoneCounts_restartMembers : ((restartMembers z s).zoneCounts z).capableOn = 0 ∧
    ((restartMembers z s).zoneCounts z).capableStrong = 0 := by
  unfold State.zoneCounts countsOf State.zoneMembers
  rw [tables_restartMembers]
  constructor <;> refine List.countP_eq_zero.mpr fun m hm => ?_ <;> obtain ⟨c, hc, rfl⟩ := List.mem_map.mp hm
  · rw [(image_incapable z s hc).1]; decide
  · rw [(image_incapable z s hc).2]; decide

/-- A zone none of whose members is capable has no vote and is BLIND (R37, R38). -/
theorem zoneEvaluated_of_incapable {s : State} {z : Fin 8} (on : (s.zoneCounts z).capableOn = 0)
    (strong : (s.zoneCounts z).capableStrong = 0) :
    s.zoneEvaluated z = ⟨s.voter.zones[z].isolated, false, false, .blind⟩ := by
  simp [State.zoneEvaluated, voteOf, conditionOf, on, strong]

/-- A zone's isolation set or cleared, its members restarted and the zone evaluated (R41, R42). -/
def State.cycled (b : Bool) : State := evaluateZone z (restartMembers z (setIsolated z b s))

variable (b : Bool)

theorem zoneEvaluated_cycle :
    (restartMembers z (setIsolated z b s)).zoneEvaluated z = ⟨b, false, false, .blind⟩ := by
  obtain ⟨on, strong⟩ := zoneCounts_restartMembers z (setIsolated z b s)
  have isolated : (restartMembers z (setIsolated z b s)).voter.zones[z].isolated = b := by
    rw [zones_restartMembers]
    exact congrArg Zone.isolated (zones_set_same z _)
  rw [zoneEvaluated_of_incapable on strong, isolated]

theorem zones_cycled : (s.cycled z b).voter.zones = s.voter.zones.set z ⟨b, false, false, .blind⟩ := by
  have zones : (restartMembers z (setIsolated z b s)).voter.zones =
      s.voter.zones.set z { s.voter.zones[z] with isolated := b } := zones_restartMembers z _
  unfold State.cycled
  rw [zones_evaluateZone, zoneEvaluated_cycle, zones, Vector.set_set]

theorem channels_cycled (c : Fin 32) : (s.cycled z b).channels[c] = if c ∈ s.tables.zones[z].members
    then s.channels[c].restarted ((setIsolated z b s).mayRun c) else s.channels[c] := by
  unfold State.cycled
  rw [channels_evaluateZone]
  exact channels_restartMembers z (setIsolated z b s) c

/-- Nothing rises when a zone is isolated or restored: it has no vote. -/
theorem flags_cycled : (s.cycled z b).trig.flags = s.trig.flags := by
  have latched := latched_evaluateZone z (restartMembers z (setIsolated z b s))
  rw [zoneEvaluated_cycle] at latched
  have flags := latched.flags_eq fun i => by simp
  exact flags.trans (flags_restartMembers z (setIsolated z b s))

theorem fixedButVoter_cycled :
    (s.cycled z b).fixedButVoter = ({ s with channels := (s.cycled z b).channels } : State).fixedButVoter := by
  unfold State.cycled
  rw [channels_evaluateZone, fixedButVoter_evaluateZone, fixedButVoter_restartMembers]
  generalize (restartMembers z (setIsolated z b s)).channels = channels
  rfl

/-- A member of the zone alone may run where it is enabled and its zone is not isolated (R26). -/
theorem mayRun_setIsolated {c : Fin 32} (h : s.tables.zoneOf c = some z) :
    (setIsolated z b s).mayRun c = (s.tables.channels[c].enabled && !b) := by
  have isolated : (setIsolated z b s).voter.zones[z].isolated = b := congrArg Zone.isolated (zones_set_same z _)
  have zone : (setIsolated z b s).tables.zoneOf c = some z := h
  unfold State.mayRun
  rw [zone]
  dsimp only
  rw [isolated]
  rfl

theorem isolate_eq : isolate z s = clearFlags (fun i => i == srcOnset z || i == srcStrong z)
    (if s.voter.zones[z].isolated then s else s.cycled z true) := rfl

end

theorem flags_clearFlags (which : Fin 24 → Bool) (s : State) (i : Fin 24) :
    (clearFlags which s).trig.flags[i] = (s.trig.flags[i] && !which i) := by
  unfold clearFlags
  rw [flags_formRequest]
  simp

theorem fixedButVoter_replied (s : State) (src tag code : Byte) (st : Status) (data : List Byte) :
    (s.replied src tag code st data).fixedButVoter = s.fixedButVoter.replied src tag code st data := rfl

/-- What ISOLATE_ZONE leaves (R41). -/
theorem isolate_leaves (z : Fin 8) (s : State) :
    let t := isolate z s
    t.fixedButVoter = ({ s with channels := t.channels } : State).fixedButVoter ∧
    (∀ y : Fin 8, y ≠ z → t.voter.zones[y] = s.voter.zones[y]) ∧
    t.voter.zones[z].isolated = true ∧ t.trig.flags[srcOnset z] = false ∧ t.trig.flags[srcStrong z] = false ∧
    (s.voter.zones[z].isolated = true → t.voter = s.voter ∧ t.channels = s.channels) ∧
    (s.voter.zones[z].isolated = false → t.voter.zones[z] = ⟨true, false, false, .blind⟩ ∧
      ∀ c : Fin 32, if c ∈ s.tables.zones[z].members
        then t.channels[c] = { s.channels[c].cleared with state := .off } ∨ s.tables.zoneOf c ≠ some z
        else t.channels[c] = s.channels[c]) := by
  intro t
  have flags : ∀ i, (i == srcOnset z || i == srcStrong z) = true → t.trig.flags[i] = false := fun i hi => by
    simp only [t, isolate_eq, flags_clearFlags, hi, Bool.not_true, Bool.and_false]
  have onset := flags (srcOnset z) (by simp)
  have strong := flags (srcStrong z) (by simp)
  cases isolated : s.voter.zones[z].isolated with
  | true =>
    have cleared : t = clearFlags (fun i => i == srcOnset z || i == srcStrong z) s := by
      simp only [t, isolate_eq, isolated, if_true]
    have fixed : t.fixed = s.fixed := by rw [cleared, fixed_clearFlags]
    have voter := voter_of_fixed fixed
    have channels := channels_of_fixed fixed
    refine ⟨?_, fun y _ => by rw [voter], by rw [voter, isolated], onset, strong, fun _ => ⟨voter, channels⟩, nofun⟩
    rw [channels]
    exact fixedButVoter_of_fixed fixed
  | false =>
    have cycled : t = clearFlags (fun i => i == srcOnset z || i == srcStrong z) (s.cycled z true) := by
      simp only [t, isolate_eq, isolated, Bool.false_eq_true, if_false]
    have fixed : t.fixed = (s.cycled z true).fixed := by rw [cycled, fixed_clearFlags]
    have voter := voter_of_fixed fixed
    have channels := channels_of_fixed fixed
    have zone : t.voter.zones[z] = ⟨true, false, false, .blind⟩ := by rw [voter, zones_cycled, zones_set_same]
    refine ⟨?_, fun y hy => ?_, by rw [zone], onset, strong, nofun, fun _ => ⟨zone, fun c => ?_⟩⟩
    · rw [channels, fixedButVoter_of_fixed fixed]
      exact fixedButVoter_cycled z s true
    · rw [voter, zones_cycled, zones_set_other hy]
    · rw [channels, channels_cycled]
      split
      · by_cases hz : s.tables.zoneOf c = some z
        · left; rw [mayRun_setIsolated z s true hz, Bool.not_true, Bool.and_false]; rfl
        · exact .inr hz
      · rfl

/-- What RESTORE_ZONE leaves of an isolated zone (R42). -/
theorem restore_leaves {z : Fin 8} {s : State} (isolated : s.voter.zones[z].isolated = true) :
    let t := restore z s
    t.fixedButVoter = ({ s with channels := t.channels } : State).fixedButVoter ∧
    (∀ y : Fin 8, y ≠ z → t.voter.zones[y] = s.voter.zones[y]) ∧
    t.voter.zones[z] = ⟨false, false, false, .blind⟩ ∧ t.trig.flags = s.trig.flags ∧
    ∀ c : Fin 32, if c ∈ s.tables.zones[z].members
      then t.channels[c] = { s.channels[c].cleared with
        state := if s.tables.channels[c].enabled then .priming else .off } ∨ s.tables.zoneOf c ≠ some z
      else t.channels[c] = s.channels[c] := by
  have cycled : restore z s = s.cycled z false := if_pos isolated
  dsimp only
  rw [cycled]
  refine ⟨fixedButVoter_cycled z s false, fun y hy => ?_, ?_, flags_cycled z s false, fun c => ?_⟩
  · rw [zones_cycled, zones_set_other hy]
  · rw [zones_cycled, zones_set_same]
  · rw [channels_cycled]
    split
    · by_cases hz : s.tables.zoneOf c = some z
      · left; rw [mayRun_setIsolated z s false hz, Bool.not_false, Bool.and_true]; rfl
      · exact .inr hz
    · rfl

section Requests
variable {q : Asker} {zone : Byte} {s : State}

theorem readFin_of_eq {n : Nat} {b : Byte} {i : Fin n} (h : b.toNat = i.val) : readFin n b = some i := by
  have lt : b.toNat < n := h ▸ i.isLt
  rw [readFin, dif_pos lt]
  exact congrArg some (Fin.ext h)

theorem readFin_of_le {n : Nat} {b : Byte} (h : n ≤ b.toNat) : readFin n b = none := dif_neg (by omega)

theorem atRest_of_ne (h : s.site.state ≠ .shutting) (h' : s.site.state ≠ .restarting) : s.atRest = true := by
  simp [State.atRest, h, h']

theorem atRest_of_or (h : s.site.state = .shutting ∨ s.site.state = .restarting) : s.atRest = false := by
  rcases h with h | h <;> simp [State.atRest, h]

theorem zoneRequests_of_beyond (h : 8 ≤ zone.toNat) :
    reqIsolateZone q zone s = refuse q .badArgument s ∧ reqRestoreZone q zone s = refuse q .badArgument s := by
  unfold reqIsolateZone reqRestoreZone
  rw [readFin_of_le h]
  exact ⟨rfl, rfl⟩

theorem zoneRequests_of_busy (h : zone.toNat < 8) (busy : s.atRest = false) :
    reqIsolateZone q zone s = refuse q .wrongState s ∧ reqRestoreZone q zone s = refuse q .wrongState s := by
  unfold reqIsolateZone reqRestoreZone
  rw [readFin_of_eq (i := ⟨zone.toNat, h⟩) rfl]
  dsimp only
  rw [busy]
  exact ⟨rfl, rfl⟩

theorem zoneRequests_of_rest {z : Fin 8} (h : zone.toNat = z.val) (rest : s.atRest = true) :
    reqIsolateZone q zone s = answer q .ok [] (isolate z s) ∧
      reqRestoreZone q zone s = answer q .ok [] (restore z s) := by
  unfold reqIsolateZone reqRestoreZone
  rw [readFin_of_eq h]
  dsimp only
  rw [rest]
  exact ⟨rfl, rfl⟩

end Requests

theorem exec_isolateZone (src tag zone : Byte) {s : State} (ho : s.caughtUp.OpenTo) :
    exec (.isolateZone src tag zone) s = .next (reqIsolateZone ⟨src, tag, 0x24⟩ zone s.caughtUp.asked) :=
  exec_request (r := .isolateZone zone) rfl ho rfl (by simp [Req.payload])

theorem exec_restoreZone (src tag zone : Byte) {s : State} (ho : s.caughtUp.OpenTo) :
    exec (.restoreZone src tag zone) s = .next (reqRestoreZone ⟨src, tag, 0x25⟩ zone s.caughtUp.asked) :=
  exec_request (r := .restoreZone zone) rfl ho rfl (by simp [Req.payload])

/-- Settles O33: the two refusals, the isolation and the restoration, each through what it leaves of the state that received
the request. -/
theorem zonesAreIsolatedAndRestored : Obligations.ZonesAreIsolatedAndRestored := by
  unfold Obligations.ZonesAreIsolatedAndRestored
  intro src tag zone s₀
  have isolates := exec_isolateZone src tag zone (s := s₀)
  have restores := exec_restoreZone src tag zone (s := s₀)
  generalize s₀.caughtUp = u at *
  intro s ho
  rw [isolates ho, restores ho]
  refine ⟨fun beyond => ?_, fun within busy => ?_, fun z hz shutting restarting => ?_⟩
  · rw [(zoneRequests_of_beyond beyond).1, (zoneRequests_of_beyond beyond).2]
    exact ⟨rfl, rfl⟩
  · have busy : u.asked.atRest = false := atRest_of_or busy
    rw [(zoneRequests_of_busy within busy).1, (zoneRequests_of_busy within busy).2]
    exact ⟨rfl, rfl⟩
  · have rest : u.asked.atRest = true := atRest_of_ne shutting restarting
    rw [(zoneRequests_of_rest hz rest).1, (zoneRequests_of_rest hz rest).2]
    refine ⟨⟨_, rfl, ?_⟩, fun was => ⟨_, rfl, ?_⟩, fun was => congrArg Host.Outcome.next ?_⟩
    · obtain ⟨fixed, rest⟩ := isolate_leaves z u.asked
      generalize isolate z u.asked = t at fixed rest ⊢
      refine ⟨?_, rest⟩
      rw [answer_eq_replied, fixedButVoter_replied, fixed]
      rfl
    · obtain ⟨fixed, rest⟩ := restore_leaves (s := u.asked) was
      generalize restore z u.asked = t at fixed rest ⊢
      refine ⟨?_, rest⟩
      rw [answer_eq_replied, fixedButVoter_replied, fixed]
      rfl
    · have unchanged : restore z u.asked = u.asked := if_neg (by
        rw [show u.asked.voter = u.voter from rfl]; simpa using was)
      rw [unchanged]
      rfl

end Sys2Proof.Machine
end

section
/-! SUPPORT. Characters and the fields they carry: what each field reader refuses, what it takes, and that it reads back what
was coded (R137, R182). -/

namespace Sys2Proof.Machine

/-! ### Numbers -/

theorem toNat_char {n : Nat} (h : n < 256) : (BitVec.ofNat 8 n).toNat = n := by
  rw [BitVec.toNat_ofNat]; exact Nat.mod_eq_of_lt h

theorem beNat_u16 {n : Nat} (h : n < 65536) : beNat (u16 n) = n := by
  simp [beNat, u16]; omega

theorem beNat_u32 {n : Nat} (h : n < 4294967296) : beNat (u32 n) = n := by
  simp [beNat, u32]; omega

/-- A clamped number is the nearest end of its range or itself, and counts as clamped where it was outside (R137). -/
theorem clamped_eq {lo hi : Nat} (h : lo ≤ hi) (n : Nat) :
    clamped lo hi n = (max lo (min hi n), decide (n < lo ∨ hi < n)) := by
  have value : clampNat lo hi n = max lo (min hi n) := by unfold clampNat; split <;> [skip; split] <;> omega
  unfold clamped
  rw [value, Bool.decide_or]

theorem clamped_of_mem {lo hi n : Nat} (h : lo ≤ n) (h' : n ≤ hi) : clamped lo hi n = (n, false) := by
  rw [clamped_eq (h.trans h')]
  simp; omega

/-! ### A reader that goes on where the field before was read -/

section Bind
variable {α β : Type} {o : Option α} {f : α → Option β} {p q : Prop}

/-- Two fields are refused where the first is or, the first being read, the second is. -/
theorem bind_none_iff (ho : o = none ↔ p) (hf : ∀ a, o = some a → (f a = none ↔ q)) :
    o.bind f = none ↔ p ∨ q := by
  rw [← ho]
  cases o with
  | none => simp
  | some a => simpa using hf a rfl

/-- After the last field that may be refused nothing is refused any more. -/
theorem bind_none_last (ho : o = none ↔ p) (hf : ∀ a, f a ≠ none) : o.bind f = none ↔ p := by
  rw [← ho]
  cases o with
  | none => simp
  | some a => simpa using hf a

end Bind

/-! ### Fields that name something of a set -/

theorem readYesNo_none {b : Byte} : readYesNo b = none ↔ 1 < b.toNat := by
  unfold readYesNo; split <;> [skip; split] <;> simp <;> omega

theorem readYesNo_some {b : Byte} {x : Bool} : readYesNo b = some x ↔ x.toNat = b.toNat := by
  cases x <;> unfold readYesNo <;> split <;> [skip; split; skip; split] <;> simp <;> omega

theorem readAddress_none {b : Byte} : readAddress b = none ↔ b.toNat = 0 ∨ 119 < b.toNat := by
  unfold readAddress isNode; split <;> rename_i h <;> simp at h ⊢ <;> omega

theorem readAddress_some {b : Byte} {a : Nat} : readAddress b = some a ↔ a = b.toNat ∧ 1 ≤ a ∧ a ≤ 119 := by
  unfold readAddress isNode; split <;> rename_i h <;> simp at h ⊢ <;> omega

theorem readFin_none {n : Nat} {b : Byte} : readFin n b = none ↔ n ≤ b.toNat := by
  unfold readFin; split <;> simp <;> omega

theorem readFin_some {n : Nat} {b : Byte} {i : Fin n} : readFin n b = some i ↔ i.val = b.toNat := by
  unfold readFin
  split <;> simp [Fin.ext_iff, eq_comm]
  omega

theorem action_ofCode_none {n : Nat} : Action.ofCode n = none ↔ 6 < n := by
  match n with
  | 0 | 1 | 2 | 3 | 4 | 5 | 6 => simp [Action.ofCode]
  | k + 7 => simp [Action.ofCode]

theorem action_ofCode_some {n : Nat} {a : Action} : Action.ofCode n = some a ↔ a.code = n := by
  constructor
  · intro h; unfold Action.ofCode at h; split at h <;> cases h <;> rfl
  · rintro rfl; cases a <;> rfl

theorem policy_ofCode_none {n : Nat} : Policy.ofCode n = none ↔ 3 < n := by
  match n with
  | 0 | 1 | 2 | 3 => simp [Policy.ofCode]
  | k + 4 => simp [Policy.ofCode]

theorem policy_ofCode_some {n : Nat} {a : Policy} : Policy.ofCode n = some a ↔ a.code = n := by
  constructor
  · intro h; unfold Policy.ofCode at h; split at h <;> cases h <;> rfl
  · rintro rfl; cases a <;> rfl

theorem nodeKind_ofCode_none {n : Nat} : NodeKind.ofCode n = none ↔ 7 < n := by
  match n with
  | 0 | 1 | 2 | 3 | 4 | 5 | 6 | 7 => simp [NodeKind.ofCode]
  | k + 8 => simp [NodeKind.ofCode]

theorem nodeKind_ofCode_some {n : Nat} {a : NodeKind} : NodeKind.ofCode n = some a ↔ a.code = n := by
  constructor
  · intro h; unfold NodeKind.ofCode at h; split at h <;> cases h <;> rfl
  · rintro rfl; cases a <;> rfl

theorem degrade_ofCode_none {n : Nat} : Degrade.ofCode n = none ↔ 1 < n := by
  match n with
  | 0 | 1 => simp [Degrade.ofCode]
  | k + 2 => simp [Degrade.ofCode]

theorem degrade_ofCode_some {n : Nat} {a : Degrade} : Degrade.ofCode n = some a ↔ a.code = n := by
  constructor
  · intro h; unfold Degrade.ofCode at h; split at h <;> cases h <;> rfl
  · rintro rfl; cases a <;> rfl

theorem polarity_ofCode_none {n : Nat} : Polarity.ofCode n = none ↔ 1 < n := by
  match n with
  | 0 | 1 => simp [Polarity.ofCode]
  | k + 2 => simp [Polarity.ofCode]

theorem polarity_ofCode_some {n : Nat} {a : Polarity} : Polarity.ofCode n = some a ↔ a.code = n := by
  constructor
  · intro h; unfold Polarity.ofCode at h; split at h <;> cases h <;> rfl
  · rintro rfl; cases a <;> rfl

theorem setting_ofCode_none {n : Nat} : Setting.ofCode n = none ↔ 1 < n := by
  match n with
  | 0 | 1 => simp [Setting.ofCode]
  | k + 2 => simp [Setting.ofCode]

theorem setting_ofCode_some {n : Nat} {a : Setting} : Setting.ofCode n = some a ↔ a.code = n := by
  constructor
  · intro h; unfold Setting.ofCode at h; split at h <;> cases h <;> rfl
  · rintro rfl; cases a <;> rfl

/-! ### Lists -/

theorem readItems_cons (n : Nat) (b : Byte) (rest : List Byte) : readItems n (b :: rest) =
    match readFin n b, readItems n rest with
    | some i, some is => some (i :: is)
    | _, _ => none := rfl

theorem readItems_none {n : Nat} {l : List Byte} : readItems n l = none ↔ ∃ b ∈ l, n ≤ b.toNat := by
  induction l with
  | nil => simp [readItems]
  | cons b rest ih =>
    rw [List.exists_mem_cons_iff, ← readFin_none, ← ih, readItems_cons]
    cases readFin n b <;> cases readItems n rest <;> simp

theorem readItems_some {n : Nat} {l : List Byte} {is : List (Fin n)} :
    readItems n l = some is ↔ is.map Fin.val = l.map BitVec.toNat := by
  induction l generalizing is with
  | nil => cases is <;> simp [readItems]
  | cons b rest ih =>
    rw [readItems_cons]
    cases is with
    | nil => split <;> simp
    | cons i is =>
      rw [List.map_cons, List.map_cons, List.cons.injEq, ← readFin_some, ← ih]
      cases readFin n b <;> cases readItems n rest <;> simp

/-- The items of a list's characters at full size, as many as the count says (R182). -/
theorem take_fullList (room : Nat) (items : List Nat) :
    ((items.map fun i => BitVec.ofNat 8 i) ++ List.replicate (room - items.length) 0xFF#8).take items.length
      = items.map fun i => BitVec.ofNat 8 i := by
  rw [List.take_left' (by simp)]

/-! ### Places -/

theorem fieldAt_one {d : List Byte} {k : Nat} (h : k < d.length) : fieldAt d k 1 = d[k].toNat := by
  unfold fieldAt
  rw [List.drop_eq_getElem_cons h, List.take_succ_cons, List.take_zero]
  simp [beNat]

/-- Consecutive characters, each read at its place. -/
theorem map_toNat_eq_places {d : List Byte} {k n : Nat} (h : k + n ≤ d.length) :
    ((d.drop k).take n).map BitVec.toNat = (List.range n).map fun j => fieldAt d (k + j) 1 := by
  refine List.ext_getElem (by simp; omega) fun i hi _ => ?_
  have within : i < n := by simp at hi; omega
  simp [fieldAt_one (show k + i < d.length by omega)]

theorem exists_mem_iff_place {d : List Byte} {k n m : Nat} (h : k + n ≤ d.length) :
    (∃ b ∈ (d.drop k).take n, m ≤ b.toNat) ↔ ∃ j < n, m ≤ fieldAt d (k + j) 1 := by
  have mapped : (∃ b ∈ (d.drop k).take n, m ≤ b.toNat) ↔ ∃ x ∈ ((d.drop k).take n).map BitVec.toNat, m ≤ x := by
    simp only [List.mem_map, exists_exists_and_eq_and]
  rw [mapped, map_toNat_eq_places h]
  simp only [List.mem_map, List.mem_range, exists_exists_and_eq_and]

end Sys2Proof.Machine
end

section
/-! SUPPORT. The nine kinds of records: read back from their characters, and read from any characters of their length (R137,
R182). -/

namespace Sys2Proof.Machine

/-! ### Records read back -/

section ReadBack

theorem readYesNo_yesNo (b : Bool) : readYesNo (BitVec.ofNat 8 (if b then 1 else 0)) = some b := by
  cases b <;> rfl

theorem readFin_ofNat {n : Nat} (h : n ≤ 256) (i : Fin n) : readFin n (BitVec.ofNat 8 i.val) = some i :=
  readFin_of_eq (toNat_char (i.isLt.trans_le h))

theorem readAddress_ofNat {a : Nat} (h : 1 ≤ a) (h' : a ≤ 119) : readAddress (BitVec.ofNat 8 a) = some a :=
  readAddress_some.mpr ⟨(toNat_char (by omega)).symm, h, h'⟩

theorem action_ofCode_ofNat (a : Action) : Action.ofCode (BitVec.ofNat 8 a.code).toNat = some a := by cases a <;> rfl
theorem policy_ofCode_ofNat (a : Policy) : Policy.ofCode (BitVec.ofNat 8 a.code).toNat = some a := by cases a <;> rfl
theorem nodeKind_ofCode_ofNat (a : NodeKind) : NodeKind.ofCode (BitVec.ofNat 8 a.code).toNat = some a := by
  cases a <;> rfl
theorem degrade_ofCode_ofNat (a : Degrade) : Degrade.ofCode (BitVec.ofNat 8 a.code).toNat = some a := by cases a <;> rfl
theorem polarity_ofCode_ofNat (a : Polarity) : Polarity.ofCode (BitVec.ofNat 8 a.code).toNat = some a := by
  cases a <;> rfl
theorem setting_ofCode_ofNat (a : Setting) : Setting.ofCode (BitVec.ofNat 8 a.code).toNat = some a := by cases a <;> rfl

/-- A number in its range, coded in one character, is read back unclamped. -/
theorem clamped_u8 {lo hi n : Nat} (h : lo ≤ n) (h' : n ≤ hi) (room : hi < 256) :
    clamped lo hi (BitVec.ofNat 8 n).toNat = (n, false) := by
  rw [toNat_char (by omega), clamped_of_mem h h']

theorem clamped_u16 {lo hi n : Nat} (h : lo ≤ n) (h' : n ≤ hi) (room : hi < 65536) :
    clamped lo hi (beNat [BitVec.ofNat 8 (n / 256), BitVec.ofNat 8 n]) = (n, false) := by
  rw [show beNat [BitVec.ofNat 8 (n / 256), BitVec.ofNat 8 n] = n from beNat_u16 (by omega), clamped_of_mem h h']

theorem clamped_u32 {lo hi n : Nat} (h : lo ≤ n) (h' : n ≤ hi) (room : hi < 4294967296) :
    clamped lo hi (beNat [BitVec.ofNat 8 (n / 16777216), BitVec.ofNat 8 (n / 65536), BitVec.ofNat 8 (n / 256),
      BitVec.ofNat 8 n]) = (n, false) := by
  rw [show beNat [BitVec.ofNat 8 (n / 16777216), BitVec.ofNat 8 (n / 65536), BitVec.ofNat 8 (n / 256),
    BitVec.ofNat 8 n] = n from beNat_u32 (by omega), clamped_of_mem h h']

/-- Items coded in characters are read back. -/
theorem readItems_map {n : Nat} (h : n ≤ 256) (is : List (Fin n)) :
    readItems n ((is.map Fin.val).map fun i => BitVec.ofNat 8 i) = some is := by
  refine readItems_some.mpr ?_
  rw [List.map_map, List.map_map]
  exact List.map_congr_left fun i _ => (toNat_char (i.isLt.trans_le h)).symm

theorem readHeader_chars {p : Plan} (hc : p.stepCount ≤ 64) (hl : 1 ≤ p.slotLimit) (hl' : p.slotLimit ≤ 8) :
    readHeader p.headerChars = some ((p.stepCount, p.slotLimit), false) := by
  simp [-BitVec.toNat_ofNat, readHeader, Plan.headerChars, u8, clamped_u8 (Nat.zero_le _) hc, clamped_u8 hl hl']

theorem readNodeCfg_chars (c : NodeCfg) : readNodeCfg c.chars = some (c, false) := by
  obtain ⟨present, kind, zone, loadClass, forward⟩ := c
  cases zone with
  | none =>
    have none255 : (255#8 : Byte).toNat = 255 := rfl
    simp [-BitVec.toNat_ofNat, readNodeCfg, NodeCfg.chars, yesNo, u8, u8None, readYesNo_yesNo, nodeKind_ofCode_ofNat,
      readFin_ofNat, none255]
  | some z =>
    have named : (BitVec.ofNat 8 z.val).toNat ≠ 255 := by rw [toNat_char (by omega)]; omega
    simp [-BitVec.toNat_ofNat, readNodeCfg, NodeCfg.chars, yesNo, u8, u8None, readYesNo_yesNo, nodeKind_ofCode_ofNat,
      readFin_ofNat, named]

theorem readChannelCfg_chars {c : ChanCfg} (sensor : 1 ≤ c.sensor) (sensor' : c.sensor ≤ 119) (ss : 1 ≤ c.ss)
    (ss' : c.ss ≤ 5) (ls : 6 ≤ c.ls) (ls' : c.ls ≤ 12) (on : 20 ≤ c.rOn) (on' : c.rOn ≤ 255) (off : 16 ≤ c.rOff)
    (off' : c.rOff ≤ 254) (f : 1 ≤ c.f) (f' : c.f ≤ 1000) (g : 10 ≤ c.g) (g' : c.g ≤ 32767) (h : 1 ≤ c.h)
    (h' : c.h ≤ 255) (tMax : 100 ≤ c.tMax) (tMax' : c.tMax ≤ 65535) (stale : 50 ≤ c.staleTime)
    (stale' : c.staleTime ≤ 2000) : readChannelCfg c.chars = some (c, false) := by
  simp [-BitVec.toNat_ofNat, readChannelCfg, ChanCfg.chars, yesNo, u8, u16, readYesNo_yesNo,
    readAddress_ofNat sensor sensor', clamped_u8 ss ss', clamped_u8 ls ls', clamped_u8 on on', clamped_u8 off off',
    clamped_u16 f f', clamped_u16 g g', clamped_u8 h h', clamped_u16 tMax tMax', clamped_u16 stale stale']

theorem readClassCfg_chars {c : ClassCfg} (hr : 100 ≤ c.readyTimeout) (hr' : c.readyTimeout ≤ 600000)
    (hp : 100 ≤ c.parkTimeout) (hp' : c.parkTimeout ≤ 600000) (hs : c.settleDwell ≤ 600000) :
    readClassCfg c.chars = some (c, false) := by
  simp [-BitVec.toNat_ofNat, readClassCfg, ClassCfg.chars, yesNo, u8, u32, readYesNo_yesNo, clamped_u32 hr hr', clamped_u32 hp hp',
    clamped_u32 (Nat.zero_le _) hs]

theorem readSourceCfg_chars {c : SourceCfg} (hl : 1 ≤ c.level) (hl' : c.level ≤ 2) :
    readSourceCfg c.chars = some (c, false) := by
  simp [-BitVec.toNat_ofNat, readSourceCfg, SourceCfg.chars, yesNo, u8, readYesNo_yesNo, polarity_ofCode_ofNat, clamped_u8 hl hl']

theorem readFilterCfg_chars (c : FilterCfg) : readFilterCfg c.chars = some (c, false) := by
  simp [-BitVec.toNat_ofNat, readFilterCfg, FilterCfg.chars, u8, setting_ofCode_ofNat]

/-- Four places of a list at its full size are four characters. -/
theorem fullList_four {items : List Nat} (h : items.length ≤ 4) : ∃ a b c d, fullList 4 items =
    BitVec.ofNat 8 items.length :: [a, b, c, d] ∧
      [a, b, c, d].take items.length = items.map fun i => BitVec.ofNat 8 i := by
  have room := take_fullList 4 items
  have length : ((items.map fun i => BitVec.ofNat 8 i) ++ List.replicate (4 - items.length) 0xFF#8).length = 4 := by
    simp; omega
  match hl : (items.map fun i => BitVec.ofNat 8 i) ++ List.replicate (4 - items.length) 0xFF#8, length with
  | [a, b, c, d], _ =>
    rw [hl] at room
    exact ⟨a, b, c, d, by rw [fullList, List.append_assoc, hl]; rfl, room⟩

/-- Eight places of a list at its full size are eight characters. -/
theorem fullList_eight {items : List Nat} (h : items.length ≤ 8) : ∃ a b c d e f g i, fullList 8 items =
    BitVec.ofNat 8 items.length :: [a, b, c, d, e, f, g, i] ∧
      [a, b, c, d, e, f, g, i].take items.length = items.map fun i => BitVec.ofNat 8 i := by
  have room := take_fullList 8 items
  have length : ((items.map fun i => BitVec.ofNat 8 i) ++ List.replicate (8 - items.length) 0xFF#8).length = 8 := by
    simp; omega
  match hl : (items.map fun i => BitVec.ofNat 8 i) ++ List.replicate (8 - items.length) 0xFF#8, length with
  | [a, b, c, d, e, f, g, i], _ =>
    rw [hl] at room
    exact ⟨a, b, c, d, e, f, g, i, by rw [fullList, List.append_assoc, hl]; rfl, room⟩

theorem readStep_chars {c : StepCfg} (target : ∀ a, c.target = some a → 1 ≤ a ∧ a ≤ 119)
    (untargeted : c.target = none → c.action = .mark) (length : c.prereqs.length ≤ 4) (room : c.dwell ≤ 65535)
    (low : 10 ≤ c.deadline) (high : c.deadline ≤ 10000) (few : c.reissues ≤ 3) :
    readStep c.chars = some (c, false) := by
  obtain ⟨p0, p1, p2, p3, full, items⟩ := fullList_four (items := c.prereqs.map Fin.val) (by simpa using length)
  rw [List.length_map] at full items
  have count : (BitVec.ofNat 8 c.prereqs.length).toNat = c.prereqs.length := toNat_char (by omega)
  have read : readItems 64 ([p0, p1, p2, p3].take c.prereqs.length) = some c.prereqs := by
    rw [items, readItems_map (by decide)]
  have two : beNat [BitVec.ofNat 8 (c.dwell / 256), BitVec.ofNat 8 c.dwell] = c.dwell := beNat_u16 (by omega)
  obtain ⟨action, aim, prereqs, dwell, deadline, reissues, policy⟩ := c
  cases aim with
  | none =>
    cases untargeted rfl
    have none255 : (255#8 : Byte).toNat = 255 := rfl
    have mark : Action.ofCode (BitVec.ofNat 8 Action.mark.code).toNat = some .mark := action_ofCode_ofNat .mark
    simp [-BitVec.toNat_ofNat, readStep, StepCfg.chars, full, u8, u16, u8None, mark, none255, count, length,
      read, policy_ofCode_ofNat, two, clamped_u16 low high, clamped_u8 (Nat.zero_le _) few]
  | some a =>
    obtain ⟨first, last⟩ := target a rfl
    have named : (BitVec.ofNat 8 a).toNat ≠ 255 := by rw [toNat_char (by omega)]; omega
    simp [-BitVec.toNat_ofNat, readStep, StepCfg.chars, full, u8, u16, u8None, action_ofCode_ofNat, named, count, length,
      readAddress_ofNat first last, read, policy_ofCode_ofNat, two, clamped_u16 low high,
      clamped_u8 (Nat.zero_le _) few]

theorem readZoneCfg_chars {c : ZoneCfg} (length : c.members.length ≤ 8) (kOn : 1 ≤ c.kOn) (kOn' : c.kOn ≤ 8)
    (kStrong : 1 ≤ c.kStrong) (kStrong' : c.kStrong ≤ 8) (w : 10 ≤ c.w) (w' : c.w ≤ 5000) :
    readZoneCfg c.chars = some (c, false) := by
  obtain ⟨m0, m1, m2, m3, m4, m5, m6, m7, full, items⟩ :=
    fullList_eight (items := c.members.map Fin.val) (by simpa using length)
  rw [List.length_map] at full items
  have count : (BitVec.ofNat 8 c.members.length).toNat = c.members.length := toNat_char (by omega)
  have read : readItems 32 ([m0, m1, m2, m3, m4, m5, m6, m7].take c.members.length) = some c.members := by
    rw [items, readItems_map (by decide)]
  simp [-BitVec.toNat_ofNat, readZoneCfg, ZoneCfg.chars, full, u8, u16, count, length, read, degrade_ofCode_ofNat,
    clamped_u8 kOn kOn', clamped_u8 kStrong kStrong', clamped_u16 w w']

theorem readSiteCfg_chars {c : SiteCfg} (sup : 1 ≤ c.supAddr) (sup' : c.supAddr ≤ 119)
    (debounce : ∀ i : Fin 5, 1 ≤ c.debounce[i] ∧ c.debounce[i] ≤ 255) (feed : c.feedDwell ≤ 600) (q : 10 ≤ c.q)
    (q' : c.q ≤ 3600) (alert : c.classAlert ≤ 9) (l1 : c.classL1 ≤ 9) (l2 : c.classL2 ≤ 9) :
    readSiteCfg c.chars = some (c, false) := by
  have counts : c.debounce.toList = [c.debounce[0], c.debounce[1], c.debounce[2], c.debounce[3], c.debounce[4]] :=
    List.ext_getElem (by simp) fun i hi _ => by
      have : i < 5 := by simpa using hi
      interval_cases i <;> simp
  have vector : #v[c.debounce[0], c.debounce[1], c.debounce[2], c.debounce[3], c.debounce[4]] = c.debounce :=
    Vector.ext fun i hi => by interval_cases i <;> rfl
  have count : ∀ (i : Nat) (h : i < 5), clamped 1 255 (BitVec.ofNat 8 c.debounce[i]).toNat = (c.debounce[i], false) :=
    fun i h => clamped_u8 (debounce ⟨i, h⟩).1 (debounce ⟨i, h⟩).2 (by decide)
  simp [-BitVec.toNat_ofNat, readSiteCfg, SiteCfg.chars, u8, u16, counts, vector, count, readAddress_ofNat sup sup',
    clamped_u16 (Nat.zero_le _) feed, clamped_u16 q q', clamped_u8 (Nat.zero_le _) alert,
    clamped_u8 (Nat.zero_le _) l1, clamped_u8 (Nat.zero_le _) l2]

end ReadBack

end Sys2Proof.Machine
end

section
/-! SUPPORT. A record read from any characters of its kind's length: which it refuses, and what it makes of the others
(R137). -/

namespace Sys2Proof.Machine

/-- Numbers of a record read from the characters `d`, each given as the value read, its place and its number of characters,
and the ends of its range: each is the nearest end of its range or itself, and a field counts as clamped exactly where one
was outside (R137). -/
def Numbers (d : List Byte) (l : List (Nat × Nat × Nat × Nat × Nat)) (wasClamped : Bool) : Prop :=
  (∀ p ∈ l, p.1 = max p.2.2.2.1 (min p.2.2.2.2 (fieldAt d p.2.1 p.2.2.1))) ∧
  (wasClamped = true ↔ ∃ p ∈ l, fieldAt d p.2.1 p.2.2.1 < p.2.2.2.1 ∨ p.2.2.2.2 < fieldAt d p.2.1 p.2.2.1)

section Numbers
variable {d : List Byte} {l : List (Nat × Nat × Nat × Nat × Nat)} {x : Bool} (k lo hi : Nat)

theorem numbers_nil : Numbers d [] false := by simp [Numbers]

/-- One number more, of `n` characters. -/
theorem Numbers.field (h : Numbers d l x) (n : Nat) (order : lo ≤ hi) :
    Numbers d (l ++ [((clamped lo hi (fieldAt d k n)).1, k, n, lo, hi)])
      (x || (clamped lo hi (fieldAt d k n)).2) := by
  obtain ⟨values, outside⟩ := h
  rw [clamped_eq order]
  constructor
  · intro p hp
    rcases List.mem_append.mp hp with hp | hp
    · exact values p hp
    · rw [List.mem_singleton.mp hp]
  · simp only [List.mem_append, List.mem_singleton, or_and_right, exists_or, exists_eq_left, Bool.or_eq_true, outside,
      decide_eq_true_iff]

/-- One number more, of one character. -/
theorem Numbers.char (h : Numbers d l x) (place : k < d.length) (order : lo ≤ hi) :
    Numbers d (l ++ [((clamped lo hi d[k].toNat).1, k, 1, lo, hi)]) (x || (clamped lo hi d[k].toNat).2) := by
  rw [← fieldAt_one place]
  exact h.field k lo hi 1 order

/-- Two characters hold at most 65535. -/
theorem beNat_two_le (a b : Byte) : beNat [a, b] ≤ 65535 := by
  simp [beNat]; omega

end Numbers

section Readers
variable {d : List Byte}

theorem readHeader_any (h : d.length = 2) : readHeader d ≠ none ∧ ∀ c x, readHeader d = some (c, x) →
    Numbers d [(c.1, 0, 1, 0, 64), (c.2, 1, 1, 1, 8)] x := by
  match d, h with
  | [count, limit], _ =>
    refine ⟨nofun, fun c x e => ?_⟩
    cases e
    exact (numbers_nil.char 0 0 64 (by simp) (by decide)).char 1 1 8 (by simp) (by decide)

/-- A zone or none, coded 255 (R165, R182). -/
def readZoneField (b : Byte) : Option (Option (Fin 8)) :=
  if b.toNat = 255 then some none else (readFin 8 b).map some

theorem readZoneField_none {b : Byte} : readZoneField b = none ↔ 8 ≤ b.toNat ∧ b.toNat ≠ 255 := by
  unfold readZoneField; split <;> simp [*, readFin_none]

theorem readZoneField_some {b : Byte} {z : Option (Fin 8)} (h : readZoneField b = some z) :
    (z.map Fin.val).getD 255 = b.toNat := by
  unfold readZoneField at h
  split at h <;> rename_i none255
  · cases h; exact none255.symm
  · obtain ⟨z, hz, rfl⟩ := Option.map_eq_some_iff.mp h
    exact readFin_some.mp hz

theorem readNodeCfg_eq (pr kd zn lc fw : Byte) : readNodeCfg [pr, kd, zn, lc, fw] =
    (readYesNo pr).bind fun present => (NodeKind.ofCode kd.toNat).bind fun kind => (readZoneField zn).bind fun zone =>
      (readFin 16 lc).bind fun loadClass => (readYesNo fw).bind fun forward =>
        some ({ present, kind, zone, loadClass, forward }, false) := by
  simp only [readNodeCfg, readZoneField]
  split <;> rfl

theorem readNodeCfg_none (h : d.length = 5) : readNodeCfg d = none ↔ 1 < fieldAt d 0 1 ∨ 7 < fieldAt d 1 1 ∨
    (8 ≤ fieldAt d 2 1 ∧ fieldAt d 2 1 ≠ 255) ∨ 16 ≤ fieldAt d 3 1 ∨ 1 < fieldAt d 4 1 := by
  match d, h with
  | [pr, kd, zn, lc, fw], _ =>
    simp only [fieldAt_one, List.length_cons, List.length_nil, Nat.reduceAdd, Nat.reduceLT, readNodeCfg_eq]
    exact bind_none_iff readYesNo_none fun _ _ => bind_none_iff nodeKind_ofCode_none fun _ _ =>
      bind_none_iff readZoneField_none fun _ _ => bind_none_iff readFin_none fun _ _ =>
        bind_none_last readYesNo_none fun _ => nofun

theorem readNodeCfg_some {c : NodeCfg} {x : Bool} (h : d.length = 5) (read : readNodeCfg d = some (c, x)) :
    c.present.toNat = fieldAt d 0 1 ∧ c.kind.code = fieldAt d 1 1 ∧ (c.zone.map Fin.val).getD 255 = fieldAt d 2 1 ∧
      c.loadClass.val = fieldAt d 3 1 ∧ c.forward.toNat = fieldAt d 4 1 ∧ x = false := by
  match d, h with
  | [pr, kd, zn, lc, fw], _ =>
    simp only [readNodeCfg_eq, Option.bind_eq_some_iff, readYesNo_some, nodeKind_ofCode_some, readFin_some] at read
    obtain ⟨present, hpresent, kind, hkind, zone, hzone, loadClass, hclass, forward, hforward, e⟩ := read
    cases e
    simp only [fieldAt_one, List.length_cons, List.length_nil, Nat.reduceAdd, Nat.reduceLT]
    exact ⟨hpresent, hkind, readZoneField_some hzone, hclass, hforward, trivial⟩

theorem readChannelCfg_none (h : d.length = 15) : readChannelCfg d = none ↔
    1 < fieldAt d 0 1 ∨ fieldAt d 1 1 = 0 ∨ 119 < fieldAt d 1 1 := by
  match d, h with
  | [en, sa, ss, ls, ron, roff, f1, f0, g1, g0, h, t1, t0, st1, st0], _ =>
    simp only [fieldAt_one, List.length_cons, List.length_nil, Nat.reduceAdd, Nat.reduceLT]
    exact bind_none_iff readYesNo_none fun _ _ => bind_none_last readAddress_none fun _ => nofun

theorem readChannelCfg_some {c : ChanCfg} {x : Bool} (h : d.length = 15) (read : readChannelCfg d = some (c, x)) :
    c.enabled.toNat = fieldAt d 0 1 ∧ c.sensor = fieldAt d 1 1 ∧
      Numbers d [(c.ss, 2, 1, 1, 5), (c.ls, 3, 1, 6, 12), (c.rOn, 4, 1, 20, 255), (c.rOff, 5, 1, 16, 254),
        (c.f, 6, 2, 1, 1000), (c.g, 8, 2, 10, 32767), (c.h, 10, 1, 1, 255), (c.tMax, 11, 2, 100, 65535),
        (c.staleTime, 13, 2, 50, 2000)] x := by
  match d, h with
  | [en, sa, ss, ls, ron, roff, f1, f0, g1, g0, h, t1, t0, st1, st0], _ =>
    simp only [readChannelCfg, Option.bind_eq_bind, Option.bind_eq_some_iff, readYesNo_some, readAddress_some] at read
    obtain ⟨enabled, henabled, sensor, ⟨rfl, -⟩, e⟩ := read
    cases e
    simp only [fieldAt_one, List.length_cons, List.length_nil, Nat.reduceAdd, Nat.reduceLT]
    refine ⟨henabled, rfl, ?_⟩
    exact ((((((((numbers_nil.char 2 1 5 (by simp) (by decide)).char 3 6 12 (by simp) (by decide)).char 4 20 255
      (by simp) (by decide)).char 5 16 254 (by simp) (by decide)).field 6 1 1000 2 (by decide)).field 8 10 32767 2
      (by decide)).char 10 1 255 (by simp) (by decide)).field 11 100 65535 2 (by decide)).field 13 50 2000 2 (by decide)

/-- A step's target: none for a MARK coded 255 (log 21), else a node address (R89). -/
def readAim (action : Action) (b : Byte) : Option (Option Nat) :=
  if action = .mark ∧ b.toNat = 255 then some none else (readAddress b).map some

theorem readAim_none {a : Action} {b : Byte} : readAim a b = none ↔
    (b.toNat = 0 ∨ 119 < b.toNat) ∧ ¬(a.code = 0 ∧ b.toNat = 255) := by
  have mark : a.code = 0 ↔ a = .mark := by cases a <;> decide
  unfold readAim
  rw [mark]
  split <;> simp [*, readAddress_none]

theorem readAim_some {a : Action} {b : Byte} {t : Option Nat} (h : readAim a b = some t) :
    t = if a.code = 0 ∧ b.toNat = 255 then none else some b.toNat := by
  have mark : a.code = 0 ↔ a = .mark := by cases a <;> decide
  unfold readAim at h
  simp only [mark]
  split at h
  · rw [if_pos ‹_›]; exact (Option.some.inj h).symm
  · obtain ⟨n, hn, rfl⟩ := Option.map_eq_some_iff.mp h
    rw [if_neg ‹_›, (readAddress_some.mp hn).1]

/-- A list's items behind its count, which is at most its room (R182). -/
def readList (n room : Nat) (count : Byte) (places : List Byte) : Option (List (Fin n)) :=
  if count.toNat ≤ room then readItems n (places.take count.toNat) else none

theorem readList_none {n room k : Nat} {count : Byte} (h : k + room ≤ d.length) :
    readList n room count (d.drop k) = none ↔
      room < count.toNat ∨ ∃ j < count.toNat, n ≤ fieldAt d (k + j) 1 := by
  unfold readList
  split <;> rename_i fits
  · rw [readItems_none, exists_mem_iff_place (by omega), or_iff_right (by omega)]
  · simp; omega

theorem readList_some {n room k : Nat} {count : Byte} {is : List (Fin n)} (h : k + room ≤ d.length)
    (read : readList n room count (d.drop k) = some is) :
    is.map Fin.val = (List.range count.toNat).map fun j => fieldAt d (k + j) 1 := by
  unfold readList at read
  split at read
  · rw [readItems_some.mp read, map_toNat_eq_places (by omega)]
  · cases read

/-- The places beyond a list's room do not matter. -/
theorem readList_append {n room : Nat} {count : Byte} {places more : List Byte} (h : places.length = room) :
    readList n room count (places ++ more) = readList n room count places := by
  unfold readList
  split
  · rw [List.take_append_of_le_length (by omega)]
  · rfl

theorem readStep_eq (act tgt cnt p0 p1 p2 p3 dw1 dw0 dl1 dl0 ri pol : Byte) :
    readStep [act, tgt, cnt, p0, p1, p2, p3, dw1, dw0, dl1, dl0, ri, pol] =
      (Action.ofCode act.toNat).bind fun action => (readAim action tgt).bind fun target =>
        (readList 64 4 cnt [p0, p1, p2, p3]).bind fun prereqs => (Policy.ofCode pol.toNat).bind fun policy =>
          some ({ action, target, prereqs, dwell := beNat [dw1, dw0],
                  deadline := (clamped 10 10000 (beNat [dl1, dl0])).1, reissues := (clamped 0 3 ri.toNat).1, policy },
            (clamped 10 10000 (beNat [dl1, dl0])).2 || (clamped 0 3 ri.toNat).2) := by
  simp only [readStep, readAim, readList]
  cases Action.ofCode act.toNat with
  | none => rfl
  | some action =>
    simp only [Option.bind_eq_bind, Option.bind_some]
    split <;> split <;> rfl

theorem readStep_none (h : d.length = 13) : readStep d = none ↔ 6 < fieldAt d 0 1 ∨
    ((fieldAt d 1 1 = 0 ∨ 119 < fieldAt d 1 1) ∧ ¬(fieldAt d 0 1 = 0 ∧ fieldAt d 1 1 = 255)) ∨
    4 < fieldAt d 2 1 ∨ (∃ j < fieldAt d 2 1, 64 ≤ fieldAt d (3 + j) 1) ∨ 3 < fieldAt d 12 1 := by
  match d, h with
  | [act, tgt, cnt, p0, p1, p2, p3, dw1, dw0, dl1, dl0, ri, pol], _ =>
    have places := readList_none (n := 64) (room := 4) (k := 3) (count := cnt)
      (d := [act, tgt, cnt, p0, p1, p2, p3, dw1, dw0, dl1, dl0, ri, pol]) (by simp)
    have list := readList_append (n := 64) (room := 4) (count := cnt) (places := [p0, p1, p2, p3])
      (more := [dw1, dw0, dl1, dl0, ri, pol]) rfl
    simp only [fieldAt_one, List.length_cons, List.length_nil, Nat.reduceAdd, Nat.reduceLT, List.getElem_cons_zero,
      List.getElem_cons_succ, readStep_eq, ← or_assoc (a := 4 < cnt.toNat)]
    rw [show [act, tgt, cnt, p0, p1, p2, p3, dw1, dw0, dl1, dl0, ri, pol].drop 3 =
      [p0, p1, p2, p3] ++ [dw1, dw0, dl1, dl0, ri, pol] from rfl, list] at places
    refine bind_none_iff action_ofCode_none fun a ha => ?_
    rw [← action_ofCode_some.mp ha]
    exact bind_none_iff readAim_none fun _ _ => bind_none_iff places fun _ _ =>
      bind_none_last policy_ofCode_none fun _ => nofun

theorem readStep_some {c : StepCfg} {x : Bool} (h : d.length = 13) (read : readStep d = some (c, x)) :
    c.action.code = fieldAt d 0 1 ∧
      c.target = (if fieldAt d 0 1 = 0 ∧ fieldAt d 1 1 = 255 then none else some (fieldAt d 1 1)) ∧
      c.prereqs.map Fin.val = (List.range (fieldAt d 2 1)).map (fun j => fieldAt d (3 + j) 1) ∧
      c.policy.code = fieldAt d 12 1 ∧
      Numbers d [(c.dwell, 7, 2, 0, 65535), (c.deadline, 9, 2, 10, 10000), (c.reissues, 11, 1, 0, 3)] x := by
  match d, h with
  | [act, tgt, cnt, p0, p1, p2, p3, dw1, dw0, dl1, dl0, ri, pol], _ =>
    simp only [readStep_eq, Option.bind_eq_some_iff, action_ofCode_some, policy_ofCode_some] at read
    obtain ⟨action, haction, target, htarget, prereqs, hprereqs, policy, hpolicy, e⟩ := read
    cases e
    have places := readList_some (n := 64) (room := 4) (k := 3) (count := cnt)
      (d := [act, tgt, cnt, p0, p1, p2, p3, dw1, dw0, dl1, dl0, ri, pol]) (by simp)
      ((readList_append (places := [p0, p1, p2, p3]) (more := [dw1, dw0, dl1, dl0, ri, pol]) rfl).trans hprereqs)
    have dwell := clamped_of_mem (lo := 0) (hi := 65535) (Nat.zero_le _) (beNat_two_le dw1 dw0)
    have numbers := (((numbers_nil (d := [act, tgt, cnt, p0, p1, p2, p3, dw1, dw0, dl1, dl0, ri, pol])).field 7 0 65535 2
      (by decide)).field 9 10 10000 2 (by decide)).char 11 0 3 (by simp) (by decide)
    simp only [fieldAt_one, List.length_cons, List.length_nil, Nat.reduceAdd, Nat.reduceLT, List.getElem_cons_zero,
      List.getElem_cons_succ, ← haction]
    refine ⟨trivial, readAim_some htarget, places, hpolicy, ?_⟩
    rw [show fieldAt [act, tgt, cnt, p0, p1, p2, p3, dw1, dw0, dl1, dl0, ri, pol] 7 2 = beNat [dw1, dw0] from rfl,
      dwell] at numbers
    exact numbers

theorem readZoneCfg_eq (cnt m0 m1 m2 m3 m4 m5 m6 m7 kon kst w1 w0 dg : Byte) :
    readZoneCfg [cnt, m0, m1, m2, m3, m4, m5, m6, m7, kon, kst, w1, w0, dg] =
      (readList 32 8 cnt [m0, m1, m2, m3, m4, m5, m6, m7]).bind fun members =>
        (Degrade.ofCode dg.toNat).bind fun degrade =>
          some ({ members, kOn := (clamped 1 8 kon.toNat).1, kStrong := (clamped 1 8 kst.toNat).1,
                  w := (clamped 10 5000 (beNat [w1, w0])).1, degrade },
            (clamped 1 8 kon.toNat).2 || (clamped 1 8 kst.toNat).2 || (clamped 10 5000 (beNat [w1, w0])).2) := by
  simp only [readZoneCfg, readList]
  split <;> rfl

theorem readZoneCfg_none (h : d.length = 14) : readZoneCfg d = none ↔
    8 < fieldAt d 0 1 ∨ (∃ j < fieldAt d 0 1, 32 ≤ fieldAt d (1 + j) 1) ∨ 1 < fieldAt d 13 1 := by
  match d, h with
  | [cnt, m0, m1, m2, m3, m4, m5, m6, m7, kon, kst, w1, w0, dg], _ =>
    have places := readList_none (n := 32) (room := 8) (k := 1) (count := cnt)
      (d := [cnt, m0, m1, m2, m3, m4, m5, m6, m7, kon, kst, w1, w0, dg]) (by simp)
    have list := readList_append (n := 32) (room := 8) (count := cnt) (places := [m0, m1, m2, m3, m4, m5, m6, m7])
      (more := [kon, kst, w1, w0, dg]) rfl
    simp only [fieldAt_one, List.length_cons, List.length_nil, Nat.reduceAdd, Nat.reduceLT, List.getElem_cons_zero,
      List.getElem_cons_succ, readZoneCfg_eq, ← or_assoc]
    rw [show [cnt, m0, m1, m2, m3, m4, m5, m6, m7, kon, kst, w1, w0, dg].drop 1 =
      [m0, m1, m2, m3, m4, m5, m6, m7] ++ [kon, kst, w1, w0, dg] from rfl, list] at places
    exact bind_none_iff places fun _ _ => bind_none_last degrade_ofCode_none fun _ => nofun

theorem readZoneCfg_some {c : ZoneCfg} {x : Bool} (h : d.length = 14) (read : readZoneCfg d = some (c, x)) :
    c.members.map Fin.val = (List.range (fieldAt d 0 1)).map (fun j => fieldAt d (1 + j) 1) ∧
      c.degrade.code = fieldAt d 13 1 ∧
      Numbers d [(c.kOn, 9, 1, 1, 8), (c.kStrong, 10, 1, 1, 8), (c.w, 11, 2, 10, 5000)] x := by
  match d, h with
  | [cnt, m0, m1, m2, m3, m4, m5, m6, m7, kon, kst, w1, w0, dg], _ =>
    simp only [readZoneCfg_eq, Option.bind_eq_some_iff, degrade_ofCode_some] at read
    obtain ⟨members, hmembers, degrade, hdegrade, e⟩ := read
    cases e
    have places := readList_some (n := 32) (room := 8) (k := 1) (count := cnt)
      (d := [cnt, m0, m1, m2, m3, m4, m5, m6, m7, kon, kst, w1, w0, dg]) (by simp)
      ((readList_append (places := [m0, m1, m2, m3, m4, m5, m6, m7]) (more := [kon, kst, w1, w0, dg]) rfl).trans
        hmembers)
    simp only [fieldAt_one, List.length_cons, List.length_nil, Nat.reduceAdd, Nat.reduceLT, List.getElem_cons_zero,
      List.getElem_cons_succ]
    exact ⟨places, hdegrade, ((numbers_nil.char 9 1 8 (by simp) (by decide)).char 10 1 8 (by simp) (by decide)).field
      11 10 5000 2 (by decide)⟩

theorem readClassCfg_none (h : d.length = 13) : readClassCfg d = none ↔ 1 < fieldAt d 12 1 := by
  match d, h with
  | [r3, r2, r1, r0, p3, p2, p1, p0, s3, s2, s1, s0, fb], _ =>
    simp only [fieldAt_one, List.length_cons, List.length_nil, Nat.reduceAdd, Nat.reduceLT]
    exact bind_none_last readYesNo_none fun _ => nofun

theorem readClassCfg_some {c : ClassCfg} {x : Bool} (h : d.length = 13) (read : readClassCfg d = some (c, x)) :
    c.fallback.toNat = fieldAt d 12 1 ∧
      Numbers d [(c.readyTimeout, 0, 4, 100, 600000), (c.parkTimeout, 4, 4, 100, 600000),
        (c.settleDwell, 8, 4, 0, 600000)] x := by
  match d, h with
  | [r3, r2, r1, r0, p3, p2, p1, p0, s3, s2, s1, s0, fb], _ =>
    simp only [readClassCfg, Option.bind_eq_bind, Option.bind_eq_some_iff, readYesNo_some] at read
    obtain ⟨fallback, hfallback, e⟩ := read
    cases e
    simp only [fieldAt_one, List.length_cons, List.length_nil, Nat.reduceAdd, Nat.reduceLT]
    exact ⟨hfallback, ((numbers_nil.field 0 100 600000 4 (by decide)).field 4 100 600000 4 (by decide)).field 8 0 600000
      4 (by decide)⟩

theorem readSourceCfg_none (h : d.length = 3) : readSourceCfg d = none ↔ 1 < fieldAt d 0 1 ∨ 1 < fieldAt d 2 1 := by
  match d, h with
  | [en, lv, pol], _ =>
    simp only [fieldAt_one, List.length_cons, List.length_nil, Nat.reduceAdd, Nat.reduceLT]
    exact bind_none_iff readYesNo_none fun _ _ => bind_none_last polarity_ofCode_none fun _ => nofun

theorem readSourceCfg_some {c : SourceCfg} {x : Bool} (h : d.length = 3) (read : readSourceCfg d = some (c, x)) :
    c.enabled.toNat = fieldAt d 0 1 ∧ c.polarity.code = fieldAt d 2 1 ∧ Numbers d [(c.level, 1, 1, 1, 2)] x := by
  match d, h with
  | [en, lv, pol], _ =>
    simp only [readSourceCfg, Option.bind_eq_bind, Option.bind_eq_some_iff, readYesNo_some, polarity_ofCode_some] at read
    obtain ⟨enabled, henabled, polarity, hpolarity, e⟩ := read
    cases e
    simp only [fieldAt_one, List.length_cons, List.length_nil, Nat.reduceAdd, Nat.reduceLT]
    exact ⟨henabled, hpolarity, numbers_nil.char 1 1 2 (by simp) (by decide)⟩

theorem readFilterCfg_none (h : d.length = 4) : readFilterCfg d = none ↔
    1 < fieldAt d 0 1 ∨ 1 < fieldAt d 1 1 ∨ 1 < fieldAt d 2 1 ∨ 1 < fieldAt d 3 1 := by
  match d, h with
  | [armed, shutting, hold, restarting], _ =>
    simp only [fieldAt_one, List.length_cons, List.length_nil, Nat.reduceAdd, Nat.reduceLT]
    exact bind_none_iff setting_ofCode_none fun _ _ => bind_none_iff setting_ofCode_none fun _ _ =>
      bind_none_iff setting_ofCode_none fun _ _ => bind_none_last setting_ofCode_none fun _ => nofun

theorem readFilterCfg_some {c : FilterCfg} {x : Bool} (h : d.length = 4) (read : readFilterCfg d = some (c, x)) :
    c.armed.code = fieldAt d 0 1 ∧ c.shutting.code = fieldAt d 1 1 ∧ c.safeHold.code = fieldAt d 2 1 ∧
      c.restarting.code = fieldAt d 3 1 ∧ x = false := by
  match d, h with
  | [armed, shutting, hold, restarting], _ =>
    simp only [readFilterCfg, Option.bind_eq_bind, Option.bind_eq_some_iff, setting_ofCode_some] at read
    obtain ⟨a, ha, s, hs, h, hh, r, hr, e⟩ := read
    cases e
    simp only [fieldAt_one, List.length_cons, List.length_nil, Nat.reduceAdd, Nat.reduceLT]
    exact ⟨ha, hs, hh, hr, trivial⟩

theorem readSiteCfg_none (h : d.length = 13) : readSiteCfg d = none ↔ fieldAt d 0 1 = 0 ∨ 119 < fieldAt d 0 1 := by
  match d, h with
  | [sup, d0, d1, d2, d3, d4, fd1, fd0, q1, q0, ca, c1, c2], _ =>
    simp only [fieldAt_one, List.length_cons, List.length_nil, Nat.reduceAdd, Nat.reduceLT]
    exact bind_none_last readAddress_none fun _ => nofun

theorem readSiteCfg_some {c : SiteCfg} {x : Bool} (h : d.length = 13) (read : readSiteCfg d = some (c, x)) :
    c.supAddr = fieldAt d 0 1 ∧
      Numbers d ((List.finRange 5).map (fun i => (c.debounce[i], 1 + i.val, 1, 1, 255)) ++
        [(c.feedDwell, 6, 2, 0, 600), (c.q, 8, 2, 10, 3600), (c.classAlert, 10, 1, 0, 9), (c.classL1, 11, 1, 0, 9),
          (c.classL2, 12, 1, 0, 9)]) x := by
  match d, h with
  | [sup, d0, d1, d2, d3, d4, fd1, fd0, q1, q0, ca, c1, c2], _ =>
    simp only [readSiteCfg, Option.bind_eq_bind, Option.bind_eq_some_iff, readAddress_some] at read
    obtain ⟨supAddr, ⟨rfl, -⟩, e⟩ := read
    cases e
    simp only [fieldAt_one, List.length_cons, List.length_nil, Nat.reduceAdd, Nat.reduceLT]
    refine ⟨rfl, ?_⟩
    have counts := ((((numbers_nil (d := [sup, d0, d1, d2, d3, d4, fd1, fd0, q1, q0, ca, c1, c2])).char 1 1 255 (by simp)
      (by decide)).char 2 1 255 (by simp) (by decide)).char 3 1 255 (by simp) (by decide)).char 4 1 255 (by simp)
      (by decide) |>.char 5 1 255 (by simp) (by decide)
    exact ((((counts.field 6 0 600 2 (by decide)).field 8 10 3600 2 (by decide)).char 10 0 9 (by simp) (by decide)).char
      11 0 9 (by simp) (by decide)).char 12 0 9 (by simp) (by decide)

end Readers

/-- Settles O26: each kind's round trip, then each kind's reader on any characters of its length. -/
theorem shadowRecordsReadBack : Obligations.ShadowRecordsReadBack := by
  unfold Obligations.ShadowRecordsReadBack
  refine ⟨fun _ ht hu hl hd h h' hr => readStep_chars ht hu hl hd h h' hr,
    fun _ h1 h2 h3 h4 h5 h6 h7 h8 h9 h10 h11 h12 h13 h14 h15 h16 h17 h18 h19 h20 =>
      readChannelCfg_chars h1 h2 h3 h4 h5 h6 h7 h8 h9 h10 h11 h12 h13 h14 h15 h16 h17 h18 h19 h20,
    readNodeCfg_chars, fun _ hc hl hl' => readHeader_chars hc hl hl',
    fun _ hm h1 h2 h3 h4 h5 h6 => readZoneCfg_chars hm h1 h2 h3 h4 h5 h6,
    fun _ h1 h2 h3 h4 h5 => readClassCfg_chars h1 h2 h3 h4 h5, fun _ h1 h2 => readSourceCfg_chars h1 h2,
    readFilterCfg_chars, fun _ h1 h2 h3 h4 h5 h6 h7 h8 h9 => readSiteCfg_chars h1 h2 h3 h4 h5 h6 h7 h8 h9, ?_⟩
  intro d at' numbers
  exact ⟨readHeader_any, fun h => ⟨readStep_none h, fun _ _ => readStep_some h⟩,
    fun h => ⟨readNodeCfg_none h, fun _ _ => readNodeCfg_some h⟩,
    fun h => ⟨readChannelCfg_none h, fun _ _ => readChannelCfg_some h⟩,
    fun h => ⟨readZoneCfg_none h, fun _ _ => readZoneCfg_some h⟩,
    fun h => ⟨readClassCfg_none h, fun _ _ => readClassCfg_some h⟩,
    fun h => ⟨readSourceCfg_none h, fun _ _ => readSourceCfg_some h⟩,
    fun h => ⟨readFilterCfg_none h, fun _ _ => readFilterCfg_some h⟩,
    fun h => ⟨readSiteCfg_none h, fun _ _ => readSiteCfg_some h⟩⟩

end Sys2Proof.Machine
end

section
/-! SUPPORT. Response data by places: data that are a sequence of fields hold each field's number at the place where the widths
before it add up to (R182). -/

namespace Sys2Proof.Machine

/-! ### Fields and their places -/

/-- A number in one, two or four characters (R182). -/
inductive Field where
  | char (n : Nat) | two (n : Nat) | four (n : Nat)

def Field.width : Field → Nat
  | .char _ => 1 | .two _ => 2 | .four _ => 4

def Field.chars : Field → List Byte
  | .char n => u8 n | .two n => u16 n | .four n => u32 n

/-- The number that the characters of a field hold. -/
def Field.value : Field → Nat
  | .char n => n % 256 | .two n => n % 65536 | .four n => n % 4294967296

theorem Field.length_chars (f : Field) : f.chars.length = f.width := by cases f <;> rfl

theorem Field.fieldAt_chars (f : Field) : fieldAt f.chars 0 f.width = f.value := by
  cases f <;> simp [fieldAt, beNat, chars, width, value, u8, u16, u32] <;> omega

/-- Fields one after another. -/
def layout (l : List Field) : List Byte := l.flatMap Field.chars

theorem layout_cons (f : Field) (l : List Field) : layout (f :: l) = f.chars ++ layout l := rfl

theorem layout_append (a b : List Field) : layout (a ++ b) = layout a ++ layout b := List.flatMap_append

/-- The characters of `d` from place `k` on hold these fields. -/
def Holds (d : List Byte) : Nat → List Field → Prop
  | _, [] => True
  | k, f :: l => fieldAt d k f.width = f.value ∧ Holds d (k + f.width) l

theorem fieldAt_append (pre d : List Byte) (k n : Nat) : fieldAt (pre ++ d) (pre.length + k) n = fieldAt d k n := by
  unfold fieldAt
  rw [← List.drop_drop, List.drop_left]

theorem fieldAt_of_prefix (d post : List Byte) {n : Nat} (h : n ≤ d.length) : fieldAt (d ++ post) 0 n = fieldAt d 0 n := by
  unfold fieldAt
  rw [List.drop_zero, List.drop_zero, List.take_append_of_le_length h]

/-- Where a layout begins, its fields are held. -/
theorem holds_layout (pre : List Byte) (l : List Field) (post : List Byte) :
    Holds (pre ++ (layout l ++ post)) pre.length l := by
  induction l generalizing pre with
  | nil => trivial
  | cons f l ih =>
    refine ⟨?_, ?_⟩
    · have place := fieldAt_append pre (layout (f :: l) ++ post) 0 f.width
      rw [Nat.add_zero] at place
      rw [place, layout_cons, List.append_assoc, fieldAt_of_prefix _ _ (le_of_eq f.length_chars.symm),
        f.fieldAt_chars]
    · have rest := ih (pre ++ f.chars)
      rw [List.length_append, f.length_chars, List.append_assoc, ← List.append_assoc f.chars] at rest
      exact rest

theorem holds_all (l : List Field) : Holds (layout l) 0 l := by
  simpa using holds_layout [] l []

theorem layout_nil : layout [] = [] := rfl

/-- The width of fields one after another. -/
def widthOf (l : List Field) : Nat := (l.map Field.width).sum

theorem length_layout (l : List Field) : (layout l).length = widthOf l := by
  induction l with
  | nil => rfl
  | cons f l ih => rw [layout_cons, List.length_append, ih, f.length_chars]; rfl

theorem widthOf_append (a b : List Field) : widthOf (a ++ b) = widthOf a + widthOf b := by
  simp [widthOf]

theorem Holds.split {d : List Byte} {a b : List Field} {k : Nat} (h : Holds d k (a ++ b)) :
    Holds d k a ∧ Holds d (k + widthOf a) b := by
  induction a generalizing k with
  | nil => exact ⟨trivial, h⟩
  | cons f a ih =>
    obtain ⟨head, tail⟩ := h
    obtain ⟨first, second⟩ := ih tail
    refine ⟨⟨head, first⟩, ?_⟩
    rw [Nat.add_assoc] at second
    exact second

theorem widthOf_flatMap {α : Type} (l : List α) {f : α → List Field} {w : Nat} (hw : ∀ x, widthOf (f x) = w) :
    widthOf (l.flatMap f) = w * l.length := by
  induction l with
  | nil => rfl
  | cons x l ih => rw [List.flatMap_cons, widthOf_append, hw, ih, List.length_cons]; ring

/-- Items of one width: each stands at its multiple of it. -/
theorem Holds.item {α : Type} {d : List Byte} {l : List α} {f : α → List Field} {w k : Nat}
    (hw : ∀ x, widthOf (f x) = w) (h : Holds d k (l.flatMap f)) (i : Nat) (hi : i < l.length) :
    Holds d (k + w * i) (f l[i]) := by
  induction l generalizing k i with
  | nil => simp at hi
  | cons x l ih =>
    rw [List.flatMap_cons] at h
    obtain ⟨first, rest⟩ := h.split
    cases i with
    | zero => simpa using first
    | succ i =>
      have item := ih rest i (by simpa using hi)
      rw [hw] at item
      rw [List.getElem_cons_succ, show k + w * (i + 1) = k + w + w * i by ring]
      exact item

/-- Items of one character each. -/
theorem Holds.item_char {α : Type} {d : List Byte} {l : List α} {g : α → Nat} {k : Nat}
    (h : Holds d k (l.map fun x => .char (g x))) (i : Nat) (hi : i < l.length) :
    fieldAt d (k + i) 1 = g l[i] % 256 := by
  rw [List.map_eq_flatMap] at h
  have item := (h.item (w := 1) (fun _ => rfl) i hi).1
  rwa [Nat.one_mul] at item

/-- Items of one width in a vector. -/
theorem Holds.item_vector {α : Type} {n : Nat} {d : List Byte} {v : Vector α n} {f : α → List Field} {w k : Nat}
    (hw : ∀ x, widthOf (f x) = w) (h : Holds d k (v.toList.flatMap f)) (i : Fin n) :
    Holds d (k + w * i.val) (f v[i]) := by
  simpa using h.item hw i.val (by simp)

/-! ### Masks -/

/-- The member of a set at each bit of its mask. -/
theorem testBit_maskOf (l : List Bool) (i : Nat) : (maskOf l).testBit i = (l[i]?).getD false := by
  induction l generalizing i with
  | nil => simp [maskOf]
  | cons b l ih =>
    cases i with
    | zero => cases b <;> simp [maskOf, Nat.testBit_zero]
    | succ i =>
      have half : ((if b then 1 else 0) + 2 * maskOf l) / 2 = maskOf l := by
        cases b
        · simp
        · simp; omega
      rw [maskOf, Nat.testBit_succ, half, ih, List.getElem?_cons_succ]

theorem testBit_mask_vector {n : Nat} (v : Vector Bool n) (i : Fin n) : (maskOf v.toList).testBit i.val = v[i] := by
  rw [testBit_maskOf]; simp

theorem testBit_sourceMask (p : Fin 24 → Bool) (i : Fin 24) :
    (maskOf ((List.finRange 24).map p) % 4294967296).testBit i.val = p i := by
  rw [show (4294967296 : Nat) = 2 ^ 32 from rfl, Nat.testBit_mod_two_pow, testBit_maskOf]
  have : i.val < 32 := by omega
  simp [this]

theorem testBit_mod_char {n : Nat} {i : Nat} (h : i < 8) : (n % 256).testBit i = n.testBit i := by
  rw [show (256 : Nat) = 2 ^ 8 from rfl, Nat.testBit_mod_two_pow]
  simp [h]

/-! ### Codes fit one character -/

section Codes

theorem toNat_mod_char (b : Bool) : b.toNat % 256 = b.toNat := by cases b <;> rfl

theorem word_mod (w : Word32) : w.toNat % 4294967296 = w.toNat := Nat.mod_eq_of_lt w.isLt

theorem byte_mod (b : Byte) : b.toNat % 256 = b.toNat := Nat.mod_eq_of_lt b.isLt

theorem fin_mod {n : Nat} (h : n ≤ 256) (i : Fin n) : i.val % 256 = i.val := Nat.mod_eq_of_lt (by omega)

theorem place_mod {n : Nat} (h : n ≤ 256) (o : Option (Fin n)) :
    (o.map Fin.val).getD 255 % 256 = (o.map Fin.val).getD 255 := by
  cases o with
  | none => rfl
  | some i => exact fin_mod h i

theorem time_mod (o : Option Time) :
    (o.map BitVec.toNat).getD 4294967295 % 4294967296 = (o.map BitVec.toNat).getD 4294967295 := by
  cases o with
  | none => rfl
  | some t => exact word_mod t

theorem chanState_code_mod (c : ChanState) : c.code % 256 = c.code := by cases c <;> rfl
theorem nodeKind_code_mod (c : NodeKind) : c.code % 256 = c.code := by cases c <;> rfl
theorem nodeState_code_mod (c : NodeState) : c.code % 256 = c.code := by cases c <;> rfl
theorem action_code_mod (c : Action) : c.code % 256 = c.code := by cases c <;> rfl
theorem policy_code_mod (c : Policy) : c.code % 256 = c.code := by cases c <;> rfl
theorem runStatus_code_mod (c : RunStatus) : c.code % 256 = c.code := by cases c <;> rfl
theorem lifecycle_code_mod (c : Lifecycle) : c.code % 256 = c.code := by cases c <;> rfl
theorem siteState_code_mod (c : SiteState) : c.code % 256 = c.code := by cases c <;> rfl
theorem condition_code_mod (c : Condition) : c.code % 256 = c.code := by cases c <;> rfl
theorem blockCond_code_mod (c : BlockCond) : c.code % 256 = c.code := by cases c <;> rfl
theorem outcome_code_mod (c : ShutdownOutcome) : c.code % 256 = c.code := by cases c <;> rfl
theorem closure_code_mod (c : Closure) : c.code % 256 = c.code := by cases c <;> rfl

theorem plan_code_mod (o : Option PlanId) : (o.map PlanId.code).getD 255 % 256 = (o.map PlanId.code).getD 255 := by
  rcases o with _ | c
  · rfl
  · cases c <;> rfl

theorem reason_code_mod (o : Option FailReason) :
    (o.map FailReason.code).getD 255 % 256 = (o.map FailReason.code).getD 255 := by
  rcases o with _ | c
  · rfl
  · cases c <;> rfl

theorem hold_code_mod (o : Option HoldReason) :
    (o.map HoldReason.code).getD 255 % 256 = (o.map HoldReason.code).getD 255 := by
  rcases o with _ | c
  · rfl
  · cases c <;> rfl

theorem yesNo_eq (b : Bool) : yesNo b = u8 b.toNat := by cases b <;> rfl

end Codes

end Sys2Proof.Machine
end

section
/-! SUPPORT. The data of the reads as fields one after another, and the number at each place (R25, R44, R61, R112, R132, R150,
R181). -/

namespace Sys2Proof.Machine

/-- Each triple is a place, a number of characters and the number they hold. -/
def HoldsAt (d : List Byte) (l : List (Nat × Nat × Nat)) : Prop := ∀ p ∈ l, fieldAt d p.1 p.2.1 = p.2.2

/-! ### READ_CHANNEL -/

def ChanCfg.fields (k : ChanCfg) : List Field :=
  [.char k.enabled.toNat, .char k.sensor, .char k.ss, .char k.ls, .char k.rOn, .char k.rOff, .two k.f, .two k.g, .char k.h,
    .two k.tMax, .two k.staleTime]

def Channel.fields (c : Channel) : List Field :=
  [.char c.state.code, .char c.seeded.toNat, .two c.priming, .char c.expected.toNat, .four (BitVec.ofInt 32 c.baseX).toNat,
    .four (BitVec.ofInt 32 c.baseY).toNat, .four (BitVec.ofInt 32 c.baseZ).toNat, .four (BitVec.ofInt 32 c.sta).toNat,
    .four (BitVec.ofInt 32 c.lta).toNat, .char c.below, .two c.inOnset, .four c.onsetAt.toNat, .four c.strongAt.toNat,
    .two c.peakH, .two c.peakU, .four (c.staleTimer.getD 4294967295), .two c.missed, .two c.duplicates, .two c.resyncs,
    .two c.staleEntries]

theorem chanCfg_chars (k : ChanCfg) : k.chars = layout k.fields := by
  simp only [ChanCfg.chars, ChanCfg.fields, List.append_assoc, yesNo_eq, layout_cons, layout_nil, List.append_nil]
  simp only [Field.chars]

theorem channel_chars (c : Channel) : c.chars = layout c.fields := by
  unfold Channel.chars Channel.fields
  simp only [List.append_assoc, yesNo_eq, i32, u32None, layout_cons, layout_nil,
    List.append_nil]
  simp only [Field.chars]

theorem channelData_eq (s : State) (i : Fin 32) :
    s.channelData i = layout (s.tables.channels[i].fields ++ s.channels[i].fields) := by
  rw [layout_append, ← chanCfg_chars, ← channel_chars]
  rfl

theorem channelData_holds (s : State) (i : Fin 32) :
    let d := s.channelData i
    let k := s.tables.channels[i]
    let c := s.channels[i]
    d.length = 67 ∧ HoldsAt d [(0, 1, k.enabled.toNat), (1, 1, k.sensor % 256), (2, 1, k.ss % 256), (3, 1, k.ls % 256),
      (4, 1, k.rOn % 256), (5, 1, k.rOff % 256), (6, 2, k.f % 65536), (8, 2, k.g % 65536), (10, 1, k.h % 256),
      (11, 2, k.tMax % 65536), (13, 2, k.staleTime % 65536), (15, 1, c.state.code), (16, 1, c.seeded.toNat),
      (17, 2, c.priming % 65536), (19, 1, c.expected.toNat), (20, 4, (BitVec.ofInt 32 c.baseX).toNat),
      (24, 4, (BitVec.ofInt 32 c.baseY).toNat), (28, 4, (BitVec.ofInt 32 c.baseZ).toNat),
      (32, 4, (BitVec.ofInt 32 c.sta).toNat), (36, 4, (BitVec.ofInt 32 c.lta).toNat), (40, 1, c.below % 256),
      (41, 2, c.inOnset % 65536), (43, 4, c.onsetAt.toNat), (47, 4, c.strongAt.toNat), (51, 2, c.peakH % 65536),
      (53, 2, c.peakU % 65536), (55, 4, c.staleTimer.getD 4294967295 % 4294967296), (59, 2, c.missed % 65536),
      (61, 2, c.duplicates % 65536), (63, 2, c.resyncs % 65536), (65, 2, c.staleEntries % 65536)] := by
  intro d k c
  have data : d = layout (k.fields ++ c.fields) := channelData_eq s i
  have held : Holds d 0 (k.fields ++ c.fields) := data ▸ holds_all _
  refine ⟨by rw [data, length_layout]; simp [widthOf, Field.width, ChanCfg.fields, Channel.fields], ?_⟩
  clear_value k c
  simpa [-BitVec.toNat_ofInt, Holds, HoldsAt, ChanCfg.fields, Channel.fields, Field.width, Field.value, toNat_mod_char, word_mod, byte_mod,
    chanState_code_mod] using held

/-! ### READ_NODE -/

def NodeCfg.fields (c : NodeCfg) : List Field :=
  [.char c.present.toNat, .char c.kind.code, .char ((c.zone.map Fin.val).getD 255), .char c.loadClass.val,
    .char c.forward.toNat]

theorem nodeCfg_chars (c : NodeCfg) : c.chars = layout c.fields := by
  simp only [NodeCfg.chars, NodeCfg.fields, List.append_assoc, yesNo_eq, u8None, layout_cons, layout_nil, List.append_nil]
  simp only [Field.chars]

theorem nodeRt_eq (s : State) (a : Fin 128) : s.nodeRt a.val = s.router.nodes[a] := by
  simp [State.nodeRt]

theorem nodeData_holds (s : State) (a : Fin 128) :
    let d := s.nodeData a.val
    let c := s.nodeCfg a.val
    d.length = 10 ∧ HoldsAt d [(0, 1, c.present.toNat), (1, 1, c.kind.code), (2, 1, (c.zone.map Fin.val).getD 255),
      (3, 1, c.loadClass.val), (4, 1, c.forward.toNat), (5, 1, s.router.nodes[a].reported.code),
      (6, 4, s.router.nodes[a].heard % 4294967296)] := by
  intro d c
  have data : d = layout (c.fields ++ [.char s.router.nodes[a].reported.code, .four s.router.nodes[a].heard]) := by
    simp only [d, c, State.nodeData, nodeCfg_chars, nodeRt_eq, layout_append, List.append_assoc]
    rfl
  have held := data ▸ holds_all _
  refine ⟨by rw [data, length_layout]; simp [widthOf, Field.width, NodeCfg.fields], ?_⟩
  clear_value c
  simpa [Holds, HoldsAt, NodeCfg.fields, Field.width, Field.value, toNat_mod_char, nodeKind_code_mod, nodeState_code_mod,
    place_mod, fin_mod] using held

/-! ### READ_STEP -/

def Run.fields (r : Run) : List Field :=
  [.char ((r.plan.map PlanId.code).getD 255), .char r.status.code, .char r.stepCount, .char r.slotLimit,
    .four r.start.toNat, .four ((r.finish.map BitVec.toNat).getD 4294967295), .char r.failed, .char r.cfgChanged.toNat]

def Step.fields (x : Step) (now : Time) (within : Bool) : List Field :=
  [.char x.state.code, .four (now - x.entry).toNat, .four (x.timer.getD 4294967295),
    .char ((x.reason.map FailReason.code).getD 255), .char within.toNat]

theorem run_chars (r : Run) : r.chars = layout r.fields := by
  simp only [Run.chars, Run.fields, List.append_assoc, yesNo_eq, u8None, u32None, layout_cons, layout_nil,
    List.append_nil]
  simp only [Field.chars]

theorem step_chars (x : Step) (now : Time) (within : Bool) : x.chars now within = layout (x.fields now within) := by
  simp only [Step.chars, Step.fields, List.append_assoc, yesNo_eq, u8None, u32None, msSince, layout_cons, layout_nil,
    List.append_nil]
  simp only [Field.chars]

/-- The prerequisites at their places, 255 beyond the count (R182). -/
def StepCfg.fields (c : StepCfg) : List Field :=
  [.char c.action.code, .char (c.target.getD 255), .char c.prereqs.length] ++
    (List.finRange 4).map (fun j => .char (((c.prereqs[j.val]?).map Fin.val).getD 255)) ++
    [.two c.dwell, .two c.deadline, .char c.reissues, .char c.policy.code]

theorem layout_map_char {α : Type} (l : List α) (g : α → Nat) :
    layout (l.map fun x => .char (g x)) = l.map fun x => BitVec.ofNat 8 (g x) := by
  induction l with
  | nil => rfl
  | cons x l ih => rw [List.map_cons, layout_cons, ih]; rfl

/-- A list at its full size, place by place. -/
theorem fullList_eq {n : Nat} {items : List (Fin n)} {room : Nat} (h : items.length ≤ room) :
    fullList room (items.map Fin.val) = layout (.char items.length ::
      (List.finRange room).map fun j => .char (((items[j.val]?).map Fin.val).getD 255)) := by
  unfold fullList
  rw [layout_cons, layout_map_char, List.length_map, List.append_assoc]
  refine congrArg (u8 items.length ++ ·) (List.ext_getElem (by simp; omega) fun i hi hi' => ?_)
  by_cases listed : i < items.length
  · rw [List.getElem_append_left (by simpa using listed)]
    simp [listed]
  · rw [List.getElem_append_right (by simpa using listed)]
    simp [listed]

theorem stepCfg_chars {c : StepCfg} (h : c.prereqs.length ≤ 4) : c.chars = layout c.fields := by
  unfold StepCfg.chars StepCfg.fields
  rw [fullList_eq h]
  simp only [List.append_assoc, u8None, layout_cons, layout_nil, layout_append, List.append_nil, List.cons_append,
    List.nil_append]
  simp only [Field.chars]

theorem stepData_eq (s : State) (i : Fin 64) : s.stepData i = layout (s.runner.run.fields ++
    s.runner.steps[i].fields s.now (i.val < s.runner.run.stepCount)) ++
      (if s.runner.run.plan.isSome then (s.stepCfg i).chars else []) := by
  unfold State.stepData State.stepAt
  rw [run_chars, step_chars, layout_append]

theorem stepData_holds (s : State) (i : Fin 64) :
    let d := s.stepData i
    let r := s.runner.run
    let x := s.runner.steps[i]
    let c := s.stepCfg i
    HoldsAt d [(0, 1, (r.plan.map PlanId.code).getD 255), (1, 1, r.status.code), (2, 1, r.stepCount % 256),
      (3, 1, r.slotLimit % 256), (4, 4, r.start.toNat), (8, 4, (r.finish.map BitVec.toNat).getD 4294967295),
      (12, 1, r.failed % 256), (13, 1, r.cfgChanged.toNat), (14, 1, x.state.code),
      (15, 4, (s.now - x.entry).toNat), (19, 4, x.timer.getD 4294967295 % 4294967296),
      (23, 1, (x.reason.map FailReason.code).getD 255), (24, 1, (decide (i.val < r.stepCount)).toNat)] ∧
    (r.plan = none → d.length = 25) ∧
    (r.plan ≠ none → c.prereqs.length ≤ 4 → d.length = 38 ∧
      HoldsAt d [(25, 1, c.action.code), (26, 1, c.target.getD 255 % 256), (27, 1, c.prereqs.length),
        (32, 2, c.dwell % 65536), (34, 2, c.deadline % 65536), (36, 1, c.reissues % 256), (37, 1, c.policy.code)] ∧
      ∀ j : Fin 4, fieldAt d (28 + j.val) 1 = ((c.prereqs[j.val]?).map Fin.val).getD 255) := by
  intro d r x c
  have data : d = _ := stepData_eq s i
  have width : widthOf (r.fields ++ x.fields s.now (i.val < r.stepCount)) = 25 := by
    simp [widthOf, Field.width, Run.fields, Step.fields]
  have held := holds_layout [] (r.fields ++ x.fields s.now (i.val < r.stepCount))
    (if s.runner.run.plan.isSome then (s.stepCfg i).chars else [])
  rw [List.nil_append, ← data] at held
  refine ⟨?_, fun absent => ?_, fun plan listed => ?_⟩
  · clear_value d r x
    simpa [Holds, HoldsAt, Run.fields, Step.fields, Field.width, Field.value, toNat_mod_char, word_mod, time_mod,
      runStatus_code_mod, lifecycle_code_mod, plan_code_mod, reason_code_mod] using held
  · rw [data, show s.runner.run.plan = none from absent, List.length_append, length_layout, width]
    rfl
  · have there : s.runner.run.plan.isSome = true := Option.isSome_iff_ne_none.mpr plan
    rw [there, if_pos rfl, stepCfg_chars listed] at data
    have after := holds_layout (layout (r.fields ++ x.fields s.now (i.val < r.stepCount))) c.fields []
    rw [List.append_nil, ← data, length_layout, width] at after
    obtain ⟨front, back⟩ := after.split
    obtain ⟨front, places⟩ := front.split
    have few : c.prereqs.length % 256 = c.prereqs.length := Nat.mod_eq_of_lt (by omega)
    refine ⟨?_, ?_, fun j => ?_⟩
    · rw [data, List.length_append, length_layout, width, length_layout]
      simp [widthOf, Field.width, StepCfg.fields, List.finRange]
    · have widths : widthOf ([.char c.action.code, .char (c.target.getD 255), .char c.prereqs.length] ++
          (List.finRange 4).map fun j => .char (((c.prereqs[j.val]?).map Fin.val).getD 255)) = 7 := by
        simp [widthOf, Field.width, List.finRange]
      rw [widths] at back
      clear_value c d
      simp only [Holds, Field.width, Field.value] at front back
      simp [HoldsAt, front, back, action_code_mod, policy_code_mod, few]
    · have place := places.item_char j.val (by simp)
      rw [List.getElem_finRange, place_mod (by decide)] at place
      exact place

/-! ### READ_TRIP_RECORD -/

def TripRecord.layoutFields (r : TripRecord) : List Field :=
  [.four r.seq.toNat, .two r.trip, .four r.opened.toNat, .char ((r.cause.map Fin.val).getD 255), .char r.level,
    .char r.escalated.toNat, .two r.peakH, .char r.outcome.code, .char r.closure.code, .four r.closed.toNat]

theorem tripRecord_chars (r : TripRecord) : r.fields = layout r.layoutFields := by
  unfold TripRecord.fields TripRecord.layoutFields
  simp only [List.append_assoc, yesNo_eq, u8None, layout_cons, layout_nil, List.append_nil]
  simp only [Field.chars]

/-- What follows a slot's own data (R150). -/
def State.slotFields (s : State) (i : Fin 16) : List Field :=
  [.char (s.site.record == some i).toNat, .char (s.store.slotBusy i).toNat, .four s.store.writeSeq.toNat,
    .char s.store.recordWrites.length]

theorem recordData_eq (s : State) (i : Fin 16) :
    s.recordData i = s.store.ring[i].chars ++ layout (s.slotFields i) := by
  unfold State.recordData State.slotFields
  simp only [List.append_assoc, yesNo_eq, layout_cons, layout_nil, List.append_nil]
  simp only [Field.chars]

theorem slotBusy_eq (p : PlanStore) (i : Fin 16) : p.slotBusy i =
    ((p.recordWrites.any fun w => decide (w.slot = i)) || match p.writing with
      | some ⟨.record w, _⟩ => decide (w.slot = i)
      | _ => false) := by
  unfold PlanStore.slotBusy PlanStore.writingSlot
  rfl

theorem recordData_holds (s : State) (i : Fin 16) :
    let d := s.recordData i
    let busy := (s.store.recordWrites.any fun w => decide (w.slot = i)) || match s.store.writing with
      | some ⟨.record w, _⟩ => decide (w.slot = i)
      | _ => false
    let tail := [(0, 1, (decide (s.site.record = some i)).toNat), (1, 1, busy.toNat), (2, 4, s.store.writeSeq.toNat),
      (6, 1, s.store.recordWrites.length % 256)]
    match s.store.ring[i] with
    | .record r => d.length = 29 ∧ (∀ p ∈ tail, fieldAt d (22 + p.1) p.2.1 = p.2.2) ∧
        HoldsAt d [(0, 1, 2), (1, 4, r.seq.toNat), (5, 2, r.trip % 65536), (7, 4, r.opened.toNat),
          (11, 1, (r.cause.map Fin.val).getD 255), (12, 1, r.level % 256), (13, 1, r.escalated.toNat),
          (14, 2, r.peakH % 65536), (16, 1, r.outcome.code), (17, 1, r.closure.code), (18, 4, r.closed.toNat)]
    | x => d.length = 8 ∧ fieldAt d 0 1 = (if x = .blank then 0 else 1) ∧
        ∀ p ∈ tail, fieldAt d (1 + p.1) p.2.1 = p.2.2 := by
  intro d busy tail
  have busy_eq : s.store.slotBusy i = busy := slotBusy_eq s.store i
  have data : d = s.store.ring[i].chars ++ layout (s.slotFields i) := recordData_eq s i
  have rest := holds_layout s.store.ring[i].chars (s.slotFields i) []
  rw [List.append_nil, ← data] at rest
  have tails : ∀ k, Holds d k (s.slotFields i) → ∀ p ∈ tail, fieldAt d (k + p.1) p.2.1 = p.2.2 := by
    intro k held
    unfold State.slotFields at held
    rw [busy_eq, beq_eq_decide] at held
    clear_value d busy
    simpa [Holds, Field.width, Field.value, toNat_mod_char, word_mod, tail, Nat.add_assoc] using held
  have tail_width : widthOf (s.slotFields i) = 7 := by simp [State.slotFields, widthOf, Field.width]
  cases slot : s.store.ring[i] with
  | blank =>
    rw [slot] at data rest
    exact ⟨by rw [data, List.length_append, length_layout, tail_width]; rfl, by rw [data]; rfl, tails 1 rest⟩
  | damaged =>
    rw [slot] at data rest
    exact ⟨by rw [data, List.length_append, length_layout, tail_width]; rfl, by rw [data]; rfl, tails 1 rest⟩
  | record r =>
    rw [slot] at data rest
    have chars : (Slot.record r).chars = layout (.char 2 :: r.layoutFields) := by
      rw [layout_cons, ← tripRecord_chars]; rfl
    rw [chars] at data rest
    have width : widthOf (.char 2 :: r.layoutFields) = 22 := by simp [widthOf, Field.width, TripRecord.layoutFields]
    rw [length_layout, width] at rest
    have held := holds_layout [] (.char 2 :: r.layoutFields) (layout (s.slotFields i))
    rw [List.nil_append, ← data] at held
    refine ⟨by rw [data, List.length_append, length_layout, length_layout, width, tail_width], tails 22 rest, ?_⟩
    clear_value d
    simpa [Holds, HoldsAt, TripRecord.layoutFields, Field.width, Field.value, toNat_mod_char, word_mod, place_mod,
      outcome_code_mod, closure_code_mod] using held

/-! ### READ_ZONE, READ_OUTSTANDING, READ_WARNINGS, READ_COUNTERS -/

theorem zoneData_eq (s : State) (z : Fin 8) :
    let cfg := s.tables.zones[z]
    let r := s.voter.zones[z]
    let k := s.zoneCounts z
    let left := fun o : Option Time => u32 (match o with
      | some t => (t - s.now).toNat
      | none => 4294967295)
    s.zoneData z = u8 cfg.members.length ++ (cfg.members.flatMap fun m => u8 m.val) ++ u8 cfg.kOn ++ u8 cfg.kStrong ++
      u16 cfg.w ++ u8 cfg.degrade.code ++ u8 r.isolated.toNat ++
      (cfg.members.flatMap fun m => u8 m.val ++ u8 s.voter.members[m].state.code ++
        u8 s.voter.members[m].seeded.toNat ++ left s.voter.members[m].onsetUntil ++
        left s.voter.members[m].strongUntil) ++
      u8 k.onsetActive ++ u8 k.strongActive ++ u8 k.capableOn ++ u8 k.capableStrong ++ u8 k.kEffOn ++ u8 k.kEffStrong ++
      u8 r.onsetVote.toNat ++ u8 r.strongVote.toNat ++ u8 r.condition.code := by
  intro cfg r k left
  have stamp : ∀ o : Option Time, u32None (o.map (msUntil s.now)) = left o := by intro o; cases o <;> rfl
  unfold State.zoneData ZoneCfg.listed Counts.chars Member.chars
  simp only [yesNo_eq, stamp, List.append_assoc]
  rfl

theorem outstandingData_eq (s : State) : s.outstandingData =
    u8 ((s.runner.run.plan.map PlanId.code).getD 255) ++ u8 s.runner.run.slotLimit ++
      u8 s.runner.outstanding.length ++ (s.runner.outstanding.flatMap fun e =>
        u8 e.step.val ++ u8 e.target ++ u8 e.action.code ++ u8 e.tag.toNat ++ u8 e.phase.code ++
          u32 (e.deadline.getD 4294967295) ++ u8 e.left) ++
      u8 s.runner.injection.length ++ (s.runner.injection.flatMap fun f =>
        u8 f.tag.toNat ++ u8 f.target ++ u8 f.action.code ++ u8 f.feed.toNat) ++ u8 s.runner.tagCounter.toNat := by
  have entry : Entry.chars = fun e => u8 e.step.val ++ u8 e.target ++ u8 e.action.code ++ u8 e.tag.toNat ++
      u8 e.phase.code ++ u32 (e.deadline.getD 4294967295) ++ u8 e.left := rfl
  have injected : Injected.chars = fun f => u8 f.tag.toNat ++ u8 f.target ++ u8 f.action.code ++ u8 f.feed.toNat := by
    funext f; rw [← yesNo_eq]; rfl
  unfold State.outstandingData u8None
  rw [entry, injected]

theorem warningsData_eq (s : State) : s.warningsData = (List.finRange 4).flatMap fun i =>
    match s.trig.warnings[i] with
    | none => u8 0
    | some w => u8 1 ++ u16 w.event ++ u8 w.cls ++ u16 w.lead ++ u32 (s.now - w.arrival).toNat ++
        u32 (w.expiry - s.now).toNat := by
  have slots : s.trig.warnings.toList = (List.finRange 4).map fun i => s.trig.warnings[i] :=
    List.ext_getElem (by simp) fun i _ _ => by simp
  unfold State.warningsData
  rw [slots, List.flatMap_map]
  refine congrArg (List.flatMap · (List.finRange 4)) (funext fun i => ?_)
  cases s.trig.warnings[i] <;> rfl

theorem counterData_eq (s : State) :
    let port := fun c : PortCount => [c.received, c.framing, c.abandoned, c.truncated, c.length, c.check, c.stray,
      c.malformed, c.sent].flatMap u16
    let r := s.router.count
    s.counterData 0 = some (port s.link.sCount) ∧ s.counterData 1 = some (port s.link.pCount) ∧
      s.counterData 2 = some ([r.unknownSources, r.unknownStates, r.pDiscards, r.sDiscards, r.refusals, r.sToPDrops,
        r.pToSLosses, r.noticesReplaced].flatMap u16) ∧
      s.counterData 3 = some ([s.trig.warningsDropped, s.trig.warningsIgnored, s.runner.commandsSent,
        s.runner.reissues, s.runner.strays, s.store.suspensions].flatMap u16) ∧
      s.counterData 4 = some ([s.mgmt.handled, s.mgmt.discarded].flatMap u16) := by
  intro port r
  have ports : ∀ c : PortCount, c.chars = port c := by
    intro c
    simp only [PortCount.chars, port, List.flatMap_cons, List.flatMap_nil, List.append_assoc, List.append_nil]
  have routed : s.router.count.chars = [r.unknownSources, r.unknownStates, r.pDiscards, r.sDiscards, r.refusals,
      r.sToPDrops, r.pToSLosses, r.noticesReplaced].flatMap u16 := by
    simp only [RouterCount.chars, r, List.flatMap_cons, List.flatMap_nil, List.append_assoc, List.append_nil]
  unfold State.counterData
  refine ⟨congrArg some (ports _), congrArg some (ports _), congrArg some routed, congrArg some ?_, congrArg some ?_⟩ <;>
    simp only [List.flatMap_cons, List.flatMap_nil, List.append_assoc, List.append_nil]

theorem counterData_none (s : State) {group : Nat} (h : 4 < group) : s.counterData group = none := by
  match group, h with
  | n + 5, _ => rfl

end Sys2Proof.Machine
end

section
/-! SUPPORT. READ_STATUS data by places, and what every READ request does (R138, R182, R185). -/

namespace Sys2Proof.Machine

/-! ### READ_STATUS as fields -/

section Status
variable (s : State)

/-- Site items, flags and enables, up to the place of the further source mask (log 18). -/
def State.fieldsBefore : List Field :=
  [.char s.site.state.code, .char s.site.level, .char ((s.site.hold.map HoldReason.code).getD 255), .two s.site.trip,
    .char ((s.site.record.map Fin.val).getD 255), .char s.site.requestLevel, .char ((s.site.cause.map Fin.val).getD 255),
    .char s.site.restartIncomplete.toNat, .char s.site.activationPending.toNat,
    .four (maskOf ((List.finRange 24).map fun i => s.trig.flags[i])),
    .four (maskOf ((List.finRange 24).map fun i => s.tables.sources[i].enabled))]

def State.levelFields : List Field :=
  [.four (maskOf ((List.finRange 24).map fun i => s.sourceLevel i == 2)), .char s.trig.forcedLevel,
    .char s.activeCondition.toNat]

def State.inputFields : List Field := s.trig.inputs.toList.flatMap fun d => [.char d.active.toNat]

def State.timerFields : List Field :=
  [.char s.trig.feedStable.toNat, .four (s.feedRemaining.getD 4294967295), .char s.trig.quietElapsed.toNat,
    .four (s.trig.quiet.getD 4294967295), .char s.params.classAlert, .char s.params.classL1, .char s.params.classL2,
    .char s.trig.alertOut.toNat, .char s.trig.tripOut.toNat]

def State.zoneFields : List Field := s.voter.zones.toList.flatMap fun z =>
  [.char z.onsetVote.toNat, .char z.strongVote.toNat, .char z.condition.code]

def State.isolatedFields : List Field := [.char (maskOf (s.voter.zones.toList.map Zone.isolated))]

def State.condFields : List Field := s.store.cond.toList.flatMap fun c => [.char c.code]

def State.validFields : List Field := s.store.workValid.toList.flatMap fun b => [.char b.toNat]

def State.storeFields : List Field :=
  [.char (maskOf s.store.awaiting.toList), .char s.store.commit.isSome.toNat, .char (maskOf s.store.activeProtection.toList),
    .char (maskOf s.nv.protection.active.toList), .char s.mgmt.causes.power.toNat, .char s.mgmt.causes.pin.toNat,
    .char s.mgmt.causes.commanded.toNat, .char s.mgmt.straps.addr.val, .char s.mgmt.straps.rate.val,
    .four s.mgmt.siteTime.toNat]

/-- The items behind the place of the further source mask. -/
def State.fieldsAfter : List Field :=
  s.levelFields ++ (s.inputFields ++ (s.timerFields ++ (s.zoneFields ++ (s.isolatedFields ++ (s.condFields ++
    (s.validFields ++ s.storeFields))))))

theorem layout_flatMap {α : Type} (l : List α) (f : α → List Field) :
    layout (l.flatMap f) = l.flatMap fun x => layout (f x) := by
  unfold layout
  rw [List.flatMap_assoc]

theorem statusWith_eq (further : Option Word32) : s.statusWith further =
    layout s.fieldsBefore ++ ((further.map word32Chars).getD [] ++ layout s.fieldsAfter) := by
  have bare : yesNo = fun b => u8 b.toNat := funext yesNo_eq
  unfold State.statusWith State.statusSite State.statusSources State.statusInputs State.statusOutputs State.statusZones
    State.statusStore State.statusMgmt State.fieldsBefore State.fieldsAfter State.levelFields State.inputFields
    State.timerFields State.zoneFields State.isolatedFields State.condFields State.validFields State.storeFields
    sourceMask blockMask ProtectionWord.shown
  simp only [List.append_assoc, bare, u8None, u32None, layout_append, layout_flatMap, layout_cons, layout_nil,
    List.append_nil]
  simp only [Field.chars]

theorem widthOf_before : widthOf s.fieldsBefore = 18 := by simp [widthOf, Field.width, State.fieldsBefore]
theorem widthOf_levels : widthOf s.levelFields = 6 := by simp [widthOf, Field.width, State.levelFields]
theorem widthOf_inputs : widthOf s.inputFields = 5 := by
  rw [State.inputFields, widthOf_flatMap (w := 1) _ fun _ => rfl]; simp
theorem widthOf_timers : widthOf s.timerFields = 15 := by simp [widthOf, Field.width, State.timerFields]
theorem widthOf_zones : widthOf s.zoneFields = 24 := by
  rw [State.zoneFields, widthOf_flatMap (w := 3) _ fun _ => rfl]; simp
theorem widthOf_isolated : widthOf s.isolatedFields = 1 := by simp [widthOf, Field.width, State.isolatedFields]
theorem widthOf_conds : widthOf s.condFields = 4 := by
  rw [State.condFields, widthOf_flatMap (w := 1) _ fun _ => rfl]; simp
theorem widthOf_valid : widthOf s.validFields = 4 := by
  rw [State.validFields, widthOf_flatMap (w := 1) _ fun _ => rfl]; simp
theorem widthOf_store : widthOf s.storeFields = 13 := by simp [widthOf, Field.width, State.storeFields]

/-- The groups of the items behind the further source mask, each at its place. -/
structure StatusHeld (d : List Byte) (x : Nat) : Prop where
  before : Holds d 0 s.fieldsBefore
  levels : Holds d (x + 18) s.levelFields
  inputs : Holds d (x + 24) s.inputFields
  timers : Holds d (x + 29) s.timerFields
  zones : Holds d (x + 44) s.zoneFields
  isolated : Holds d (x + 68) s.isolatedFields
  conds : Holds d (x + 69) s.condFields
  valid : Holds d (x + 73) s.validFields
  store : Holds d (x + 77) s.storeFields

theorem statusHeld_of_layout (f : List Byte) :
    StatusHeld s (layout s.fieldsBefore ++ (f ++ layout s.fieldsAfter)) f.length := by
  have before := holds_layout [] s.fieldsBefore (f ++ layout s.fieldsAfter)
  have after := holds_layout (layout s.fieldsBefore ++ f) s.fieldsAfter []
  rw [List.append_nil, List.append_assoc, List.length_append, length_layout, widthOf_before, Nat.add_comm] at after
  obtain ⟨levels, after⟩ := after.split
  rw [widthOf_levels] at after
  obtain ⟨inputs, after⟩ := after.split
  rw [widthOf_inputs] at after
  obtain ⟨timers, after⟩ := after.split
  rw [widthOf_timers] at after
  obtain ⟨zones, after⟩ := after.split
  rw [widthOf_zones] at after
  obtain ⟨isolated, after⟩ := after.split
  rw [widthOf_isolated] at after
  obtain ⟨conds, after⟩ := after.split
  rw [widthOf_conds] at after
  obtain ⟨valid, store⟩ := after.split
  rw [widthOf_valid] at store
  exact ⟨before, levels, inputs, timers, zones, isolated, conds, valid, store⟩

theorem length_status (f : List Byte) :
    (layout s.fieldsBefore ++ (f ++ layout s.fieldsAfter)).length = 90 + f.length := by
  rw [List.length_append, List.length_append, length_layout, length_layout, widthOf_before, State.fieldsAfter]
  simp only [widthOf_append, widthOf_levels, widthOf_inputs, widthOf_timers, widthOf_zones, widthOf_isolated,
    widthOf_conds, widthOf_valid, widthOf_store]
  omega

/-- The feed dwell's rest as its four characters hold it. -/
theorem feedRemaining_mod : s.feedRemaining.getD 4294967295 % 4294967296 = match s.trig.feedStart with
    | some t => (s.params.feedDwell * 1000 - (s.now - t).toNat) % 4294967296
    | none => 4294967295 := by
  unfold State.feedRemaining
  cases s.trig.feedStart <;> rfl

variable {s} {d : List Byte} {x : Nat}

theorem StatusHeld.numbers (h : StatusHeld s d x) :
    HoldsAt d [(0, 1, s.site.state.code), (1, 1, s.site.level % 256),
      (2, 1, (s.site.hold.map HoldReason.code).getD 255), (3, 2, s.site.trip % 65536),
      (5, 1, (s.site.record.map Fin.val).getD 255), (6, 1, s.site.requestLevel % 256),
      (7, 1, (s.site.cause.map Fin.val).getD 255), (8, 1, s.site.restartIncomplete.toNat),
      (9, 1, s.site.activationPending.toNat), (22 + x, 1, s.trig.forcedLevel % 256),
      (23 + x, 1, s.activeCondition.toNat), (29 + x, 1, s.trig.feedStable.toNat),
      (30 + x, 4, match s.trig.feedStart with
        | some t => (s.params.feedDwell * 1000 - (s.now - t).toNat) % 4294967296
        | none => 4294967295),
      (34 + x, 1, s.trig.quietElapsed.toNat), (35 + x, 4, s.trig.quiet.getD 4294967295 % 4294967296),
      (39 + x, 1, s.params.classAlert % 256), (40 + x, 1, s.params.classL1 % 256),
      (41 + x, 1, s.params.classL2 % 256), (42 + x, 1, s.trig.alertOut.toNat), (43 + x, 1, s.trig.tripOut.toNat),
      (78 + x, 1, s.store.commit.isSome.toNat), (81 + x, 1, s.mgmt.causes.power.toNat),
      (82 + x, 1, s.mgmt.causes.pin.toNat), (83 + x, 1, s.mgmt.causes.commanded.toNat),
      (84 + x, 1, s.mgmt.straps.addr.val), (85 + x, 1, s.mgmt.straps.rate.val), (86 + x, 4, s.mgmt.siteTime.toNat)] := by
  obtain ⟨before, levels, -, timers, -, -, -, -, store⟩ := h
  have feed := feedRemaining_mod s
  generalize (match s.trig.feedStart with
    | some t => (s.params.feedDwell * 1000 - (s.now - t).toNat) % 4294967296
    | none => 4294967295) = rest at feed ⊢
  simp only [State.fieldsBefore, State.levelFields, State.timerFields, State.storeFields, Holds, Field.width, Field.value,
    Nat.add_assoc, Nat.reduceAdd, Nat.reduceLeDiff, toNat_mod_char, siteState_code_mod, hold_code_mod, place_mod, fin_mod, word_mod,
    feed] at before levels timers store
  simp [HoldsAt, Nat.add_comm _ x, before, levels, timers, store]

/-- The masks of the sources. -/
theorem StatusHeld.masks (h : StatusHeld s d x) (i : Fin 24) : (fieldAt d 10 4).testBit i.val = s.trig.flags[i] ∧
    (fieldAt d 14 4).testBit i.val = s.tables.sources[i].enabled ∧
    (fieldAt d (18 + x) 4).testBit i.val = decide (s.sourceLevel i = 2) := by
  obtain ⟨-, -, -, -, -, -, -, -, -, flags, enables, -⟩ := h.before
  have levels := h.levels.1
  rw [Nat.add_comm 18 x]
  exact ⟨(congrArg (Nat.testBit · i.val) flags).trans (testBit_sourceMask _ i),
    (congrArg (Nat.testBit · i.val) enables).trans (testBit_sourceMask _ i),
    (congrArg (Nat.testBit · i.val) levels).trans
      ((testBit_sourceMask _ i).trans (beq_eq_decide (s.sourceLevel i) 2))⟩

theorem StatusHeld.contacts (h : StatusHeld s d x) (i : Fin 5) :
    fieldAt d (24 + x + i.val) 1 = s.trig.inputs[i].active.toNat := by
  have item := (h.inputs.item_vector (w := 1) (fun _ => rfl) i).1
  rw [Nat.one_mul] at item
  rw [Nat.add_comm 24 x]
  exact item.trans (toNat_mod_char _)

theorem StatusHeld.votes (h : StatusHeld s d x) (z : Fin 8) :
    fieldAt d (44 + x + 3 * z.val) 1 = s.voter.zones[z].onsetVote.toNat ∧
    fieldAt d (45 + x + 3 * z.val) 1 = s.voter.zones[z].strongVote.toNat ∧
    fieldAt d (46 + x + 3 * z.val) 1 = s.voter.zones[z].condition.code ∧
    (fieldAt d (68 + x) 1).testBit z.val = s.voter.zones[z].isolated := by
  obtain ⟨onset, strong, condition, -⟩ := h.zones.item_vector (w := 3) (fun _ => rfl) z
  have isolated := h.isolated.1
  rw [show 44 + x + 3 * z.val = x + 44 + 3 * z.val by omega, show 45 + x + 3 * z.val = x + 44 + 3 * z.val + 1 by omega,
    show 46 + x + 3 * z.val = x + 44 + 3 * z.val + 1 + 1 by omega, Nat.add_comm 68 x]
  refine ⟨onset.trans (toNat_mod_char _), strong.trans (toNat_mod_char _), condition.trans (condition_code_mod _), ?_⟩
  rw [show fieldAt d (x + 68) 1 = maskOf (s.voter.zones.toList.map Zone.isolated) % 256 from isolated,
    testBit_mod_char z.isLt, testBit_maskOf]
  simp

theorem StatusHeld.blocks (h : StatusHeld s d x) (b : Fin 4) : fieldAt d (69 + x + b.val) 1 = s.store.cond[b].code ∧
    fieldAt d (73 + x + b.val) 1 = s.store.workValid[b].toNat ∧
    (fieldAt d (77 + x) 1).testBit b.val = s.store.awaiting[b] ∧
    (fieldAt d (79 + x) 1).testBit b.val = s.store.activeProtection[b] ∧
    (fieldAt d (80 + x) 1).testBit b.val = s.nv.protection.active[b] := by
  have cond := (h.conds.item_vector (w := 1) (fun _ => rfl) b).1
  have valid := (h.valid.item_vector (w := 1) (fun _ => rfl) b).1
  obtain ⟨awaiting, -, active, protect, -⟩ := h.store
  rw [Nat.one_mul] at cond valid
  have bit : ∀ {v : Vector Bool 4} {k : Nat}, fieldAt d k 1 = maskOf v.toList % 256 →
      (fieldAt d k 1).testBit b.val = v[b] := by
    intro v k e
    rw [e, testBit_mod_char (by omega), testBit_mask_vector]
  rw [Nat.add_comm 69 x, Nat.add_comm 73 x, Nat.add_comm 77 x, show 79 + x = x + 77 + 1 + 1 by omega,
    show 80 + x = x + 77 + 1 + 1 + 1 by omega]
  exact ⟨cond.trans (blockCond_code_mod _), valid.trans (toNat_mod_char _), bit awaiting, bit active, bit protect⟩

end Status

/-! ### The requests -/

section Requests
variable {src tag : Byte} {s : State}

theorem exec_readStatus (ho : s.caughtUp.OpenTo) : exec (.readStatus src tag) s =
    .next (reqReadStatus ⟨src, tag, 0x01⟩ s.caughtUp.asked) :=
  exec_request (r := .readStatus) rfl ho rfl (by simp [Req.payload])

theorem exec_readChannel (x : Byte) (ho : s.caughtUp.OpenTo) : exec (.readChannel src tag x) s =
    .next (reqReadChannel ⟨src, tag, 0x02⟩ x s.caughtUp.asked) :=
  exec_request (r := .readChannel x) rfl ho rfl (by simp [Req.payload])

theorem exec_readZone (x : Byte) (ho : s.caughtUp.OpenTo) : exec (.readZone src tag x) s =
    .next (reqReadZone ⟨src, tag, 0x03⟩ x s.caughtUp.asked) :=
  exec_request (r := .readZone x) rfl ho rfl (by simp [Req.payload])

theorem exec_readNode (x : Byte) (ho : s.caughtUp.OpenTo) : exec (.readNode src tag x) s =
    .next (reqReadNode ⟨src, tag, 0x04⟩ x s.caughtUp.asked) :=
  exec_request (r := .readNode x) rfl ho rfl (by simp [Req.payload])

theorem exec_readStep (x : Byte) (ho : s.caughtUp.OpenTo) : exec (.readStep src tag x) s =
    .next (reqReadStep ⟨src, tag, 0x05⟩ x s.caughtUp.asked) :=
  exec_request (r := .readStep x) rfl ho rfl (by simp [Req.payload])

theorem exec_readOutstanding (ho : s.caughtUp.OpenTo) : exec (.readOutstanding src tag) s =
    .next (reqReadOutstanding ⟨src, tag, 0x06⟩ s.caughtUp.asked) :=
  exec_request (r := .readOutstanding) rfl ho rfl (by simp [Req.payload])

theorem exec_readWarnings (ho : s.caughtUp.OpenTo) : exec (.readWarnings src tag) s =
    .next (reqReadWarnings ⟨src, tag, 0x07⟩ s.caughtUp.asked) :=
  exec_request (r := .readWarnings) rfl ho rfl (by simp [Req.payload])

theorem exec_readTripRecord (x : Byte) (ho : s.caughtUp.OpenTo) : exec (.readTripRecord src tag x) s =
    .next (reqReadTripRecord ⟨src, tag, 0x08⟩ x s.caughtUp.asked) :=
  exec_request (r := .readTripRecord x) rfl ho rfl (by simp [Req.payload])

theorem exec_readCounters (x : Byte) (ho : s.caughtUp.OpenTo) : exec (.readCounters src tag x) s =
    .next (reqReadCounters ⟨src, tag, 0x09⟩ x s.caughtUp.asked) :=
  exec_request (r := .readCounters x) rfl ho rfl (by simp [Req.payload])

theorem exec_readShadow (block kind first count : Byte) (ho : s.caughtUp.OpenTo) :
    exec (.readShadow src tag block kind first count) s =
      .next (reqReadShadow ⟨src, tag, 0x10⟩ block kind first count s.caughtUp.asked) :=
  exec_request (r := .readShadow block kind first count) rfl ho rfl (by simp [Req.payload])

end Requests

section Answers
variable (src tag x : Byte) (s : State)

theorem reqReadChannel_eq : reqReadChannel ⟨src, tag, 0x02⟩ x s.asked =
    if h : x.toNat < 32 then s.asked.replied src tag 0x02 .ok (s.channelData ⟨x.toNat, h⟩)
    else s.asked.replied src tag 0x02 .badArgument [] := by
  unfold reqReadChannel
  by_cases h : x.toNat < 32
  · rw [dif_pos h, readFin_of_eq (i := ⟨x.toNat, h⟩) rfl]; rfl
  · rw [dif_neg h, readFin_of_le (by omega)]; rfl

theorem reqReadZone_eq : reqReadZone ⟨src, tag, 0x03⟩ x s.asked =
    if h : x.toNat < 8 then s.asked.replied src tag 0x03 .ok (s.zoneData ⟨x.toNat, h⟩)
    else s.asked.replied src tag 0x03 .badArgument [] := by
  unfold reqReadZone
  by_cases h : x.toNat < 8
  · rw [dif_pos h, readFin_of_eq (i := ⟨x.toNat, h⟩) rfl]; rfl
  · rw [dif_neg h, readFin_of_le (by omega)]; rfl

theorem reqReadNode_eq : reqReadNode ⟨src, tag, 0x04⟩ x s.asked =
    if x.toNat < 128 then s.asked.replied src tag 0x04 .ok (s.nodeData x.toNat)
    else s.asked.replied src tag 0x04 .badArgument [] := rfl

theorem reqReadStep_eq : reqReadStep ⟨src, tag, 0x05⟩ x s.asked =
    if h : x.toNat < 64 then s.asked.replied src tag 0x05 .ok (s.stepData ⟨x.toNat, h⟩)
    else s.asked.replied src tag 0x05 .badArgument [] := by
  unfold reqReadStep
  by_cases h : x.toNat < 64
  · rw [dif_pos h, readFin_of_eq (i := ⟨x.toNat, h⟩) rfl]; rfl
  · rw [dif_neg h, readFin_of_le (by omega)]; rfl

theorem reqReadTripRecord_eq : reqReadTripRecord ⟨src, tag, 0x08⟩ x s.asked =
    if h : x.toNat < 16 then s.asked.replied src tag 0x08 .ok (s.recordData ⟨x.toNat, h⟩)
    else s.asked.replied src tag 0x08 .badArgument [] := by
  unfold reqReadTripRecord
  by_cases h : x.toNat < 16
  · rw [dif_pos h, readFin_of_eq (i := ⟨x.toNat, h⟩) rfl]; rfl
  · rw [dif_neg h, readFin_of_le (by omega)]; rfl

theorem reqReadCounters_eq : reqReadCounters ⟨src, tag, 0x09⟩ x s.asked =
    if x.toNat ≤ 4 then s.asked.replied src tag 0x09 .ok ((s.asked.counterData x.toNat).getD [])
    else s.asked.replied src tag 0x09 .badArgument [] := by
  unfold reqReadCounters
  by_cases h : x.toNat ≤ 4
  · have named : ∃ d, s.asked.counterData x.toNat = some d := by
      match x.toNat, h with
      | 0, _ | 1, _ | 2, _ | 3, _ | 4, _ => exact ⟨_, rfl⟩
    obtain ⟨d, e⟩ := named
    rw [if_pos h, e]; rfl
  · rw [if_neg h, counterData_none s.asked (by omega)]; rfl

theorem reqReadShadow_eq (kind first count : Byte) : reqReadShadow ⟨src, tag, 0x10⟩ x kind first count s.asked =
    match readPlace x kind first count with
    | some (b, k) =>
      if count.toNat * k.size ≤ 352 then
        s.asked.replied src tag 0x10 .ok (s.store.shadow.recordsChars b k first.toNat count.toNat)
      else s.asked.replied src tag 0x10 .badArgument []
    | none => s.asked.replied src tag 0x10 .badArgument [] := by
  unfold reqReadShadow
  cases readPlace x kind first count <;> rfl

/-- What every READ request leaves once it is received and counted (R182). -/
theorem reads_answered (kind first count : Byte) :
    let ok := fun (code : Byte) (data : List Byte) => s.asked.replied src tag code .ok data
    let bad := fun (code : Byte) => s.asked.replied src tag code .badArgument []
    let next : State → Host.Outcome State Fault Refusal := .next
    next (reqReadStatus ⟨src, tag, 0x01⟩ s.asked) = next (ok 0x01 s.statusData) ∧
    next (reqReadChannel ⟨src, tag, 0x02⟩ x s.asked) =
      next (if h : x.toNat < 32 then ok 0x02 (s.channelData ⟨x.toNat, h⟩) else bad 0x02) ∧
    next (reqReadZone ⟨src, tag, 0x03⟩ x s.asked) =
      next (if h : x.toNat < 8 then ok 0x03 (s.zoneData ⟨x.toNat, h⟩) else bad 0x03) ∧
    next (reqReadNode ⟨src, tag, 0x04⟩ x s.asked) =
      next (if x.toNat < 128 then ok 0x04 (s.nodeData x.toNat) else bad 0x04) ∧
    next (reqReadStep ⟨src, tag, 0x05⟩ x s.asked) =
      next (if h : x.toNat < 64 then ok 0x05 (s.stepData ⟨x.toNat, h⟩) else bad 0x05) ∧
    next (reqReadOutstanding ⟨src, tag, 0x06⟩ s.asked) = next (ok 0x06 s.outstandingData) ∧
    next (reqReadWarnings ⟨src, tag, 0x07⟩ s.asked) = next (ok 0x07 s.warningsData) ∧
    next (reqReadTripRecord ⟨src, tag, 0x08⟩ x s.asked) =
      next (if h : x.toNat < 16 then ok 0x08 (s.recordData ⟨x.toNat, h⟩) else bad 0x08) ∧
    next (reqReadCounters ⟨src, tag, 0x09⟩ x s.asked) =
      next (if x.toNat ≤ 4 then ok 0x09 ((s.asked.counterData x.toNat).getD []) else bad 0x09) ∧
    next (reqReadShadow ⟨src, tag, 0x10⟩ x kind first count s.asked) = next (match readPlace x kind first count with
      | some (b, k) =>
        if count.toNat * k.size ≤ 352 then ok 0x10 (s.store.shadow.recordsChars b k first.toNat count.toNat)
        else bad 0x10
      | none => bad 0x10) := by
  intro ok bad next
  rw [reqReadChannel_eq, reqReadZone_eq, reqReadNode_eq, reqReadStep_eq, reqReadTripRecord_eq, reqReadCounters_eq,
    reqReadShadow_eq]
  exact ⟨rfl, rfl, rfl, rfl, rfl, rfl, rfl, rfl, rfl, rfl⟩

end Answers

/-- A field of one, two or four characters has that length and holds its number modulo its room. -/
theorem characters_hold (n : Nat) : (u8 n).length = 1 ∧ fieldAt (u8 n) 0 1 = n % 256 ∧ (u16 n).length = 2 ∧
    fieldAt (u16 n) 0 2 = n % 65536 ∧ (u32 n).length = 4 ∧ fieldAt (u32 n) 0 4 = n % 4294967296 :=
  ⟨rfl, (Field.char n).fieldAt_chars, rfl, (Field.two n).fieldAt_chars, rfl, (Field.four n).fieldAt_chars⟩

/-- READ_STATUS's data, the further source mask there or not (log 18). -/
theorem statusData_held (s : State) : ∃ x, (x = 0 ∨ x = 4) ∧ s.statusData.length = 90 + x ∧
    StatusHeld s s.statusData x := by
  unfold State.statusData
  rw [statusWith_eq]
  refine ⟨_, ?_, length_status s _, statusHeld_of_layout s _⟩
  cases Config.furtherSourceMask (s.statusWith none) with
  | none => exact .inl rfl
  | some w => exact .inr rfl

/-- Settles O24: each request is answered with its data, and the data are fields one after another. -/
theorem readsAnswerWithTheirDataAndChangeNothing : Obligations.ReadsAnswerWithTheirDataAndChangeNothing := by
  unfold Obligations.ReadsAnswerWithTheirDataAndChangeNothing
  refine ⟨?_, characters_hold, fun s => ⟨?_, channelData_holds s, zoneData_eq s, nodeData_holds s, stepData_holds s,
    outstandingData_eq s, warningsData_eq s, recordData_holds s, counterData_eq s⟩⟩
  · intro src tag x kind first count s₀ s ho ok bad
    rw [exec_readStatus ho, exec_readChannel x ho, exec_readZone x ho, exec_readNode x ho, exec_readStep x ho,
      exec_readOutstanding ho, exec_readWarnings ho, exec_readTripRecord x ho, exec_readCounters x ho,
      exec_readShadow x kind first count ho]
    exact reads_answered src tag x s kind first count
  · obtain ⟨x, further, length, held⟩ := statusData_held s
    exact ⟨x, further, length, held.numbers, held.masks, held.contacts, held.votes, held.blocks⟩

end Sys2Proof.Machine
end

section
/-! SUPPORT. A block has no fault of the model's checks exactly where no record of it shows one of R139's table. -/

namespace Sys2Proof.Machine

/-! ### Lists of checks -/

theorem firstFault_none {l : List (Bool × StoreFault)} : firstFault l = none ↔ ∀ c ∈ l, c.1 = true := by
  induction l with
  | nil => simp [firstFault]
  | cons c l ih =>
    obtain ⟨ok, f⟩ := c
    cases ok <;> simp [firstFault, ih]

theorem firstIndex_none {n : Nat} {f : Fin n → Option StoreFault} : firstIndex n f = none ↔ ∀ i, f i = none := by
  simp [firstIndex]

/-! ### Steps (R139, checks 1 to 6) -/

section Steps
variable (p : PlanId) (i : Nat) (c : StepCfg) (site : Option SiteTables)

theorem allowedIn_iff (a : Action) : a.allowedIn p = true ↔ ¬((p = .restart ∧ (a = .shed ∨ a = .park ∨ a = .cut)) ∨
    (p ≠ .restart ∧ (a = .energize ∨ a = .resume ∨ a = .transfer))) := by
  cases a <;> cases p <;> decide

theorem allowedFor_iff (a : Action) (k : NodeKind) : (a == .mark || a.allowedFor k) = true ↔ ¬(a ≠ .mark ∧
    (k = .sensor ∨ k = .gateway ∨ k = .other ∨ a = .transfer ∧ (k = .breaker ∨ k = .pdu ∨ k = .cooling))) := by
  cases a <;> cases k <;> decide

/-- Checks 5 and 6 pass where their faults do not show. -/
theorem nodeChecks_pass : (∀ x ∈ nodeChecks site c, x.1 = true) ↔
    ¬StepShows p i c site .targetAbsent ∧ ¬StepShows p i c site .targetKind := by
  cases site with
  | none => simp [nodeChecks, StepShows]
  | some t =>
    have kind := allowedFor_iff c.action (t.node (c.target.getD 0)).kind
    have absent : targetPresent t c = true ↔ ¬(c.action ≠ .mark ∧ (t.node (c.target.getD 0)).present = false) := by
      simp [targetPresent, imp_iff_not_or]
    simp only [nodeChecks, List.forall_mem_cons, List.not_mem_nil, false_imp_iff, implies_true, and_true, StepShows,
      Option.some.injEq, exists_eq_left', absent, targetAllowed, kind]

theorem stepShows_none : (∀ f, ¬StepShows p i c site f) ↔ ¬StepShows p i c site .prerequisiteOrder ∧
    ¬StepShows p i c site .prerequisiteRepeated ∧ ¬StepShows p i c site .actionNotAllowed ∧
    ¬StepShows p i c site .policyNotAllowed ∧ ¬StepShows p i c site .targetAbsent ∧
    ¬StepShows p i c site .targetKind := by
  refine ⟨fun h => ⟨h _, h _, h _, h _, h _, h _⟩, fun ⟨h1, h2, h3, h4, h5, h6⟩ f => ?_⟩
  cases f with
  | prerequisiteOrder => exact h1
  | prerequisiteRepeated => exact h2
  | actionNotAllowed => exact h3
  | policyNotAllowed => exact h4
  | targetAbsent => exact h5
  | targetKind => exact h6
  | _ => exact id

/-- Checks 1 to 4 pass where their faults do not show. -/
theorem stepChecks_pass : (∀ x ∈ ([(c.prereqs.all (fun q => q.val < i), .prerequisiteOrder),
      (decide c.prereqs.Nodup, .prerequisiteRepeated), (c.action.allowedIn p, .actionNotAllowed),
      (c.policy != .escalate || p == .l1, .policyNotAllowed)] : List (Bool × StoreFault)), x.1 = true) ↔
    ¬StepShows p i c site .prerequisiteOrder ∧ ¬StepShows p i c site .prerequisiteRepeated ∧
      ¬StepShows p i c site .actionNotAllowed ∧ ¬StepShows p i c site .policyNotAllowed := by
  have policy : (c.policy != .escalate || p == .l1) = true ↔ ¬(c.policy = .escalate ∧ p ≠ .l1) := by
    cases c.policy <;> cases p <;> decide
  simp only [List.forall_mem_cons, List.not_mem_nil, false_imp_iff, implies_true, and_true, StepShows, allowedIn_iff,
    policy, decide_eq_true_iff, not_not, List.all_eq_true, not_exists, not_and, Nat.not_le]

/-- The checks of a step find no fault where it is beyond the step count or none shows. -/
theorem stepFault_none {plan : Plan} {i : Fin 64} : stepFault p plan site i = none ↔
    (i.val < plan.stepCount → ∀ f, ¬StepShows p i.val plan.steps[i] site f) := by
  unfold stepFault
  by_cases within : plan.stepCount ≤ i.val
  · rw [if_pos within]
    simp [Nat.not_lt.mpr within]
  · rw [if_neg within]
    dsimp only
    rw [firstFault_none, List.forall_mem_append, nodeChecks_pass p i.val, stepChecks_pass p i.val _ site, stepShows_none]
    simp only [Nat.not_le.mp within, true_imp_iff, and_assoc]

end Steps

/-! ### Site tables (R139, checks 7 to 12) -/

section Tables
variable (t : SiteTables)

theorem channelFault_none {i : Fin 32} : channelFault t i = none ↔ ∀ f, ¬ChannelShows t t.channels[i] f := by
  have shows_none : (∀ f, ¬ChannelShows t t.channels[i] f) ↔ ¬ChannelShows t t.channels[i] .shiftOrder ∧
      ¬ChannelShows t t.channels[i] .ratioOrder ∧ ¬ChannelShows t t.channels[i] .sensorAbsent := by
    refine ⟨fun h => ⟨h _, h _, h _⟩, fun ⟨h1, h2, h3⟩ f => ?_⟩
    cases f with
    | shiftOrder => exact h1
    | ratioOrder => exact h2
    | sensorAbsent => exact h3
    | _ => exact id
  unfold channelFault
  dsimp only
  rw [firstFault_none, shows_none]
  simp only [List.forall_mem_cons, List.not_mem_nil, false_imp_iff, implies_true, and_true, ChannelShows,
    decide_eq_true_iff, Nat.not_lt, Nat.not_le, Bool.or_eq_true, Bool.not_eq_true', not_and, Bool.not_eq_false]
  cases t.channels[i].enabled <;> simp

theorem zoneFault_none {z : Fin 8} : zoneFault t z = none ↔ ∀ f, ¬ZoneShows t z f := by
  have shows_none : (∀ f, ¬ZoneShows t z f) ↔
      ¬ZoneShows t z .memberRepeated ∧ ¬ZoneShows t z .thresholdAboveMembers := by
    refine ⟨fun h => ⟨h _, h _⟩, fun ⟨h1, h2⟩ f => ?_⟩
    cases f with
    | memberRepeated => exact h1
    | thresholdAboveMembers => exact h2
    | _ => exact id
  have distinct : membersDistinct t z = true ↔ ¬ZoneShows t z .memberRepeated := by
    simp only [membersDistinct, ZoneShows, Bool.and_eq_true, decide_eq_true_iff, List.all_eq_true, List.mem_finRange,
      true_imp_iff, Bool.or_eq_true, not_or, not_not, not_exists, not_and]
    refine and_congr_right fun _ => forall_congr' fun y => ?_
    by_cases below : y < z
    · have : ¬z.val ≤ y.val := Nat.not_le.mpr below
      simp [below, this]
    · have : z.val ≤ y.val := Nat.not_lt.mp below
      simp [below, this]
  have threshold : (t.zones[z].members.isEmpty || (t.zones[z].kOn ≤ t.zones[z].members.length &&
      t.zones[z].kStrong ≤ t.zones[z].members.length)) = true ↔ ¬ZoneShows t z .thresholdAboveMembers := by
    simp only [ZoneShows, Bool.or_eq_true, List.isEmpty_iff, Bool.and_eq_true, decide_eq_true_iff, not_and, not_or,
      Nat.not_lt, ne_eq]
    exact or_iff_not_imp_left
  unfold zoneFault
  dsimp only
  rw [firstFault_none, shows_none, ← distinct, ← threshold]
  simp only [List.forall_mem_cons, List.not_mem_nil, false_imp_iff, implies_true, and_true]

theorem siteFault_none : siteFault t = none ↔ ∀ f, ¬SiteShows t.site f := by
  have shows_none : (∀ f, ¬SiteShows t.site f) ↔ ¬SiteShows t.site .classOrder :=
    ⟨fun h => h _, fun h f => by
      cases f with
      | classOrder => exact h
      | _ => exact id⟩
  unfold siteFault
  rw [firstFault_none, shows_none]
  simp [SiteShows]

theorem tablesFault_none : tablesFault t = none ↔ (∀ i : Fin 32, ∀ f, ¬ChannelShows t t.channels[i] f) ∧
    (∀ z : Fin 8, ∀ f, ¬ZoneShows t z f) ∧ ∀ f, ¬SiteShows t.site f := by
  simp only [← channelFault_none, ← zoneFault_none, ← siteFault_none, ← firstIndex_none (f := channelFault t),
    ← firstIndex_none (f := zoneFault t)]
  unfold tablesFault
  cases firstIndex 32 (channelFault t) with
  | some f => simp
  | none => cases firstIndex 8 (zoneFault t) <;> simp

end Tables

/-! ### Blocks -/

theorem planIn_block (p : PlanId) : planIn p.block = some p := by cases p <;> rfl

theorem block_of_planIn {b : Fin 4} {p : PlanId} (h : planIn b = some p) : b = p.block := by
  match b, h with
  | 0, h | 1, h | 2, h => cases h; rfl
  | 3, h => cases h

theorem block_ne_three (p : PlanId) : p.block ≠ 3 := by cases p <;> decide

theorem three_of_planIn {b : Fin 4} (h : planIn b = none) : b = 3 := by
  match b, h with
  | 0, h | 1, h | 2, h => cases h
  | 3, _ => rfl

theorem planFault_none {p : PlanId} {plan : Plan} {site : Option SiteTables} : planFault p plan site = none ↔
    ∀ i : Fin 64, i.val < plan.stepCount → ∀ f, ¬StepShows p i.val plan.steps[i] site f := by
  unfold planFault
  rw [Option.map_eq_none_iff, firstIndex_none]
  exact forall_congr' fun i => stepFault_none p site

/-- A block has no fault of the checks exactly where no record of it shows one (R139). -/
theorem blockFault_none {b : Fin 4} {bs : Blocks} {site : Option SiteTables} :
    blockFault b bs site = none ↔ ∀ x : Found, x.block = b → ¬Shows bs site x := by
  unfold blockFault
  cases hb : planIn b with
  | some p =>
    obtain rfl := block_of_planIn hb
    dsimp only
    rw [planFault_none]
    constructor
    · intro none x hx shows
      unfold Shows at shows
      split at shows
      · obtain ⟨q, i, hq, -, within, shown⟩ := shows
        have same : q = p := by
          have := (planIn_block q).symm.trans ((congrArg planIn (hq.symm.trans hx)).trans (planIn_block p))
          exact Option.some.inj this
        subst same
        exact none i within _ shown
      · exact block_ne_three p (hx.symm.trans shows.1)
      · exact block_ne_three p (hx.symm.trans shows.1)
      · exact block_ne_three p (hx.symm.trans shows.1)
      · exact shows
    · intro none i within f shown
      exact none ⟨p.block, .step, i.val, f⟩ rfl ⟨p, i, rfl, rfl, within, shown⟩
  | none =>
    obtain rfl := three_of_planIn hb
    dsimp only
    rw [tablesFault_none]
    constructor
    · rintro ⟨channels, zones, tables⟩ x hx shows
      unfold Shows at shows
      split at shows
      · obtain ⟨q, -, hq, -⟩ := shows
        exact block_ne_three q (hq.symm.trans hx)
      · obtain ⟨-, i, -, shown⟩ := shows
        exact channels i _ shown
      · obtain ⟨-, z, -, shown⟩ := shows
        exact zones z _ shown
      · exact tables _ shows.2.2
      · exact shows
    · intro none
      exact ⟨fun i f shown => none ⟨3, .channel, i.val, f⟩ rfl ⟨rfl, i, rfl, shown⟩,
        fun z f shown => none ⟨3, .zone, z.val, f⟩ rfl ⟨rfl, z, rfl, shown⟩,
        fun f shown => none ⟨3, .site, 0, f⟩ rfl ⟨rfl, rfl, shown⟩⟩

/-- A block is VALID where its CRC is that of its content and no record of it shows a fault, plans being checked against
block 3 where that is VALID (R134, R136, R139). -/
theorem valid_iff (n : NonVolatile) (b : Fin 4) : n.valid b = true ↔ n.checks[b] = some (crc16 (n.blocks.content b)) ∧
    ∀ x : Found, x.block = b → ¬Shows n.blocks (if n.valid 3 then some n.blocks.site else none) x := by
  have tables : n.valid 3 = n.tablesValid := rfl
  rw [← blockFault_none, tables]
  unfold NonVolatile.valid
  rw [Bool.and_eq_true, NonVolatile.passes_iff, Option.isNone_iff_eq_none]
  rfl

end Sys2Proof.Machine
end

section
/-! SUPPORT. The newest record of a ring, and the ring image from the slots as found (R147, R149). -/

namespace Sys2Proof.Machine

/-! ### Ranks (R147) -/

theorem ringWraps_iff (ring : Vector Slot 16) : ringWraps ring = true ↔ AtBothEnds ring := by
  unfold ringWraps AtBothEnds
  simp only [Bool.and_eq_true, List.any_eq_true, decide_eq_true_iff]

/-- A sequence of a higher rank ranks above. -/
theorem ranksAbove_iff (ring : Vector Slot 16) (a b : Word32) :
    RanksAbove ring a b ↔ rankOf (ringWraps ring) b < rankOf (ringWraps ring) a := by
  have ha := a.isLt
  have hb := b.isLt
  by_cases wraps : AtBothEnds ring
  · have above : RanksAbove ring a b ↔ (a.toNat < 2147483648 ∧ 2147483648 ≤ b.toNat ∨
        (a.toNat < 2147483648 ↔ b.toNat < 2147483648) ∧ b.toNat < a.toNat) :=
      ⟨fun h => h.1 wraps, fun h => ⟨fun _ => h, fun none => absurd wraps none⟩⟩
    rw [above, (ringWraps_iff ring).mpr wraps]
    clear wraps above
    simp only [rankOf, true_and]
    split <;> split <;> omega
  · have above : RanksAbove ring a b ↔ b.toNat < a.toNat :=
      ⟨fun h => h.2 wraps, fun h => ⟨fun both => absurd both wraps, fun _ => h⟩⟩
    have flat : ringWraps ring = false := by rwa [← Bool.not_eq_true, ringWraps_iff]
    rw [above, flat]
    simp [rankOf]

theorem rankOf_inj {wraps : Bool} {a b : Word32} (h : rankOf wraps a = rankOf wraps b) : a = b := by
  have := a.isLt
  have := b.isLt
  refine BitVec.eq_of_toNat_eq ?_
  unfold rankOf at h
  split at h <;> split at h <;> omega

/-! ### The highest slot -/

section Highest
variable (p : TripRecord → Bool) (ring : Vector Slot 16)

/-- The slot's record passes `p` and has the highest rank of the slots of `l`, the first of two with one rank. -/
def BestOf (l : List (Fin 16)) (i : Fin 16) : Prop :=
  ∃ r, ring[i].held = some r ∧ p r = true ∧ i ∈ l ∧ ∀ j ∈ l, ∀ x, ring[j].held = some x → p x = true →
    rankOf (ringWraps ring) x.seq ≤ rankOf (ringWraps ring) r.seq ∧
      (j < i → rankOf (ringWraps ring) x.seq < rankOf (ringWraps ring) r.seq)

/-- What the search has found in the slots of `l`. -/
def FoundIn (l : List (Fin 16)) : Option (Fin 16) → Prop
  | some i => BestOf p ring l i
  | none => ∀ j ∈ l, ∀ x, ring[j].held = some x → p x = false

/-- One slot of the search. -/
def searchAt (best : Option (Fin 16)) (i : Fin 16) : Option (Fin 16) :=
  match ring[i].held with
  | some r =>
    if p r then
      match best.bind fun j => ring[j].held with
      | some b => if rankOf (ringWraps ring) b.seq < rankOf (ringWraps ring) r.seq then some i else best
      | none => some i
    else best
  | none => best

section Search
variable {p ring} {l : List (Fin 16)} {best : Option (Fin 16)} {i : Fin 16}

/-- A slot that holds no record that passes is passed over. -/
theorem FoundIn.pass (h : FoundIn p ring l best) (hi : ∀ x, ring[i].held = some x → p x = false) :
    FoundIn p ring (l ++ [i]) best := by
  cases best with
  | none =>
    intro j hj x hx
    rcases List.mem_append.mp hj with hj | hj
    · exact h j hj x hx
    · rw [List.mem_singleton.mp hj] at hx; exact hi x hx
  | some k =>
    obtain ⟨r, hr, pr, hk, most⟩ := h
    refine ⟨r, hr, pr, List.mem_append_left _ hk, fun j hj x hx px => ?_⟩
    rcases List.mem_append.mp hj with hj | hj
    · exact most j hj x hx px
    · rw [List.mem_singleton.mp hj] at hx
      rw [hi x hx] at px
      cases px

/-- A slot whose record passes is taken where none was found before it, or one of a lower rank. -/
theorem bestOf_new {r : TripRecord} (later : ∀ j ∈ l, j < i) (hr : ring[i].held = some r) (pr : p r = true)
    (h : ∀ j ∈ l, ∀ x, ring[j].held = some x → p x = true →
      rankOf (ringWraps ring) x.seq < rankOf (ringWraps ring) r.seq) : BestOf p ring (l ++ [i]) i := by
  refine ⟨r, hr, pr, List.mem_append_right _ (List.mem_singleton_self i), fun j hj x hx px => ?_⟩
  rcases List.mem_append.mp hj with hj | hj
  · exact ⟨(h j hj x hx px).le, fun _ => h j hj x hx px⟩
  · obtain rfl := List.mem_singleton.mp hj
    cases hr.symm.trans hx
    exact ⟨le_rfl, fun h => absurd h (lt_irrefl j)⟩

/-- A slot whose record's rank is not higher than that found stays out. -/
theorem BestOf.keep {k : Fin 16} {b r : TripRecord} (h : BestOf p ring l k) (later : ∀ j ∈ l, j < i)
    (hb : ring[k].held = some b) (hr : ring[i].held = some r)
    (le : rankOf (ringWraps ring) r.seq ≤ rankOf (ringWraps ring) b.seq) : BestOf p ring (l ++ [i]) k := by
  obtain ⟨c, hc, pc, hk, most⟩ := h
  cases hb.symm.trans hc
  refine ⟨b, hb, pc, List.mem_append_left _ hk, fun j hj x hx px => ?_⟩
  rcases List.mem_append.mp hj with hj | hj
  · exact most j hj x hx px
  · obtain rfl := List.mem_singleton.mp hj
    cases hr.symm.trans hx
    exact ⟨le, fun h => absurd h (lt_asymm (later k hk))⟩

/-- A slot after those of `l` extends the search. -/
theorem foundIn_searchAt (later : ∀ j ∈ l, j < i) (h : FoundIn p ring l best) :
    FoundIn p ring (l ++ [i]) (searchAt p ring best i) := by
  unfold searchAt
  cases hi : ring[i].held with
  | none => exact h.pass fun x hx => by rw [hi] at hx; cases hx
  | some r =>
    dsimp only
    cases pr : p r with
    | false => exact h.pass fun x hx => by rw [hi] at hx; cases hx; exact pr
    | true =>
      rw [if_pos rfl]
      cases best with
      | none => exact bestOf_new later hi pr fun j hj x hx px => by rw [h j hj x hx] at px; cases px
      | some k =>
        have held := h
        obtain ⟨b, hb, -, -, most⟩ := held
        rw [Option.bind_some, hb]
        dsimp only
        split
        · exact bestOf_new later hi pr fun j hj x hx px => ((most j hj x hx px).1).trans_lt ‹_›
        · exact h.keep later hb hi (Nat.le_of_not_lt ‹_›)

end Search

theorem foundIn_foldl (l : List (Fin 16)) (h : l.Pairwise (· < ·)) :
    FoundIn p ring l (l.foldl (searchAt p ring) none) := by
  induction l using List.reverseRecOn with
  | nil => intro j hj; cases hj
  | append_singleton l i ih =>
    rw [List.foldl_append]
    obtain ⟨hl, -, later⟩ := List.pairwise_append.mp h
    exact foundIn_searchAt (fun j hj => later j hj i (List.mem_singleton_self i)) (ih hl)

theorem foundIn_highestSlot : FoundIn p ring (List.finRange 16) (highestSlot p ring) :=
  foundIn_foldl p ring _ (List.pairwise_lt_finRange 16)

theorem bestOf_all {i : Fin 16} : BestOf p ring (List.finRange 16) i ↔ Newest p ring i := by
  have strict : ∀ {x r : Word32}, ¬RanksAbove ring x r ∧ x ≠ r ↔ rankOf (ringWraps ring) x < rankOf (ringWraps ring) r := by
    intro x r
    rw [ranksAbove_iff, Nat.not_lt, lt_iff_le_and_ne]
    exact and_congr_right fun _ => not_congr ⟨congrArg _, rankOf_inj⟩
  constructor
  · rintro ⟨r, hr, pr, -, most⟩
    refine ⟨r, Option.mem_toList.mpr hr, pr, fun j x hx px => ?_⟩
    obtain ⟨le, lt⟩ := most j (List.mem_finRange j) x (Option.mem_toList.mp hx) px
    exact ⟨fun above => absurd ((ranksAbove_iff ring _ _).mp above) (Nat.not_lt.mpr le), fun h => (strict.mpr (lt h)).2⟩
  · rintro ⟨r, hr, pr, most⟩
    refine ⟨r, Option.mem_toList.mp hr, pr, List.mem_finRange i, fun j _ x hx px => ?_⟩
    obtain ⟨below, ne⟩ := most j x (Option.mem_toList.mpr hx) px
    exact ⟨Nat.le_of_not_lt fun lt => below ((ranksAbove_iff ring _ _).mpr lt), fun h => strict.mp ⟨below, ne h⟩⟩

/-- The search finds the slot of the newest record that passes (R147). -/
theorem highestSlot_some {i : Fin 16} : highestSlot p ring = some i ↔ Newest p ring i := by
  have found := foundIn_highestSlot p ring
  constructor
  · intro h
    rw [h] at found
    exact (bestOf_all p ring).mp found
  · intro h
    have best := (bestOf_all p ring).mpr h
    cases hk : highestSlot p ring with
    | none =>
      rw [hk] at found
      obtain ⟨r, hr, pr, hi, -⟩ := best
      rw [found i hi r hr] at pr
      cases pr
    | some k =>
      rw [hk] at found
      obtain ⟨r, hr, pr, hi, most⟩ := best
      obtain ⟨x, hx, px, hk, most'⟩ := found
      obtain ⟨le, lt⟩ := most k hk x hx px
      obtain ⟨le', lt'⟩ := most' i hi r hr pr
      rcases lt_trichotomy k i with h | h | h
      · exact absurd (lt h) (Nat.not_lt.mpr le')
      · rw [h]
      · exact absurd (lt' h) (Nat.not_lt.mpr le)

/-- The search finds nothing where no record passes. -/
theorem highestSlot_none : highestSlot p ring = none ↔ ∀ i : Fin 16, ∀ x, ring[i].held = some x → p x = false := by
  have found := foundIn_highestSlot p ring
  constructor
  · intro h i x hx
    rw [h] at found
    exact found i (List.mem_finRange i) x hx
  · intro h
    cases hk : highestSlot p ring with
    | none => rfl
    | some k =>
      rw [hk] at found
      obtain ⟨r, hr, pr, -⟩ := found
      rw [h k r hr] at pr
      cases pr

end Highest

/-! ### The ring image (R149) -/

section Scan
variable (ring : Vector Slot 16)

/-- The record is OPEN. -/
abbrev openRecords : TripRecord → Bool := fun r => r.closure == .isOpen

/-- Every record. -/
abbrev everyRecord : TripRecord → Bool := fun _ => true

theorem oneOpen_of_highest_none (h : highestSlot openRecords ring = none) : oneOpen ring = ring := by
  unfold oneOpen
  rw [h]

theorem oneOpen_of_highest {k : Fin 16} (h : highestSlot openRecords ring = some k) (i : Fin 16) :
    (oneOpen ring)[i] = match ring[i].held with
      | some r => if r.closure = .isOpen ∧ i ≠ k then .damaged else ring[i]
      | none => ring[i] := by
  unfold oneOpen
  rw [h]
  exact Vector.getElem_ofFn i.isLt

/-- A slot that shows no record is left as it is. -/
theorem oneOpen_of_none {i : Fin 16} (h : ring[i].held = none) : (oneOpen ring)[i] = ring[i] := by
  cases hk : highestSlot openRecords ring with
  | none => rw [oneOpen_of_highest_none ring hk]
  | some k => rw [oneOpen_of_highest ring hk, h]

/-- A record that is not OPEN stays, and so does the newest of the OPEN ones. -/
theorem oneOpen_stays {i : Fin 16} {r : TripRecord} (h : ring[i] = .record r)
    (stays : r.closure ≠ .isOpen ∨ Newest openRecords ring i) : (oneOpen ring)[i] = .record r := by
  cases hk : highestSlot openRecords ring with
  | none => rw [oneOpen_of_highest_none ring hk, h]
  | some k =>
    have newest : Newest openRecords ring i → i = k := fun n =>
      Option.some.inj (((highestSlot_some _ ring).mpr n).symm.trans hk)
    rw [oneOpen_of_highest ring hk, h]
    exact if_neg fun both => both.2 (newest (stays.resolve_left fun closed => closed both.1))

/-- An OPEN record that is not the newest of them is damaged. -/
theorem oneOpen_damages {i : Fin 16} {r : TripRecord} (h : ring[i] = .record r) (isOpen : r.closure = .isOpen)
    (older : ¬Newest openRecords ring i) : (oneOpen ring)[i] = .damaged := by
  cases hk : highestSlot openRecords ring with
  | none =>
    have closed := (highestSlot_none openRecords ring).mp hk i r (by rw [h]; rfl)
    simp [isOpen] at closed
  | some k =>
    rw [oneOpen_of_highest ring hk, h]
    exact if_pos ⟨isOpen, fun e => older (e ▸ (highestSlot_some _ ring).mp hk)⟩

theorem isOpen_iff_held {x : Slot} : x.isOpen = true ↔ ∃ r, x.held = some r ∧ openRecords r = true := by
  cases x <;> simp [Slot.isOpen, Slot.held]

/-- The OPEN slot of the ring image is the newest of the OPEN records found. -/
theorem isOpen_oneOpen (i : Fin 16) : (oneOpen ring)[i].isOpen = true ↔ Newest openRecords ring i := by
  constructor
  · intro isOpen
    by_contra older
    cases hi : ring[i] with
    | blank => rw [oneOpen_of_none ring (by rw [hi]; rfl), hi] at isOpen; cases isOpen
    | damaged => rw [oneOpen_of_none ring (by rw [hi]; rfl), hi] at isOpen; cases isOpen
    | record r =>
      by_cases closure : r.closure = .isOpen
      · rw [oneOpen_damages ring hi closure older] at isOpen; cases isOpen
      · rw [oneOpen_stays ring hi (.inl closure)] at isOpen
        exact closure (by simpa [Slot.isOpen] using isOpen)
  · intro newest
    have held := newest
    obtain ⟨r, hr, pr, -⟩ := held
    cases hi : ring[i] with
    | blank => rw [hi] at hr; cases Option.mem_toList.mp hr
    | damaged => rw [hi] at hr; cases Option.mem_toList.mp hr
    | record x =>
      rw [hi] at hr
      cases Option.mem_toList.mp hr
      rw [oneOpen_stays ring hi (.inr newest)]
      exact pr

theorem newest_unique {p : TripRecord → Bool} {i j : Fin 16} (hi : Newest p ring i) (hj : Newest p ring j) : i = j :=
  Option.some.inj (((highestSlot_some p ring).mpr hi).symm.trans ((highestSlot_some p ring).mpr hj))

/-- The OPEN slot that a search of the ring image finds is the only OPEN one. -/
theorem openSlot_oneOpen (i : Fin 16) : openSlot (oneOpen ring) = some i ↔ (oneOpen ring)[i].isOpen = true := by
  unfold openSlot
  rw [highestSlot_some]
  constructor
  · rintro ⟨r, hr, pr, -⟩
    exact isOpen_iff_held.mpr ⟨r, Option.mem_toList.mp hr, pr⟩
  · intro h
    obtain ⟨r, hr, pr⟩ := isOpen_iff_held.mp h
    refine ⟨r, Option.mem_toList.mpr hr, pr, fun j x hx px => ?_⟩
    have other := isOpen_iff_held.mpr ⟨x, Option.mem_toList.mp hx, px⟩
    obtain rfl := newest_unique ring ((isOpen_oneOpen ring i).mp h) ((isOpen_oneOpen ring j).mp other)
    cases hr.symm.trans (Option.mem_toList.mp hx)
    exact ⟨fun above => absurd ((ranksAbove_iff _ _ _).mp above) (lt_irrefl _), fun h => absurd h (lt_irrefl i)⟩

/-- Without an OPEN record the ring image is the slots as found. -/
theorem oneOpen_of_closed (h : openSlot (oneOpen ring) = none) : oneOpen ring = ring := by
  have closed : highestSlot openRecords ring = none := by
    cases hk : highestSlot openRecords ring with
    | none => rfl
    | some k =>
      have := (openSlot_oneOpen ring k).mpr ((isOpen_oneOpen ring k).mpr ((highestSlot_some _ _).mp hk))
      rw [h] at this
      cases this
  unfold oneOpen
  rw [closed]

/-- The write sequence counter is that of the newest record found. -/
theorem newestSeq_eq {i : Fin 16} {r : TripRecord} (newest : Newest everyRecord ring i) (hr : ring[i] = .record r) :
    newestSeq ring = r.seq := by
  unfold newestSeq
  rw [(highestSlot_some everyRecord ring).mpr newest]
  dsimp only
  rw [hr]
  rfl

theorem nothing_held (h : ∀ i : Fin 16, ring[i].held = none) (p : TripRecord → Bool) : highestSlot p ring = none :=
  (highestSlot_none p ring).mpr fun i x hx => by rw [h i] at hx; cases hx

theorem newestSeq_of_none (h : ∀ i : Fin 16, ring[i].held = none) : newestSeq ring = 0 := by
  unfold newestSeq
  rw [nothing_held ring h]

/-- The current trip number is the OPEN record's. -/
theorem scanTrip_open {i : Fin 16} {r : TripRecord} (h : openSlot ring = some i) (hr : ring[i] = .record r) :
    scanTrip ring = r.trip := by
  unfold scanTrip
  rw [h]
  dsimp only
  rw [hr]
  rfl

/-- Without an OPEN record the current trip number is the newest record's. -/
theorem scanTrip_closed {i : Fin 16} {r : TripRecord} (h : openSlot ring = none) (newest : Newest everyRecord ring i)
    (hr : ring[i] = .record r) : scanTrip ring = r.trip := by
  unfold scanTrip
  rw [h, (highestSlot_some everyRecord ring).mpr newest]
  dsimp only
  rw [hr]
  rfl

theorem scanTrip_of_none (h : ∀ i : Fin 16, ring[i].held = none) : scanTrip ring = 0 := by
  unfold scanTrip openSlot
  rw [nothing_held ring h, nothing_held ring h]

/-- Damaged slots of the ring image. -/
theorem lowestDamaged_isSome : (lowestDamaged ring).isSome = true ↔ ∃ i : Fin 16, ring[i] = .damaged := by
  simp [lowestDamaged, List.find?_isSome]

end Scan

end Sys2Proof.Machine
end

section
/-! SUPPORT. All channels restarted and every zone evaluated: what the load and an activation of block 3 do to detector and voter
(R26, R28, R43). -/

namespace Sys2Proof.Machine

/-! ### Evaluations of zones without a capable member -/

/-- No zone has a member that is capable of a vote (R36). -/
def State.Incapable (s : State) : Prop :=
  ∀ z : Fin 8, (s.zoneCounts z).capableOn = 0 ∧ (s.zoneCounts z).capableStrong = 0

/-- Such a zone's evaluation leaves it without votes and BLIND, and nothing rises. -/
theorem evaluateZone_of_incapable {s : State} (h : s.Incapable) (z : Fin 8) : ∃ alert, evaluateZone z s = { s with
    voter.zones := s.voter.zones.set z ⟨s.voter.zones[z].isolated, false, false, .blind⟩, trig.alertOut := alert } := by
  unfold evaluateZone
  rw [zoneEvaluated_of_incapable (h z).1 (h z).2]
  exact ⟨_, rfl⟩

/-- The counts rest on configuration and images alone. -/
theorem incapable_zones {s : State} (h : s.Incapable) (zones : Vector Zone 8) (alert : Bool) :
    ({ s with voter.zones := zones, trig.alertOut := alert } : State).Incapable := h

/-- Every zone of a list evaluated, none of them with a capable member. -/
theorem evaluate_of_incapable (l : List (Fin 8)) {s : State} (h : s.Incapable) : ∃ zones alert,
    l.foldl (fun s z => evaluateZone z s) s = { s with voter.zones := zones, trig.alertOut := alert } ∧
    ∀ z, zones[z] = if z ∈ l then ⟨s.voter.zones[z].isolated, false, false, .blind⟩ else s.voter.zones[z] := by
  induction l generalizing s with
  | nil => exact ⟨s.voter.zones, s.trig.alertOut, rfl, fun z => by simp⟩
  | cons y l ih =>
    obtain ⟨alert, first⟩ := evaluateZone_of_incapable h y
    rw [List.foldl_cons, first]
    obtain ⟨zones, alert', rest, each⟩ := ih (incapable_zones h _ alert)
    refine ⟨zones, alert', rest, fun z => ?_⟩
    rw [each z]
    by_cases e : z = y
    · subst e
      simp
    · simp only [zones_set_other e, List.mem_cons, e, false_or]

theorem evaluateAll_of_incapable {s : State} (h : s.Incapable) : ∃ zones alert,
    evaluateAll s = { s with voter.zones := zones, trig.alertOut := alert } ∧
    ∀ z : Fin 8, zones[z] = ⟨s.voter.zones[z].isolated, false, false, .blind⟩ := by
  obtain ⟨zones, alert, e, each⟩ := evaluate_of_incapable (List.finRange 8) h
  exact ⟨zones, alert, e, fun z => by rw [each z, if_pos (List.mem_finRange z)]⟩

/-! ### Every channel restarted -/

/-- The channels restarted (R26, R28). -/
def State.restartedChannels (s : State) : Vector Channel 32 := .ofFn fun i => s.channels[i].restarted (s.mayRun i)

/-- The images of restarted channels, by which of them may run. -/
def imagesOf (runs : Fin 32 → Bool) : Vector Member 32 :=
  .ofFn fun i => ⟨if runs i then .priming else .off, false, none, none⟩

theorem imagesFromChannels_restarted (s : State) :
    imagesFromChannels { s with channels := s.restartedChannels } =
      { s with channels := s.restartedChannels, voter.members := imagesOf s.mayRun } := by
  have images : (Vector.ofFn fun c : Fin 32 => (⟨s.restartedChannels[c].state, s.restartedChannels[c].seeded, none,
      none⟩ : Member)) = imagesOf s.mayRun := by
    unfold imagesOf State.restartedChannels
    refine congrArg Vector.ofFn (funext fun c => ?_)
    simp [Channel.restarted, Channel.cleared]
  unfold imagesFromChannels
  dsimp only
  rw [images]

theorem restartAllChannels_eq (s : State) : ∃ alert, restartAllChannels s = { s with
    channels := s.restartedChannels, voter.members := imagesOf s.mayRun, trig.alertOut := alert } := by
  have restarted : restartAllChannels s = formAlert (imagesFromChannels { s with channels := s.restartedChannels }) := rfl
  rw [restarted, imagesFromChannels_restarted]
  exact ⟨_, rfl⟩

theorem incapable_of_images {s : State} {runs : Fin 32 → Bool} (h : s.voter.members = imagesOf runs) : s.Incapable := by
  have image : ∀ c : Fin 32, (s.voter.members[c]).capableOn = false ∧ (s.voter.members[c]).capableStrong = false := by
    intro c
    have each : s.voter.members[c] = ⟨if runs c then .priming else .off, false, none, none⟩ := by
      rw [h]; simp [imagesOf]
    rw [each]
    split <;> exact ⟨rfl, rfl⟩
  intro z
  unfold State.zoneCounts countsOf State.zoneMembers
  constructor <;> refine List.countP_eq_zero.mpr fun m hm => ?_ <;> obtain ⟨c, -, rfl⟩ := List.mem_map.mp hm
  · rw [(image c).1]; decide
  · rw [(image c).2]; decide

/-- Channels restarted and zones evaluated: images as the channels, zones without votes and BLIND, and but for ALERT_OUT the
rest as it was (R26, R28, R43). -/
theorem evaluateAll_restarted (s : State) : ∃ zones alert, evaluateAll (restartAllChannels s) = { s with
      channels := s.restartedChannels, voter := ⟨imagesOf s.mayRun, zones⟩, trig.alertOut := alert } ∧
    ∀ z : Fin 8, zones[z] = ⟨s.voter.zones[z].isolated, false, false, .blind⟩ := by
  obtain ⟨alert, restarted⟩ := restartAllChannels_eq s
  rw [restarted]
  generalize s.restartedChannels = channels
  obtain ⟨zones, alert', evaluated, each⟩ := evaluateAll_of_incapable (incapable_of_images (s := { s with
    channels := channels, voter.members := imagesOf s.mayRun, trig.alertOut := alert }) rfl)
  exact ⟨zones, alert', evaluated, each⟩

end Sys2Proof.Machine
end

section
/-! SUPPORT. The start-up load: the blocks copied, the ring scanned, and the site's first state (R66, R136, R149). -/

namespace Sys2Proof.Machine

/-! ### Blocks copied -/

theorem plan_copyBlock (b : Fin 4) (src dst : Blocks) (p : PlanId) :
    (copyBlock b src dst).plan p = if p.block = b then src.plan p else dst.plan p := by
  match b with
  | 0 | 1 | 2 | 3 => cases p <;> rfl

theorem site_copyBlock (b : Fin 4) (src dst : Blocks) :
    (copyBlock b src dst).site = if 3 = b then src.site else dst.site := by
  match b with
  | 0 | 1 | 2 | 3 => rfl

section Copied
variable (set : Fin 4 → Bool) (src dst : Blocks)

/-- Blocks of a set copied one after another. -/
def copied : Blocks := (List.finRange 4).foldl (fun w b => if set b then copyBlock b src w else w) dst

/-- A part of the blocks that each copy replaces where its block is the part's is the source's where that block is of the
set. -/
theorem part_copied {α : Type} {part : Blocks → α} {own : Fin 4}
    (step : ∀ b src dst, part (copyBlock b src dst) = if own = b then part src else part dst) (l : List (Fin 4)) :
    part (l.foldl (fun w b => if set b then copyBlock b src w else w) dst) =
      if own ∈ l ∧ set own = true then part src else part dst := by
  induction l generalizing dst with
  | nil => simp
  | cons b l ih =>
    rw [List.foldl_cons, ih]
    by_cases later : own ∈ l ∧ set own = true
    · rw [if_pos later, if_pos ⟨List.mem_cons_of_mem b later.1, later.2⟩]
    · rw [if_neg later]
      by_cases here : own = b
      · subst here
        cases hs : set own with
        | true => rw [if_pos rfl, step, if_pos rfl, if_pos ⟨List.mem_cons_self, rfl⟩]
        | false => simp
      · have same : part (if set b then copyBlock b src dst else dst) = part dst := by
          split
          · rw [step, if_neg here]
          · rfl
        rw [same, if_neg fun both => later ⟨(List.mem_cons.mp both.1).resolve_left here, both.2⟩]

theorem plan_copied (p : PlanId) : (copied set src dst).plan p = if set p.block then src.plan p else dst.plan p := by
  have each := part_copied set src dst (part := fun w => w.plan p) (fun b src dst => plan_copyBlock b src dst p)
    (List.finRange 4)
  simpa [copied] using each

theorem site_copied : (copied set src dst).site = if set 3 then src.site else dst.site := by
  have each := part_copied set src dst (part := fun w => w.site) site_copyBlock (List.finRange 4)
  simpa [copied] using each

end Copied

theorem loaded_eq (n : NonVolatile) : n.loaded = copied n.valid n.blocks {} := rfl

theorem plan_default (p : PlanId) : ({} : Blocks).plan p = {} := by cases p <;> rfl

/-! ### Notices -/

/-- A transition's notice is of the state it enters, and the only one (R85, R176). -/
theorem notified_raise {s y : State} (h : y.router = s.router) (st : SiteState) (level : Nat)
    (hold : Option HoldReason) :
    let t := raiseNotice none (setSite st level hold y)
    t.Notified s 1 t.currentRecord := by
  intro t
  refine ⟨rfl, ?_⟩
  have replaced : t.router.count.noticesReplaced =
      if y.router.notice.isSome then bump y.router.count.noticesReplaced else y.router.count.noticesReplaced := rfl
  rw [replaced, h]
  unfold State.replacedBy
  cases s.router.notice <;> rfl

/-! ### The first state (R66) -/

/-- The current record and trip number from the scanned ring (R66, R149). -/
def State.scanned (w : State) : State :=
  { w with site.record := openSlot w.store.ring, site.trip := scanTrip w.store.ring }

/-- The site enters a state with its notice, TRIP_OUT as given. -/
def State.entering (w : State) (st : SiteState) (level : Nat) (hold : Option HoldReason) (out : Bool) : State :=
  raiseNotice none (setSite st level hold { w.scanned with trig.tripOut := out })

/-- TRIP_OUT at the first state: a damaged slot, or an OPEN record of level 2 (R64). -/
def State.outAtEntry (w : State) : Bool :=
  w.trig.tripOut || (w.anyDamaged || (w.scanned.currentRecord.map TripRecord.level) == some 2)

section Enter
variable {w : State}

theorem enterService_invalid (h : w.store.workValid ≠ .replicate 4 true) :
    enterService w = w.entering .unconfigured 0 none w.trig.tripOut := if_neg h

theorem enterService_valid (h : w.store.workValid = .replicate 4 true) :
    enterService w = enterByRing { w.scanned with trig.tripOut := w.outAtEntry } := if_pos h

theorem enterByRing_damaged {s : State} (h : s.anyDamaged = true) :
    enterByRing s = raiseNotice none (setSite .safeHold 2 (some .recordDamaged) s) := if_pos h

theorem enterByRing_open {s : State} {i : Fin 16} {r : TripRecord} (h : s.anyDamaged = false)
    (hi : openSlot s.store.ring = some i) (hr : s.store.ring[i] = .record r) :
    enterByRing s = raiseNotice none (setSite .safeHold r.level (some .powerOnOpen) s) := by
  unfold enterByRing
  rw [h, show highestSlot (fun r => r.closure == .isOpen) s.store.ring = some i from hi]
  dsimp only
  rw [hr]
  rfl

theorem enterByRing_closed {s : State} (h : s.anyDamaged = false) (hi : openSlot s.store.ring = none) :
    enterByRing s = enterArmed none s := by
  unfold enterByRing
  rw [h, show highestSlot (fun r => r.closure == .isOpen) s.store.ring = none from hi]
  rfl

theorem enterArmed_quiet {s : State} (h : s.site.requestLevel = 0) (record : s.site.record = none) :
    enterArmed none s = raiseNotice none (setSite .armed 0 none s) := by
  have same : { s with site.record := none } = s := by
    obtain ⟨_, _, _, _, _, _, _, _, _, _, _, site, _, _, _⟩ := s
    obtain ⟨_, _, _, _, r, _, _, _, _, _⟩ := site
    cases record
    rfl
  unfold enterArmed
  rw [same]
  dsimp only
  exact if_neg (by rw [raiseNotice_site, setSite_site_requestLevel, h]; decide)

theorem enterByRing_armed {s : State} (h : s.anyDamaged = false) (hi : openSlot s.store.ring = none)
    (request : s.site.requestLevel = 0) (record : s.site.record = none) :
    enterByRing s = raiseNotice none (setSite .armed 0 none s) :=
  (enterByRing_closed h hi).trans (enterArmed_quiet request record)

/-- What the site enters by the checks of R66 in their order: state, level, hold reason and TRIP_OUT. -/
inductive EntersAs (valid : Fin 4 → Bool) (ring : Vector Slot 16) :
    SiteState → Nat → Option HoldReason → Bool → Prop
  | unconfigured {b : Fin 4} (invalid : valid b = false) : EntersAs valid ring .unconfigured 0 none false
  | damaged (all : ∀ b, valid b = true) {i : Fin 16} (slot : ring[i] = .damaged) :
    EntersAs valid ring .safeHold 2 (some .recordDamaged) true
  | powerOnOpen (all : ∀ b, valid b = true) (sound : ∀ i : Fin 16, ring[i] ≠ .damaged) {i : Fin 16} {r : TripRecord}
    (isOpen : openSlot ring = some i) (slot : ring[i] = .record r) :
    EntersAs valid ring .safeHold r.level (some .powerOnOpen) (r.level == 2)
  | armed (all : ∀ b, valid b = true) (sound : ∀ i : Fin 16, ring[i] ≠ .damaged) (closed : openSlot ring = none) :
    EntersAs valid ring .armed 0 none false

theorem anyDamaged_iff {s : State} : s.anyDamaged = true ↔ ∃ i : Fin 16, s.store.ring[i] = .damaged :=
  lowestDamaged_isSome s.store.ring

theorem record_of_openSlot {ring : Vector Slot 16} {i : Fin 16} (h : openSlot ring = some i) :
    ∃ r, ring[i] = .record r := by
  obtain ⟨r, hr, -⟩ := (highestSlot_some _ ring).mp h
  cases hi : ring[i] with
  | record r => exact ⟨r, rfl⟩
  | blank => rw [hi] at hr; cases Option.mem_toList.mp hr
  | damaged => rw [hi] at hr; cases Option.mem_toList.mp hr

theorem currentRecord_scanned {i : Fin 16} {r : TripRecord} (h : openSlot w.store.ring = some i)
    (hr : w.store.ring[i] = .record r) : w.scanned.currentRecord = some r := by
  have record : w.scanned.site.record = some i := h
  have ring : w.scanned.store.ring = w.store.ring := rfl
  unfold State.currentRecord
  rw [record]
  dsimp only
  rw [ring, hr]
  rfl

theorem currentRecord_scanned_none (h : openSlot w.store.ring = none) : w.scanned.currentRecord = none := by
  have record : w.scanned.site.record = none := h
  unfold State.currentRecord
  rw [record]

/-- The first state is entered by the checks in their order. -/
theorem enterService_enters {valid : Fin 4 → Bool} (hv : w.store.workValid = .ofFn valid) (out : w.trig.tripOut = false)
    (request : w.site.requestLevel = 0) : ∃ st level hold out, enterService w = w.entering st level hold out ∧
      EntersAs valid w.store.ring st level hold out := by
  have allValid : w.store.workValid = .replicate 4 true ↔ ∀ b, valid b = true := by
    rw [hv]
    refine ⟨fun e b => ?_, fun all => Vector.ext fun i hi => by simp [all]⟩
    have each : (Vector.ofFn valid)[b] = (Vector.replicate 4 true)[b] := by rw [e]
    simpa using each
  by_cases all : ∀ b, valid b = true
  · rw [enterService_valid (allValid.mpr all)]
    have sound : w.anyDamaged = false → ∀ i : Fin 16, w.store.ring[i] ≠ .damaged := fun none i e => by
      rw [anyDamaged_iff.mpr ⟨i, e⟩] at none; cases none
    cases damaged : w.anyDamaged with
    | true =>
      obtain ⟨i, slot⟩ := anyDamaged_iff.mp damaged
      have out : w.outAtEntry = true := by simp [State.outAtEntry, damaged]
      rw [out]
      exact ⟨_, _, _, _, enterByRing_damaged damaged, .damaged all slot⟩
    | false =>
      cases hi : openSlot w.store.ring with
      | some i =>
        obtain ⟨r, slot⟩ := record_of_openSlot hi
        have level : w.outAtEntry = (r.level == 2) := by
          simp only [State.outAtEntry, out, damaged, currentRecord_scanned hi slot, Option.map_some, Bool.false_or]
          rfl
        rw [level]
        exact ⟨_, _, _, _, enterByRing_open damaged hi slot, .powerOnOpen all (sound damaged) hi slot⟩
      | none =>
        have level : w.outAtEntry = false := by
          simp [State.outAtEntry, out, damaged, currentRecord_scanned_none hi]
        rw [level]
        exact ⟨_, _, _, _, enterByRing_armed damaged hi request hi, .armed all (sound damaged) hi⟩
  · obtain ⟨b, invalid⟩ := not_forall.mp all
    rw [enterService_invalid fun e => all (allValid.mp e), out]
    exact ⟨_, _, _, _, rfl, .unconfigured (b := b) (by simpa using invalid)⟩

end Enter

/-! ### The load -/

/-- The state that the load hands to the site state controller, but for the zones and ALERT_OUT, which follow from the
channels (R136, R26, R62). -/
def State.afterLoad (s : State) (zones : Vector Zone 8) (alert : Bool) : State :=
  let u := loadStore { s with phase := .running }
  reloadQuiet { u with channels := u.restartedChannels, voter := ⟨imagesOf u.mayRun, zones⟩, trig.alertOut := alert }

theorem completeLoad_eq (s : State) : ∃ zones alert, completeLoad s = enterService (s.afterLoad zones alert) := by
  obtain ⟨zones, alert, e, -⟩ := evaluateAll_restarted (loadStore { s with phase := .running })
  refine ⟨zones, alert, ?_⟩
  unfold completeLoad State.afterLoad
  dsimp only
  rw [e]

theorem exec_startUpLoadComplete {s : State} (h : s.phase = .loading) :
    exec .startUpLoadComplete s = .next (completeLoad s) := by
  have still : s.caughtUp = s := caughtUp_of_not_running (by rw [State.isRunning, h]; rfl)
  show execStartUpLoadComplete s = _
  unfold execStartUpLoadComplete event
  rw [still]
  dsimp only
  rw [h]

/-- What the site controller's first transition leaves of the loaded state. -/
theorem entering_leaves (w : State) (st : SiteState) (level : Nat) (hold : Option HoldReason) (out : Bool) :
    let t := w.entering st level hold out
    t.phase = w.phase ∧ t.store = w.store ∧ t.channels = w.channels ∧ t.trig.quiet = w.trig.quiet ∧
      t.trig.quietElapsed = w.trig.quietElapsed ∧ t.trig.tripOut = out ∧ t.site.state = st ∧ t.site.level = level ∧
      t.site.hold = hold ∧ t.site.record = openSlot w.store.ring ∧ t.site.trip = scanTrip w.store.ring :=
  ⟨rfl, rfl, rfl, rfl, rfl, rfl, rfl, rfl, rfl, rfl, rfl⟩

theorem notified_entering {s w : State} (h : w.router = s.router) (st : SiteState) (level : Nat)
    (hold : Option HoldReason) (out : Bool) :
    (w.entering st level hold out).Notified s 1 (w.entering st level hold out).currentRecord :=
  notified_raise (y := { w.scanned with trig.tripOut := out }) h st level hold

/-- What the load has put in place before the first state. -/
theorem afterLoad_holds {s : State} (h : ({ s with now := 0 } : State).VolatileReset) (zones : Vector Zone 8) (alert : Bool) :
    let w := s.afterLoad zones alert
    w.phase = .running ∧ w.store.work = s.nv.loaded ∧ w.store.shadow = s.nv.loaded ∧
      w.store.workValid = .ofFn s.nv.valid ∧ w.store.shadowValid = .ofFn s.nv.valid ∧
      (∀ b : Fin 4, w.store.cond[b] = if s.nv.valid b then .valid else .invalid) ∧
      w.store.activeProtection = s.nv.protection.active ∧ w.store.ring = scanRing s.nv.ring ∧
      w.store.writeSeq = scanSeq s.nv.ring ∧
      (∀ i : Fin 32, w.channels[i].seeded = false ∧
        w.channels[i].state = if s.nv.loaded.site.channels[i].enabled then .priming else .off) ∧
      w.trig.quiet = some (s.nv.loaded.site.site.q * 1000) ∧ w.trig.quietElapsed = false ∧
      w.trig.tripOut = false ∧ w.site.requestLevel = 0 ∧ w.router = s.router := by
  have trig : s.trig = {} := h.trig
  have site : s.site = {} := h.site
  have voter : s.voter = {} := h.voter
  refine ⟨rfl, rfl, rfl, rfl, rfl, fun b => ?_, rfl, rfl, rfl, fun i => ?_, rfl, rfl, ?_, ?_, rfl⟩
  · show (Vector.ofFn fun b => if s.nv.valid b then BlockCond.valid else .invalid)[b] = _
    simp
  · have runs : (loadStore { s with phase := .running }).mayRun i = s.nv.loaded.site.channels[i].enabled := by
      unfold State.mayRun
      have zone : ∀ z : Fin 8, (loadStore { s with phase := .running }).voter.zones[z].isolated = false := by
        intro z
        show s.voter.zones[z].isolated = false
        rw [voter]
        simp
      split
      · rw [zone, Bool.not_false, Bool.and_true]; rfl
      · rw [Bool.and_true]; rfl
    have each : (s.afterLoad zones alert).channels[i] =
        s.channels[i].restarted ((loadStore { s with phase := .running }).mayRun i) := by
      show (State.restartedChannels _)[i] = _
      simp only [State.restartedChannels, Fin.getElem_fin, Vector.getElem_ofFn]
      rfl
    rw [each, runs]
    exact ⟨rfl, rfl⟩
  · show s.trig.tripOut = false
    rw [trig]
  · show s.site.requestLevel = 0
    rw [site]

end Sys2Proof.Machine
end

section
/-! SUPPORT. The ring image against the non-volatile ring, slot by slot; and the start-up load as a whole (R66, R149). -/

namespace Sys2Proof.Machine

section Slots
variable (ring : Vector Slot 16)

theorem foundRing_get (i : Fin 16) : (foundRing ring)[i] = Slot.found ring[i] := by simp [foundRing]

/-- Each slot of the ring image by what the non-volatile slot holds (R149). -/
theorem scanRing_slots (i : Fin 16) :
    (ring[i] = .blank → (scanRing ring)[i] = .blank) ∧ (ring[i] = .damaged → (scanRing ring)[i] = .damaged) ∧
    (∀ r, ring[i] = .record r → r.crc ≠ crc16 r.fields → (scanRing ring)[i] = .damaged) ∧
    (∀ r, ring[i] = .record r → r.crc = crc16 r.fields →
      (r.closure ≠ .isOpen ∨ Newest openRecords (foundRing ring) i → (scanRing ring)[i] = .record r) ∧
      (r.closure = .isOpen → ¬Newest openRecords (foundRing ring) i → (scanRing ring)[i] = .damaged)) := by
  have unheld : ∀ x : Slot, Slot.found ring[i] = x → x.held = none → (scanRing ring)[i] = x := fun x e none => by
    have slot : (foundRing ring)[i] = x := (foundRing_get ring i).trans e
    exact (oneOpen_of_none _ (by rw [slot, none])).trans slot
  refine ⟨fun e => unheld _ (by rw [e]; rfl) rfl, fun e => unheld _ (by rw [e]; rfl) rfl,
    fun r e bad => unheld _ (by rw [e, Slot.found_record]; exact if_neg bad) rfl, fun r e good => ?_⟩
  have slot : (foundRing ring)[i] = .record r := by
    rw [foundRing_get, e, Slot.found_record]
    exact if_pos good
  exact ⟨oneOpen_stays _ slot, oneOpen_damages _ slot⟩

/-- Write sequence counter and trip number by the slots as found (R149). -/
theorem scan_numbers :
    (∀ i r, Newest everyRecord (foundRing ring) i → (foundRing ring)[i] = .record r → scanSeq ring = r.seq) ∧
    ((∀ i : Fin 16, (foundRing ring)[i].held = none) → scanSeq ring = 0 ∧ scanTrip (scanRing ring) = 0) ∧
    (∀ i : Fin 16, openSlot (scanRing ring) = some i ↔ (scanRing ring)[i].isOpen = true) ∧
    (∀ i r, openSlot (scanRing ring) = some i → (scanRing ring)[i] = .record r → scanTrip (scanRing ring) = r.trip) ∧
    (∀ i r, openSlot (scanRing ring) = none → Newest everyRecord (foundRing ring) i → (foundRing ring)[i] = .record r →
      scanTrip (scanRing ring) = r.trip) := by
  refine ⟨fun i r newest slot => newestSeq_eq _ newest slot, fun none => ⟨newestSeq_of_none _ none, ?_⟩,
    openSlot_oneOpen _, fun i r isOpen slot => scanTrip_open _ isOpen slot, fun i r closed newest slot => ?_⟩
  · have image : scanRing ring = foundRing ring := oneOpen_of_highest_none _ (nothing_held _ none _)
    rw [image]
    exact scanTrip_of_none _ none
  · have image : scanRing ring = foundRing ring := oneOpen_of_closed _ closed
    rw [image] at closed ⊢
    exact scanTrip_closed _ closed newest slot

end Slots

/-- Settles O7: what the load puts in place, what the scan of the ring finds, and the first state by the checks in order. -/
theorem startUpLoadEntersServiceByTheStore : Obligations.StartUpLoadEntersServiceByTheStore := by
  unfold Obligations.StartUpLoadEntersServiceByTheStore
  intro s loading reset found isOpen any
  have foundEq : found = foundRing s.nv.ring := by
    refine congrArg s.nv.ring.map (funext fun x => ?_)
    cases x <;> rfl
  clear_value found
  subst foundEq
  obtain ⟨zones, alert, done⟩ := completeLoad_eq s
  obtain ⟨running, work, shadow, workValid, shadowValid, cond, active, ring, seq, channels, quiet, elapsed, tripOut,
    request, router⟩ := afterLoad_holds reset zones alert
  generalize s.afterLoad zones alert = w at *
  obtain ⟨st, level, hold, out, enters, as⟩ := enterService_enters workValid tripOut request
  obtain ⟨tPhase, tStore, tChannels, tQuiet, tElapsed, tOut, tState, tLevel, tHold, tRecord, tTrip⟩ :=
    entering_leaves w st level hold out
  have notified : (w.entering st level hold out).Notified s 1 (w.entering st level hold out).currentRecord :=
    notified_entering router st level hold out
  have executed := (exec_startUpLoadComplete loading).trans (congrArg Host.Outcome.next (done.trans enters))
  obtain ⟨newestSeq, nothing, theOpen, openTrip, closedTrip⟩ := scan_numbers s.nv.ring
  generalize w.entering st level hold out = t at *
  rw [ring] at tRecord tTrip
  refine ⟨t, executed, tPhase.trans running, by rw [tStore, work], by rw [tStore, shadow], fun b => ?_,
    fun b => by rw [tStore, cond], valid_iff s.nv, fun p => ?_, ?_, by rw [tStore, active], by rw [tStore, ring],
    fun i => by rw [tStore, ring]; exact scanRing_slots s.nv.ring i, fun i r newest slot => ?_, fun none => ?_,
    fun i => ?_, fun i r here slot => ?_, fun i r none newest slot => ?_, fun i => ?_, by rw [tQuiet, quiet],
    by rw [tElapsed, elapsed], notified, ?_⟩
  · rw [tStore, workValid, shadowValid]
    simp
  · rw [tStore, work, loaded_eq, plan_copied, plan_default]
  · rw [tStore, work, loaded_eq, site_copied]
  · rw [tStore, seq]
    exact newestSeq i r newest slot
  · rw [tStore, seq, tTrip]
    exact nothing none
  · rw [tRecord, tStore, ring]
    exact theOpen i
  · rw [tRecord] at here
    rw [tStore, ring] at slot
    rw [tTrip]
    exact openTrip i r here slot
  · rw [tRecord] at none
    rw [tTrip]
    exact closedTrip i r none newest slot
  · rw [tChannels]
    exact channels i
  · rw [tState, tLevel, tHold, tOut, tRecord, tStore]
    rw [ring] at as ⊢
    cases as with
    | @unconfigured b invalid =>
      rw [if_pos ⟨b, invalid⟩]
      exact ⟨rfl, rfl, rfl, rfl⟩
    | @damaged all i slot =>
      have valid : ¬∃ b : Fin 4, s.nv.valid b = false := fun ⟨b, h⟩ => by rw [all b] at h; cases h
      rw [if_neg valid, if_pos ⟨i, slot⟩]
      exact ⟨rfl, rfl, rfl, rfl⟩
    | @powerOnOpen all sound i r isOpen slot =>
      have valid : ¬∃ b : Fin 4, s.nv.valid b = false := fun ⟨b, h⟩ => by rw [all b] at h; cases h
      have undamaged : ¬∃ i : Fin 16, (scanRing s.nv.ring)[i] = .damaged := fun ⟨i, h⟩ => sound i h
      rw [if_neg valid, if_neg undamaged, isOpen]
      exact ⟨rfl, rfl, r, slot, rfl, by simp⟩
    | armed all sound closed =>
      have valid : ¬∃ b : Fin 4, s.nv.valid b = false := fun ⟨b, h⟩ => by rw [all b] at h; cases h
      have undamaged : ¬∃ i : Fin 16, (scanRing s.nv.ring)[i] = .damaged := fun ⟨i, h⟩ => sound i h
      rw [if_neg valid, if_neg undamaged, closed]
      exact ⟨rfl, rfl, rfl, rfl⟩

end Sys2Proof.Machine
end

section
/-! SUPPORT. What the site controller's transitions leave: the trigger unit but for ALERT_OUT, the pending activation and the copy
of the request level; and what a rise of feed_stable hands over (R65, R73, R102). -/

namespace Sys2Proof.Machine

/-! ### What no transition touches -/

/-- The trigger unit but for ALERT_OUT, the pending activation and the copy of the request level. -/
def State.steady (s : State) : Trigger × Bool × Nat :=
  (s.besideAlert, s.site.activationPending, s.site.requestLevel)

section Steady
variable (s : State)

theorem steady_of_noRunner {s t : State} (h : t.noRunner = s.noRunner) : t.steady = s.steady :=
  (congrArg State.steady h : t.noRunner.steady = s.noRunner.steady)

@[simp] theorem steady_setSite (st : SiteState) (l : Nat) (h : Option HoldReason) :
    (setSite st l h s).steady = s.steady := rfl

@[simp] theorem steady_raiseNotice (o : Option TripRecord) : (raiseNotice o s).steady = s.steady := rfl

@[simp] theorem steady_changeRecord (i : Fin 16) (r : TripRecord) : (changeRecord i r s).steady = s.steady := by
  unfold changeRecord requestWrite
  dsimp only
  split <;> rfl

@[simp] theorem steady_updateRecord (f : TripRecord → TripRecord) : (updateRecord f s).steady = s.steady := by
  unfold updateRecord
  split
  · exact steady_changeRecord ..
  · rfl

@[simp] theorem steady_openRecord (level : Nat) : (openRecord level s).steady = s.steady := by
  unfold openRecord
  dsimp only
  rw [steady_changeRecord]
  rfl

@[simp] theorem steady_startPlan (p : PlanId) : (startPlan p s).1.steady = s.steady := steady_of_noRunner (by simp)

@[simp] theorem steady_abandonRun : (abandonRun s).steady = s.steady := steady_of_noRunner (by simp)

@[simp] theorem steady_markTripPending (level : Nat) : (markTripPending level s).steady = s.steady := by
  unfold markTripPending
  split <;> rfl

@[simp] theorem steady_shutdownEnded (r : Report) : (shutdownEnded r s).steady = s.steady := by simp [shutdownEnded]

@[simp] theorem steady_enterShutting (level : Nat) : (enterShutting level s).steady = s.steady := by
  unfold enterShutting
  dsimp only
  split <;> simp

@[simp] theorem steady_tripSite (level : Nat) : (tripSite level s).steady = s.steady := by simp [tripSite]

@[simp] theorem steady_closeRecord (c : Closure) : (closeRecord c s).steady = s.steady := by simp [closeRecord]

@[simp] theorem steady_takeRise (level : Nat) : (takeRise level s).steady = s.steady := by
  unfold takeRise
  split
  · rfl
  · simp
  · split <;> simp [escalate, escalateRecord]
  · split <;> simp [fastFromHold, escalateRecord]
  · simp [abortByRise]

@[simp] theorem steady_enterArmed (closed : Option TripRecord) : (enterArmed closed s).steady = s.steady := by
  unfold enterArmed
  dsimp only
  split
  · rw [steady_tripSite]; rfl
  · rfl

@[simp] theorem steady_restartCompleted (failed : Nat) : (restartCompleted failed s).steady = s.steady := by
  have left : ∀ u : State, (leaveRecord failed u).steady = u.steady := fun _ => rfl
  unfold restartCompleted
  dsimp only
  split <;> simp [left]

@[simp] theorem steady_takeCompletion (r : Report) : (takeCompletion r s).steady = s.steady := by
  unfold takeCompletion
  split
  · simp
  · split <;> simp [restartHalted]
  · rfl
  · rfl
  · rfl

@[simp] theorem steady_enterByRing : (enterByRing s).steady = s.steady := by
  unfold enterByRing
  split
  · simp
  · split
    · split <;> simp
    · simp

end Steady

section Fields
variable {s t : State} (h : t.steady = s.steady)
include h

theorem besideAlert_of_steady : t.besideAlert = s.besideAlert := congrArg Prod.fst h
theorem activationPending_of_steady : t.site.activationPending = s.site.activationPending := congrArg (fun u => u.2.1) h
theorem requestLevel_of_steady : t.site.requestLevel = s.site.requestLevel := congrArg (fun u => u.2.2) h

end Fields

/-- The forming of the request leaves a pending activation. -/
theorem activationPending_formRequest (s : State) :
    (formRequest s).site.activationPending = s.site.activationPending := by
  unfold formRequest takeRequest
  dsimp only
  split
  · rfl
  · split
    · rw [activationPending_of_steady (steady_takeRise ..)]
    · rfl

/-! ### A rise of feed_stable (R102) -/

/-- None of the steps has failed. -/
def NoneFailed (just : List (Fin 64)) (s : State) : Prop := ∀ i ∈ just, (s.stepAt i).state ≠ .failed

theorem stepAt_moveStep (i j : Fin 64) (st : Lifecycle) (timer : Option Nat) (s : State) :
    ((moveStep i st timer s).stepAt j).state = if j = i then st else (s.stepAt j).state := by
  show ((s.runner.steps.set i ⟨st, s.now, timer, none⟩)[j]).state = _
  by_cases e : j = i
  · subst e; simp
  · have ne : i.val ≠ j.val := fun k => e (Fin.ext k.symm)
    simp [e, Vector.getElem_set_ne _ _ ne, State.stepAt]

/-- Steps that have not failed have not when one of them moves to another state than FAILED. -/
theorem NoneFailed.move {just : List (Fin 64)} {s : State} (h : NoneFailed just s) {i : Fin 64} {st : Lifecycle}
    (ne : st ≠ .failed) (timer : Option Nat) : NoneFailed just (moveStep i st timer s) := by
  intro j hj
  rw [stepAt_moveStep]
  split
  · exact ne
  · exact h j hj

theorem noneFailed_releaseAt {acc : State × List (Fin 64)} (h : NoneFailed acc.2 acc.1) (i : Fin 64) :
    NoneFailed (releaseAt acc i).2 (releaseAt acc i).1 := by
  unfold releaseAt
  dsimp only
  split
  · split
    · have moved := h.move (i := i) (st := .already) (by decide) none
      intro j hj
      rcases List.mem_append.mp hj with hj | hj
      · exact moved j hj
      · rw [List.mem_singleton.mp hj, stepAt_moveStep, if_pos rfl]; decide
    · exact h.move (by decide) none
  · exact h

theorem noneFailed_released (l : List (Fin 64)) {acc : State × List (Fin 64)} (h : NoneFailed acc.2 acc.1) :
    NoneFailed (l.foldl releaseAt acc).2 (l.foldl releaseAt acc).1 := by
  induction l generalizing acc with
  | nil => exact h
  | cons i l ih => exact ih (noneFailed_releaseAt h i)

/-- Where no step has failed, none escalates. -/
theorem escalates_of_noneFailed {just : List (Fin 64)} {s : State} (h : NoneFailed just s) : s.escalates just = false := by
  have none : just.any (s.failedWith .escalate) = false := by
    rw [List.any_eq_false]
    intro i hi
    simp [State.failedWith, h i hi]
  unfold State.escalates
  rw [none, Bool.and_false]

theorem settle_of_noneFailed {just : List (Fin 64)} {s : State} (h : NoneFailed just s) :
    (settle just s).2.escalation = false := by
  unfold settle
  split
  · split
    · exact escalates_of_noneFailed fun i hi => h i (List.mem_of_mem_filter hi)
    · dsimp only
      split <;> exact escalates_of_noneFailed h
  · rfl

theorem takeFeedRise_escalation (s : State) : (takeFeedRise s).2.escalation = false := by
  have released := noneFailed_released (List.finRange 64) (acc := (s, [])) fun _ h => by cases h
  unfold takeFeedRise
  dsimp only
  exact settle_of_noneFailed released

/-- A rise of feed_stable can end the run, and nothing else comes of it. -/
theorem runEvent_feedRise (s : State) : ∃ u, u.noRunner = s.noRunner ∧
    (runEvent takeFeedRise s = u ∨ ∃ r, runEvent takeFeedRise s = takeCompletion r u) := by
  refine ⟨(takeFeedRise s).1, noRunner_takeFeedRise s, ?_⟩
  have none := takeFeedRise_escalation s
  unfold runEvent takeHandOver
  dsimp only
  rw [none]
  cases (takeFeedRise s).2.report with
  | none => exact .inl rfl
  | some r => exact .inr ⟨r, rfl⟩

theorem steady_feedRises (s : State) :
    (feedRises s).steady = ({ s with trig.feedStable := true, trig.feedStart := none } : State).steady := by
  unfold feedRises
  obtain ⟨u, same, e | ⟨r, e⟩⟩ := runEvent_feedRise { s with trig.feedStable := true, trig.feedStart := none }
  · rw [e]; exact steady_of_noRunner same
  · rw [e, steady_takeCompletion]; exact steady_of_noRunner same

end Sys2Proof.Machine
end

section
/-! SUPPORT. An activation: the blocks reloaded, the tables taken, and the site's first state out of UNCONFIGURED (R67, R142). -/

namespace Sys2Proof.Machine

/-! ### The stages before the site's first state -/

section Reload
variable (s : State)

theorem work_reloadAwaiting : (reloadAwaiting s).store.work = copied (fun b => s.store.awaiting[b]) s.nv.blocks s.store.work :=
  rfl

theorem workValid_reloadAwaiting (b : Fin 4) :
    (reloadAwaiting s).store.workValid[b] = (s.store.workValid[b] || s.store.awaiting[b]) := by
  simp [reloadAwaiting]

/-- The run record says where an ended run's plan has changed (R112). -/
theorem markConfigurationChanged_eq (set : Vector Bool 4) : markConfigurationChanged set s = { s with
    runner.run.cfgChanged := s.runner.run.cfgChanged || (s.runner.run.status != .running &&
      (s.runner.run.plan.map fun p => set[p.block]).getD false) } := by
  unfold markConfigurationChanged
  cases plan : s.runner.run.plan with
  | none => simp
  | some p =>
    dsimp only
    by_cases changed : set[p.block] = true ∧ (!s.runIsOn) = true
    · have ended : (s.runner.run.status != .running) = true := changed.2
      rw [if_pos changed, Option.map_some, Option.getD_some, changed.1, ended, Bool.and_self, Bool.or_true]
    · have none : (s.runner.run.status != .running && set[p.block]) = false := by
        rw [Bool.and_comm]
        exact Bool.eq_false_iff.mpr fun both => changed ((Bool.and_eq_true _ _).mp both)
      rw [if_neg changed, Option.map_some, Option.getD_some, none, Bool.or_false]

end Reload

/-- What the activation brings before the site leaves UNCONFIGURED. -/
def State.activated (s : State) : State :=
  markConfigurationChanged s.store.awaiting
    (if s.store.awaiting[(3 : Fin 4)] then takeTables s.tables (reloadAwaiting s) else reloadAwaiting s)

theorem activate_eq (s : State) : activate s = leaveUnconfigured s.activated := rfl

theorem leaveUnconfigured_stays {s : State} (h : ¬(s.site.state = .unconfigured ∧ s.store.workValid = .replicate 4 true)) :
    leaveUnconfigured s = s := if_neg h

theorem leaveUnconfigured_leaves {s : State} (h : s.site.state = .unconfigured)
    (h' : s.store.workValid = .replicate 4 true) : leaveUnconfigured s = enterByRing s := if_pos ⟨h, h'⟩

theorem steady_leaveUnconfigured (s : State) : (leaveUnconfigured s).steady = s.steady := by
  unfold leaveUnconfigured
  split
  · exact steady_enterByRing s
  · rfl

theorem fixed_leaveUnconfigured (s : State) : (leaveUnconfigured s).fixed = s.fixed := by
  unfold leaveUnconfigured
  split
  · exact fixed_enterByRing s
  · rfl

theorem steady_markConfigurationChanged (set : Vector Bool 4) (s : State) :
    (markConfigurationChanged set s).steady = s.steady := by
  rw [markConfigurationChanged_eq]; rfl

theorem fixed_markConfigurationChanged (set : Vector Bool 4) (s : State) :
    (markConfigurationChanged set s).fixed = s.fixed := by
  rw [markConfigurationChanged_eq]; rfl

/-! ### The new tables -/

/-- Router, detector and zone voter have taken the new tables; the zones and ALERT_OUT follow from the channels. -/
def State.restaged (s : State) (old : SiteTables) (zones : Vector Zone 8) (alert : Bool) : State :=
  let a := routerTakesTables old s
  { a with channels := a.restartedChannels, voter := ⟨imagesOf a.mayRun, zones⟩, trig.alertOut := alert }

theorem takeTables_eq (old : SiteTables) (s : State) : ∃ zones alert,
    takeTables old s = formRequest (formRemote (feedTakesTables (s.restaged old zones alert))) ∧
    ∀ z : Fin 8, zones[z] = ⟨s.voter.zones[z].isolated, false, false, .blind⟩ := by
  obtain ⟨zones, alert, e, each⟩ := evaluateAll_restarted (routerTakesTables old s)
  refine ⟨zones, alert, ?_, each⟩
  unfold takeTables State.restaged
  dsimp only
  rw [e]

/-! ### The feed dwell and the REMOTE conditions judged afresh -/

/-- A flag set where its condition rises. -/
theorem latched_setFlag_if (rises : Bool) (i : Fin 24) (s : State) :
    (if rises then setFlag i s else s).Latched s fun j => decide (j = i) && rises := by
  cases rises with
  | false => exact (State.Latched.of_same rfl rfl rfl rfl).congr fun _ => (Bool.and_false _).symm
  | true => exact (latched_setFlag i s).congr fun _ => (Bool.and_true _).symm

theorem latched_formRequest_if (forms : Bool) (s : State) :
    (if forms then formRequest s else s).Latched s fun _ => false := by
  cases forms with
  | false => exact State.Latched.of_same rfl rfl rfl rfl
  | true => exact latched_formRequest s

/-- The forming of the REMOTE conditions latches those that rise (R50, R60). -/
theorem latched_formRemote (s : State) : (formRemote s).Latched { s with
      trig.remoteSevere := s.anyWarning s.params.classL2, trig.remoteModerate := s.anyWarning s.params.classL1 } fun i =>
    (decide (i = srcSevere) && (s.anyWarning s.params.classL2 && !s.trig.remoteSevere)) ||
      (decide (i = srcModerate) && (s.anyWarning s.params.classL1 && !s.trig.remoteModerate)) := by
  have flagged := (latched_setFlag_if (s.anyWarning s.params.classL1 && !s.trig.remoteModerate) srcModerate _).trans
    (latched_setFlag_if (s.anyWarning s.params.classL2 && !s.trig.remoteSevere) srcSevere { s with
      trig.remoteSevere := s.anyWarning s.params.classL2, trig.remoteModerate := s.anyWarning s.params.classL1 })
  exact ((latched_formAlert _).trans ((latched_formRequest_if _ _).trans flagged)).congr fun i => by
    rw [Bool.or_false, Bool.or_false]

end Sys2Proof.Machine
end

section
/-! SUPPORT. An activation's outcome: what it leaves when block 3 does not await it, and channels, zones, nodes, conditions, flags
and request when it does (R28, R43, R50, R56, R142, R167). -/

namespace Sys2Proof.Machine

/-! ### Feed dwell and REMOTE conditions by the new parameters -/

/-- The feed dwell and the REMOTE conditions judged (R50, R56). -/
def State.judged (s : State) : State := { s with
  trig.feedStable := s.feedDue || s.trig.feedStable
  trig.feedStart := if s.feedDue then none else s.trig.feedStart
  trig.remoteSevere := s.anyWarning s.params.classL2
  trig.remoteModerate := s.anyWarning s.params.classL1 }

theorem store_judged (s : State) : s.judged.store = s.store := by unfold State.judged; rfl
theorem nv_judged (s : State) : s.judged.nv = s.nv := by unfold State.judged; rfl

theorem store_restaged (s : State) (old : SiteTables) (zones : Vector Zone 8) (alert : Bool) :
    (s.restaged old zones alert).store = s.store := by simp only [State.restaged, routerTakesTables]

theorem nv_restaged (s : State) (old : SiteTables) (zones : Vector Zone 8) (alert : Bool) :
    (s.restaged old zones alert).nv = s.nv := by simp only [State.restaged, routerTakesTables]

/-- The conditions that judging them makes rise. -/
def State.remoteRises (s : State) (i : Fin 24) : Bool :=
  (decide (i = srcSevere) && (s.anyWarning s.params.classL2 && !s.trig.remoteSevere)) ||
    (decide (i = srcModerate) && (s.anyWarning s.params.classL1 && !s.trig.remoteModerate))

theorem feedTakesTables_of_not_due {s : State} (h : s.feedDue = false) : feedTakesTables s = s := by
  unfold feedTakesTables; rw [h]; exact if_neg Bool.false_ne_true

theorem feedTakesTables_of_due {s : State} (h : s.feedDue = true) : feedTakesTables s = feedRises s := by
  unfold feedTakesTables; rw [h]; exact if_pos rfl

/-- The state whose feed has been judged: `fixed` and `steady` of the state that the forming of the conditions begins with. -/
theorem feedTakesTables_keeps (s : State) : let u : State := { s with
      trig.feedStable := s.feedDue || s.trig.feedStable
      trig.feedStart := if s.feedDue then none else s.trig.feedStart }
    (feedTakesTables s).fixed = u.fixed ∧ (feedTakesTables s).steady = u.steady := by
  cases due : s.feedDue with
  | false => rw [feedTakesTables_of_not_due due]; exact ⟨rfl, rfl⟩
  | true => rw [feedTakesTables_of_due due]; exact ⟨fixed_feedRises s, steady_feedRises s⟩

/-- The forming of the conditions depends on the warnings and the parameters alone. -/
theorem anyWarning_congr {s t : State} (h : t.trig.warnings = s.trig.warnings) (c : Nat) :
    t.anyWarning c = s.anyWarning c := by
  unfold State.anyWarning; rw [h]

theorem fixed_takesFeed (s : State) : (formRequest (formRemote (feedTakesTables s))).fixed = s.judged.fixed := by
  obtain ⟨fixed, -⟩ := feedTakesTables_keeps s
  have warnings := warnings_of_fixed fixed
  have params := params_of_fixed fixed
  rw [fixed_formRequest, fixed_formRemote, fixed, anyWarning_congr warnings, anyWarning_congr warnings, params]
  rfl

theorem flags_takesFeed (s : State) (i : Fin 24) :
    (formRequest (formRemote (feedTakesTables s))).trig.flags[i] = (s.trig.flags[i] || s.remoteRises i) := by
  obtain ⟨fixed, steady⟩ := feedTakesTables_keeps s
  have same := besideAlert_of_steady steady
  have warnings := warnings_of_fixed fixed
  have params := params_of_fixed fixed
  have flags : (feedTakesTables s).trig.flags = s.trig.flags := (congrArg Trigger.flags same :)
  have severe : (feedTakesTables s).trig.remoteSevere = s.trig.remoteSevere := (congrArg Trigger.remoteSevere same :)
  have moderate : (feedTakesTables s).trig.remoteModerate = s.trig.remoteModerate := (congrArg Trigger.remoteModerate same :)
  have latched := (latched_formRemote (feedTakesTables s)).flags i
  rw [flags_formRequest, latched, anyWarning_congr warnings, anyWarning_congr warnings, params, severe, moderate, flags]
  rfl

theorem activationPending_setFlag (i : Fin 24) (s : State) :
    (setFlag i s).site.activationPending = s.site.activationPending := by
  unfold setFlag; split <;> rfl

theorem activationPending_formRemote (s : State) :
    (formRemote s).site.activationPending = s.site.activationPending := by
  have forms : ∀ (rises : Bool) (u : State),
      (if rises then formRequest u else u).site.activationPending = u.site.activationPending := fun rises u => by
    cases rises with
    | false => rfl
    | true => exact activationPending_formRequest u
  have sets : ∀ (rises : Bool) (i : Fin 24) (u : State),
      (if rises then setFlag i u else u).site.activationPending = u.site.activationPending := fun rises i u => by
    cases rises with
    | false => rfl
    | true => exact activationPending_setFlag i u
  exact (forms _ _).trans ((sets _ _ _).trans (sets _ _ _))

theorem activationPending_takesFeed (s : State) :
    (formRequest (formRemote (feedTakesTables s))).site.activationPending = s.site.activationPending := by
  obtain ⟨-, steady⟩ := feedTakesTables_keeps s
  rw [activationPending_formRequest, activationPending_formRemote, activationPending_of_steady steady]

/-- Request level and cause are those that would be formed afresh. -/
def State.RequestFormed (s : State) : Prop := s.trig.requestLevel = s.requestLevelNow ∧ s.trig.cause = s.causeNow

theorem requestFormed_formRequest (s : State) : (formRequest s).RequestFormed := by
  obtain ⟨level, cause⟩ := requestNow_formRequest s
  have trig := besideAlert_formRequest s
  exact ⟨((congrArg Trigger.requestLevel trig :)).trans level.symm, ((congrArg Trigger.cause trig :)).trans cause.symm⟩

theorem State.RequestFormed.of_kept {s t : State} (h : s.RequestFormed) (trig : t.besideAlert = s.besideAlert)
    (fixed : t.fixed = s.fixed) : t.RequestFormed := by
  obtain ⟨level, cause⟩ := requestNow_congr (s := s) (t := t) ((congrArg Trigger.flags trig :))
    ((congrArg Trigger.forcedLevel trig :)) (tables_of_fixed fixed)
  obtain ⟨hl, hc⟩ := h
  exact ⟨((congrArg Trigger.requestLevel trig :)).trans (hl.trans level.symm),
    ((congrArg Trigger.cause trig :)).trans (hc.trans cause.symm)⟩

/-! ### The activation, by whether block 3 awaited it -/

section Activation
variable {s : State}

theorem fixed_activate (s : State) : (activate s).fixed = s.activated.fixed := fixed_leaveUnconfigured s.activated

theorem steady_activate (s : State) : (activate s).steady = s.activated.steady := steady_leaveUnconfigured s.activated

theorem activated_without (h : s.store.awaiting[(3 : Fin 4)] = false) :
    s.activated = markConfigurationChanged s.store.awaiting (reloadAwaiting s) := by
  unfold State.activated
  rw [if_neg (by rw [h]; exact Bool.false_ne_true)]

theorem activated_with (h : s.store.awaiting[(3 : Fin 4)] = true) :
    s.activated = markConfigurationChanged s.store.awaiting (takeTables s.tables (reloadAwaiting s)) := by
  unfold State.activated
  rw [if_pos h]

/-- Where block 3 does not await, the blocks that do are reloaded and nothing else that a cascade leaves changes. -/
theorem fixed_activate_without (h : s.store.awaiting[(3 : Fin 4)] = false) :
    (activate s).fixed = (reloadAwaiting s).fixed := by
  rw [fixed_activate, activated_without h, fixed_markConfigurationChanged]

/-- Outside UNCONFIGURED, where block 3 does not await: the whole state. -/
theorem activate_without (h : s.store.awaiting[(3 : Fin 4)] = false) (out : s.site.state ≠ .unconfigured) :
    activate s = markConfigurationChanged s.store.awaiting (reloadAwaiting s) := by
  have stays : ¬((markConfigurationChanged s.store.awaiting (reloadAwaiting s)).site.state = .unconfigured ∧
      (markConfigurationChanged s.store.awaiting (reloadAwaiting s)).store.workValid = .replicate 4 true) := by
    rw [markConfigurationChanged_eq]; exact fun both => out both.1
  rw [activate_eq, activated_without h, leaveUnconfigured_stays stays]

/-- Where block 3 awaits: all that a cascade leaves is that of the state whose tables, channels and zones are the new ones,
judged by the new parameters; conditions that rise are latched, and the request is formed. -/
theorem activate_with (h : s.store.awaiting[(3 : Fin 4)] = true) : ∃ zones alert,
    let b := (reloadAwaiting s).restaged s.tables zones alert
    (∀ z : Fin 8, zones[z] = ⟨s.voter.zones[z].isolated, false, false, .blind⟩) ∧
    (activate s).fixed = b.judged.fixed ∧ (activate s).site.activationPending = false ∧
    (∀ i : Fin 24, (activate s).trig.flags[i] = (b.trig.flags[i] || b.remoteRises i)) ∧ (activate s).RequestFormed := by
  obtain ⟨zones, alert, e, each⟩ := takeTables_eq s.tables (reloadAwaiting s)
  refine ⟨zones, alert, each, ?_⟩
  generalize hb : (reloadAwaiting s).restaged s.tables zones alert = b at e
  have pending : b.site.activationPending = false := by rw [← hb]; rfl
  have fixed : (activate s).fixed = (formRequest (formRemote (feedTakesTables b))).fixed := by
    rw [fixed_activate, activated_with h, fixed_markConfigurationChanged, e]
  have steady : (activate s).steady = (formRequest (formRemote (feedTakesTables b))).steady := by
    rw [steady_activate, activated_with h, steady_markConfigurationChanged, e]
  have trig := besideAlert_of_steady steady
  refine ⟨fixed.trans (fixed_takesFeed b), ?_, fun i => ?_, (requestFormed_formRequest _).of_kept trig fixed⟩
  · rw [activationPending_of_steady steady, activationPending_takesFeed, pending]
  · have flags : (activate s).trig.flags = (formRequest (formRemote (feedTakesTables b))).trig.flags :=
      (congrArg Trigger.flags trig :)
    rw [flags, flags_takesFeed]

/-- What the activation does to the store, whichever blocks await. -/
theorem store_of_activate (s : State) : let t := activate s
    t.store.work = (reloadAwaiting s).store.work ∧ t.store.workValid = (reloadAwaiting s).store.workValid ∧
    t.store.awaiting = .replicate 4 false ∧ t.store.shadow = s.store.shadow ∧
    t.store.shadowValid = s.store.shadowValid ∧ t.nv = s.nv ∧ t.site.activationPending = false := by
  dsimp only
  cases h : s.store.awaiting[(3 : Fin 4)] with
  | false =>
    have fixed := fixed_activate_without h
    have pending : (activate s).site.activationPending = false := by
      rw [activationPending_of_steady (steady_activate s), activated_without h,
        activationPending_of_steady (steady_markConfigurationChanged ..)]
      rfl
    exact ⟨work_of_fixed fixed, workValid_of_fixed fixed, awaiting_of_fixed fixed, (shadow_of_fixed fixed :),
      (shadowValid_of_fixed fixed :), (nv_of_fixed fixed :), pending⟩
  | true =>
    obtain ⟨zones, alert, -, fixed, pending, -⟩ := activate_with h
    have store : ((reloadAwaiting s).restaged s.tables zones alert).judged.store = (reloadAwaiting s).store := by
      rw [store_judged, store_restaged]
    have nv : ((reloadAwaiting s).restaged s.tables zones alert).judged.nv = s.nv := by
      rw [nv_judged, nv_restaged]; rfl
    generalize ((reloadAwaiting s).restaged s.tables zones alert).judged = j at fixed store nv
    refine ⟨?_, ?_, ?_, ?_, ?_, (nv_of_fixed fixed).trans nv, pending⟩
    · rw [work_of_fixed fixed, store]
    · rw [workValid_of_fixed fixed, store]
    · rw [awaiting_of_fixed fixed, store]; rfl
    · rw [shadow_of_fixed fixed, store]; rfl
    · rw [shadowValid_of_fixed fixed, store]; rfl

end Activation

end Sys2Proof.Machine
end

section
/-! SUPPORT. DEFERRED_ACTIVATION: the new tables' channels, nodes and feed dwell one by one, and the site's first state out of
UNCONFIGURED (R28, R56, R67, R167). -/

namespace Sys2Proof.Machine

/-! ### The new tables, item by item -/

section Restaged
variable (s : State) (old : SiteTables) (zones : Vector Zone 8) (alert : Bool)

theorem mayRun_routerTakesTables : (routerTakesTables old s).mayRun = s.mayRun := by
  funext i; simp only [State.mayRun, State.tables, routerTakesTables]

theorem channels_restaged : (s.restaged old zones alert).channels = s.restartedChannels := by
  simp only [State.restaged, State.restartedChannels, mayRun_routerTakesTables]
  simp only [routerTakesTables]

theorem voter_restaged : (s.restaged old zones alert).voter = ⟨imagesOf s.mayRun, zones⟩ := by
  simp only [State.restaged, mayRun_routerTakesTables]

theorem nodes_restaged (a : Fin 128) : (s.restaged old zones alert).router.nodes[a] =
    if (old.node a.val).present ∧ (s.nodeCfg a.val).present then s.router.nodes[a] else {} := by
  simp only [State.restaged, routerTakesTables, Fin.getElem_fin, Vector.getElem_ofFn]

theorem besideAlert_restaged : (s.restaged old zones alert).besideAlert = s.besideAlert := by
  simp only [State.besideAlert, State.restaged, routerTakesTables]

theorem now_restaged : (s.restaged old zones alert).now = s.now := by
  simp only [State.restaged, routerTakesTables]

theorem site_restaged : (s.restaged old zones alert).site = s.site := by
  simp only [State.restaged, routerTakesTables]

end Restaged

/-- The channel's zone is isolated. -/
def SiteTables.isolates (t : SiteTables) (zones : Vector Zone 8) (i : Fin 32) : Bool :=
  ((t.zoneOf i).map fun z => zones[z].isolated).getD false

theorem mayRun_iff (s : State) (i : Fin 32) :
    s.mayRun i = true ↔ s.tables.channels[i].enabled = true ∧ s.tables.isolates s.voter.zones i = false := by
  unfold State.mayRun SiteTables.isolates
  cases s.tables.zoneOf i <;> simp

theorem restartedChannels_get (s : State) (i : Fin 32) :
    s.restartedChannels[i] = s.channels[i].restarted (s.mayRun i) := by
  simp [State.restartedChannels]

theorem imagesOf_get (runs : Fin 32 → Bool) (i : Fin 32) :
    (imagesOf runs)[i] = ⟨if runs i then .priming else .off, false, none, none⟩ := by
  simp [imagesOf]

/-- The feed dwell has ended where its timer has run that long with UTILITY_OK active (R55). -/
theorem feedDue_iff (s : State) : s.feedDue = true ↔ ∃ x, s.trig.feedStart = some x ∧
    s.trig.inputs[(4 : Fin 5)].active = true ∧ s.params.feedDwell * 1000 ≤ (s.now - x).toNat := by
  unfold State.feedDue msSince
  cases s.trig.feedStart <;> simp

theorem feed_judged_of_due {s : State} (h : s.feedDue = true) :
    s.judged.trig.feedStable = true ∧ s.judged.trig.feedStart = none := by
  unfold State.judged; rw [h]; exact ⟨rfl, rfl⟩

theorem feed_judged_of_not_due {s : State} (h : s.feedDue = false) :
    s.judged.trig.feedStable = s.trig.feedStable ∧ s.judged.trig.feedStart = s.trig.feedStart := by
  unfold State.judged; rw [h]; exact ⟨rfl, rfl⟩

/-! ### Out of UNCONFIGURED -/

/-- What the site enters its first state by, besides the copy of the request level: the state, the trip number and the ring. -/
def State.posture (s : State) : SiteState × Nat × Vector Slot 16 := (s.site.state, s.site.trip, s.store.ring)

section Posture
variable {s : State} (h : s.site.state = .unconfigured)
include h

theorem takeCompletion_unconfigured (r : Report) : takeCompletion r s = s := by
  unfold takeCompletion; rw [h]

theorem takeRise_unconfigured (level : Nat) : takeRise level s = s := by
  unfold takeRise; rw [h]

theorem takeRequest_unconfigured (level : Nat) (cause : Option (Fin 24)) :
    takeRequest level cause s = { s with site.requestLevel := level, site.cause := cause } := by
  unfold takeRequest
  dsimp only
  split
  · exact takeRise_unconfigured (s := { s with site.requestLevel := level, site.cause := cause }) h level
  · rfl

theorem posture_takeRequest (level : Nat) (cause : Option (Fin 24)) :
    (takeRequest level cause s).posture = s.posture := by
  rw [takeRequest_unconfigured h]; rfl

theorem posture_formRequest : (formRequest s).posture = s.posture := by
  unfold formRequest
  dsimp only
  split
  · rfl
  · rw [posture_takeRequest (by exact h)]; rfl

theorem posture_feedRises : (feedRises s).posture = s.posture := by
  unfold feedRises
  obtain ⟨u, same, outcome⟩ := runEvent_feedRise { s with trig.feedStable := true, trig.feedStart := none }
  have posture : u.posture = s.posture := (congrArg State.posture same : u.noRunner.posture = _)
  have unconfigured : u.site.state = .unconfigured := (congrArg Prod.fst posture).trans h
  rcases outcome with e | ⟨r, e⟩
  · rw [e, posture]
  · rw [e, takeCompletion_unconfigured unconfigured, posture]

theorem posture_feedTakesTables : (feedTakesTables s).posture = s.posture := by
  unfold feedTakesTables
  split
  · exact posture_feedRises h
  · rfl

end Posture

theorem posture_setFlag (i : Fin 24) (s : State) : (setFlag i s).posture = s.posture := by
  unfold setFlag; split <;> rfl

theorem state_of_posture {s t : State} (h : t.posture = s.posture) : t.site.state = s.site.state := congrArg Prod.fst h

theorem posture_formRemote {s : State} (h : s.site.state = .unconfigured) : (formRemote s).posture = s.posture := by
  have sets : ∀ (rises : Bool) (i : Fin 24) (u : State), (if rises then setFlag i u else u).posture = u.posture :=
    fun rises i u => by
      cases rises with
      | false => rfl
      | true => exact posture_setFlag i u
  have forms : ∀ (rises : Bool) (u : State), u.site.state = .unconfigured →
      (if rises then formRequest u else u).posture = u.posture := fun rises u hu => by
    cases rises with
    | false => rfl
    | true => exact posture_formRequest hu
  have flagged := (sets (s.anyWarning s.params.classL1 && !s.trig.remoteModerate) srcModerate _).trans
    (sets (s.anyWarning s.params.classL2 && !s.trig.remoteSevere) srcSevere { s with
      trig.remoteSevere := s.anyWarning s.params.classL2, trig.remoteModerate := s.anyWarning s.params.classL1 })
  exact (forms _ _ ((state_of_posture flagged).trans h)).trans flagged

theorem posture_takesFeed {s : State} (h : s.site.state = .unconfigured) :
    (formRequest (formRemote (feedTakesTables s))).posture = s.posture := by
  have fed := posture_feedTakesTables h
  have formed := posture_formRemote ((state_of_posture fed).trans h)
  have unconfigured : (formRemote (feedTakesTables s)).site.state = .unconfigured :=
    (state_of_posture (formed.trans fed)).trans h
  rw [posture_formRequest unconfigured, formed, fed]

/-- In UNCONFIGURED site state, trip number and ring stay up to the site's first state. -/
theorem posture_activated {s : State} (h : s.site.state = .unconfigured) : s.activated.posture = s.posture := by
  have marked : ∀ u : State, (markConfigurationChanged s.store.awaiting u).posture = u.posture := fun u => by
    rw [markConfigurationChanged_eq]; rfl
  cases tables : s.store.awaiting[(3 : Fin 4)] with
  | false => rw [activated_without tables, marked]; rfl
  | true =>
    obtain ⟨zones, alert, e, -⟩ := takeTables_eq s.tables (reloadAwaiting s)
    have staged : ((reloadAwaiting s).restaged s.tables zones alert).posture = s.posture := by
      unfold State.posture; rw [site_restaged, store_restaged]; rfl
    rw [activated_with tables, marked, e, posture_takesFeed ((state_of_posture staged).trans h), staged]

/-! ### The first state with no slot damaged and none OPEN -/

theorem site_changeRecord (i : Fin 16) (r : TripRecord) (s : State) : (changeRecord i r s).site = s.site := by
  unfold changeRecord requestWrite
  dsimp only
  split <;> rfl

theorem site_updateRecord (f : TripRecord → TripRecord) (s : State) : (updateRecord f s).site = s.site := by
  unfold updateRecord
  split
  · exact site_changeRecord ..
  · rfl

theorem trip_openRecord (level : Nat) (s : State) : (openRecord level s).site.trip = nextTrip s.site.trip := by
  unfold openRecord
  dsimp only
  rw [site_changeRecord]

theorem site_of_noRunner {s t : State} (h : t.noRunner = s.noRunner) : t.site = s.site :=
  (congrArg State.site h : t.noRunner.site = s.noRunner.site)

theorem site_startPlan (p : PlanId) (s : State) : (startPlan p s).1.site = s.site := site_of_noRunner (by simp)

/-- The end of a shutdown keeps level and trip number. -/
theorem shutdownEnded_keeps (r : Report) (s : State) :
    (shutdownEnded r s).site.level = s.site.level ∧ (shutdownEnded r s).site.trip = s.site.trip := by
  unfold shutdownEnded
  show (updateRecord _ s).site.level = _ ∧ (updateRecord _ s).site.trip = _
  rw [site_updateRecord]
  exact ⟨rfl, rfl⟩

theorem markTripPending_keeps (level : Nat) (s : State) :
    (markTripPending level s).site.level = s.site.level ∧ (markTripPending level s).site.trip = s.site.trip := by
  unfold markTripPending
  split <;> exact ⟨rfl, rfl⟩

/-- A shutdown plan's start, and its end where it is complete at once, leave the plan's level and the trip number. -/
theorem enterShutting_level_trip (level : Nat) (s : State) :
    (enterShutting level s).site.level = level ∧ (enterShutting level s).site.trip = s.site.trip := by
  have trip : (startPlan (shutdownPlan level) s).1.site.trip = s.site.trip := by rw [site_startPlan]
  unfold enterShutting
  dsimp only
  generalize (startPlan (shutdownPlan level) s).1 = u at trip
  obtain ⟨hl, ht⟩ := markTripPending_keeps level (setSite .shutting level none u)
  split
  · obtain ⟨hl', ht'⟩ := shutdownEnded_keeps ‹Report›
      (raiseNotice none (markTripPending level (setSite .shutting level none u)))
    exact ⟨hl'.trans hl, ht'.trans (ht.trans trip)⟩
  · exact ⟨hl, ht.trans trip⟩

theorem tripSite_level_trip (level : Nat) (s : State) :
    (tripSite level s).site.level = level ∧ (tripSite level s).site.trip = nextTrip s.site.trip := by
  unfold tripSite
  rw [← trip_openRecord level s]
  exact enterShutting_level_trip level _

/-- Where the copy of the request level is 0 the site stays in ARMED without a current record (R68). -/
theorem enterArmed_stays {s : State} (h : s.site.requestLevel = 0) : (enterArmed none s).site.state = .armed ∧
    (enterArmed none s).site.level = 0 ∧ (enterArmed none s).site.record = none := by
  have stays : enterArmed none s = raiseNotice none (setSite .armed 0 none { s with site.record := none }) :=
    if_neg (by show ¬0 < s.site.requestLevel; omega)
  rw [stays]
  exact ⟨rfl, rfl, rfl⟩

/-- Where the copy of the request level is not 0 the site trips at once (R68). -/
theorem enterArmed_trips {s : State} (h : 0 < s.site.requestLevel) :
    (enterArmed none s).site.level = s.site.requestLevel ∧ (enterArmed none s).site.trip = nextTrip s.site.trip := by
  have trips : enterArmed none s =
      tripSite s.site.requestLevel (raiseNotice none (setSite .armed 0 none { s with site.record := none })) := if_pos h
  rw [trips]
  exact tripSite_level_trip ..

/-- The first state that the site enters by the ring with this state's posture, by the checks in their order (R66, R67). -/
theorem enterByRing_outcome (s : State) : let t := enterByRing s
    (s.anyDamaged = true → t.site.state = .safeHold ∧ t.site.level = 2 ∧ t.site.hold = some .recordDamaged) ∧
    (s.anyDamaged = false → ∀ i, openSlot s.store.ring = some i → ∃ r, s.store.ring[i] = .record r ∧
      t.site.state = .safeHold ∧ t.site.level = r.level ∧ t.site.hold = some .powerOnOpen) ∧
    (s.anyDamaged = false → openSlot s.store.ring = none →
      (t.site.requestLevel = 0 → t.site.state = .armed ∧ t.site.level = 0 ∧ t.site.record = none) ∧
      (0 < t.site.requestLevel → t.site.level = t.site.requestLevel ∧ t.site.trip = nextTrip s.site.trip)) := by
  have request : (enterByRing s).site.requestLevel = s.site.requestLevel := requestLevel_of_steady (steady_enterByRing s)
  refine ⟨fun damaged => ?_, fun sound i hi => ?_, fun sound none => ?_⟩
  · rw [enterByRing_damaged damaged]; exact ⟨rfl, rfl, rfl⟩
  · obtain ⟨r, hr⟩ := record_of_openSlot hi
    rw [enterByRing_open sound hi hr]
    exact ⟨r, hr, rfl, rfl, rfl⟩
  · rw [request, enterByRing_closed sound none]
    exact ⟨enterArmed_stays, enterArmed_trips⟩

end Sys2Proof.Machine
end

section
/-! SUPPORT. DEFERRED_ACTIVATION settled. -/

namespace Sys2Proof.Machine

/-- The command applies the activation where it is due. -/
theorem exec_deferredActivation {s₀ : State} (running : (s₀.caughtUpTo 1).isRunning = true)
    (pending : (s₀.caughtUpTo 1).site.activationPending = true)
    (rest : (s₀.caughtUpTo 1).site.state = .armed ∨ (s₀.caughtUpTo 1).site.state = .safeHold) :
    exec .deferredActivation s₀ = .next (activate (s₀.caughtUpTo 1)) := by
  have command : exec .deferredActivation s₀ = .next (activationFollows (s₀.caughtUpTo 1)) := rfl
  rw [command]
  generalize s₀.caughtUpTo 1 = s at running pending rest
  have due : s.activationDue = true := by
    unfold State.activationDue
    rw [pending]
    rcases rest with h | h <;> rw [h] <;> rfl
  unfold activationFollows
  rw [running, due]
  rfl

section Reload
variable (s : State)

theorem tables_reloadAwaiting (h : s.store.awaiting[(3 : Fin 4)] = true) : (reloadAwaiting s).tables = s.nv.blocks.site := by
  unfold State.tables
  rw [work_reloadAwaiting, site_copied, if_pos h]

end Reload

/-- The state in which channels, zones and nodes are those of the new tables. -/
def State.relaid (s : State) (zones : Vector Zone 8) (alert : Bool) : State :=
  (reloadAwaiting s).restaged s.tables zones alert

section Relaid
variable {s : State} (h : s.store.awaiting[(3 : Fin 4)] = true) (zones : Vector Zone 8) (alert : Bool)

include h in
theorem tables_relaid : (s.relaid zones alert).tables = s.nv.blocks.site := by
  rw [← tables_reloadAwaiting s h]
  unfold State.relaid State.tables
  rw [store_restaged]

include h in
theorem params_relaid : (s.relaid zones alert).params = s.nv.blocks.site.site :=
  congrArg SiteTables.site (tables_relaid h zones alert)

theorem besideAlert_relaid : (s.relaid zones alert).besideAlert = s.besideAlert := besideAlert_restaged ..

theorem now_relaid : (s.relaid zones alert).now = s.now := now_restaged ..

include h in
theorem feedDue_relaid : (s.relaid zones alert).feedDue = true ↔ ∃ x, s.trig.feedStart = some x ∧
    s.trig.inputs[(4 : Fin 5)].active = true ∧ s.nv.blocks.site.site.feedDwell * 1000 ≤ (s.now - x).toNat := by
  have trig := besideAlert_relaid (s := s) zones alert
  have start : (s.relaid zones alert).trig.feedStart = s.trig.feedStart := (congrArg Trigger.feedStart trig :)
  have inputs : (s.relaid zones alert).trig.inputs = s.trig.inputs := (congrArg Trigger.inputs trig :)
  rw [feedDue_iff, start, inputs, params_relaid h, now_relaid]

/-- A channel runs under the new tables where it is enabled and its zone is not isolated. -/
theorem mayRun_reloadAwaiting (h : s.store.awaiting[(3 : Fin 4)] = true) (i : Fin 32) :
    (reloadAwaiting s).mayRun i = true ↔ s.nv.blocks.site.channels[i].enabled = true ∧
      s.nv.blocks.site.isolates s.voter.zones i = false := by
  rw [mayRun_iff, tables_reloadAwaiting s h]
  rfl

end Relaid

/-- With block 3: each channel restarted by the new tables, and the members' images with it (R28). -/
theorem channels_activate {s : State} (h : s.store.awaiting[(3 : Fin 4)] = true) (i : Fin 32) :
    (activate s).channels[i] = s.channels[i].restarted ((reloadAwaiting s).mayRun i) ∧
    (activate s).voter.members[i] = ⟨(activate s).channels[i].state, false, none, none⟩ := by
  obtain ⟨zones, alert, -, fixed, -⟩ := activate_with h
  have channels : (activate s).channels[i] = s.channels[i].restarted ((reloadAwaiting s).mayRun i) := by
    have judged : ∀ b : State, b.judged.channels = b.channels := fun b => by unfold State.judged; rfl
    rw [channels_of_fixed fixed, judged, channels_restaged, restartedChannels_get]
    rfl
  have voter : (activate s).voter = ⟨imagesOf (reloadAwaiting s).mayRun, zones⟩ := by
    have judged : ∀ b : State, b.judged.voter = b.voter := fun b => by unfold State.judged; rfl
    rw [voter_of_fixed fixed, judged, voter_restaged]
  refine ⟨channels, ?_⟩
  rw [channels, voter, imagesOf_get]
  rfl

theorem zones_activate {s : State} (h : s.store.awaiting[(3 : Fin 4)] = true) (z : Fin 8) :
    (activate s).voter.zones[z] = ⟨s.voter.zones[z].isolated, false, false, .blind⟩ := by
  obtain ⟨zones, alert, each, fixed, -⟩ := activate_with h
  have judged : ∀ b : State, b.judged.voter = b.voter := fun b => by unfold State.judged; rfl
  rw [voter_of_fixed fixed, judged, voter_restaged]
  exact each z

theorem nodes_activate {s : State} (h : s.store.awaiting[(3 : Fin 4)] = true) (a : Fin 128) :
    (activate s).router.nodes[a] =
      if (s.nodeCfg a.val).present = true ∧ (s.nv.blocks.site.node a.val).present = true then s.router.nodes[a]
      else ⟨.unknown, 65535⟩ := by
  obtain ⟨zones, alert, -, fixed, -⟩ := activate_with h
  have judged : ∀ b : State, b.judged.router = b.router := fun b => by unfold State.judged; rfl
  have cfg : (reloadAwaiting s).nodeCfg a.val = s.nv.blocks.site.node a.val := by
    unfold State.nodeCfg; rw [tables_reloadAwaiting s h]
  rw [nodes_of_fixed fixed, judged, nodes_restaged, cfg]
  rfl

/-- With block 3: the trigger unit judged by the new parameters, and which flags are latched (R50, R56, R60). -/
theorem trig_activate {s : State} (h : s.store.awaiting[(3 : Fin 4)] = true) :
    let t := activate s
    let tables := s.nv.blocks.site
    t.trig.remoteSevere = s.anyWarning tables.site.classL2 ∧
    t.trig.remoteModerate = s.anyWarning tables.site.classL1 ∧
    (∀ i : Fin 24, t.trig.flags[i] = (s.trig.flags[i] ||
      (decide (i = srcSevere) && t.trig.remoteSevere && !s.trig.remoteSevere) ||
      (decide (i = srcModerate) && t.trig.remoteModerate && !s.trig.remoteModerate))) ∧
    t.RequestFormed ∧
    t.trig.forcedLevel = s.trig.forcedLevel ∧ t.trig.inputs = s.trig.inputs ∧ t.trig.warnings = s.trig.warnings := by
  obtain ⟨zones, alert, -, fixed, -, flags, formed⟩ := activate_with h
  change (activate s).fixed = (s.relaid zones alert).judged.fixed at fixed
  change ∀ i : Fin 24, _ = ((s.relaid zones alert).trig.flags[i] || (s.relaid zones alert).remoteRises i) at flags
  have trig := besideAlert_relaid (s := s) zones alert
  have params := params_relaid h zones alert
  generalize s.relaid zones alert = b at fixed flags trig params
  have warnings : b.trig.warnings = s.trig.warnings := (congrArg Trigger.warnings trig :)
  have severe : (activate s).trig.remoteSevere = s.anyWarning s.nv.blocks.site.site.classL2 := by
    rw [remoteSevere_of_fixed fixed, ← params, ← anyWarning_congr warnings]; rfl
  have moderate : (activate s).trig.remoteModerate = s.anyWarning s.nv.blocks.site.site.classL1 := by
    rw [remoteModerate_of_fixed fixed, ← params, ← anyWarning_congr warnings]; rfl
  refine ⟨severe, moderate, fun i => ?_, formed, ?_, ?_, ?_⟩
  · have was : b.trig.flags = s.trig.flags := (congrArg Trigger.flags trig :)
    have wasSevere : b.trig.remoteSevere = s.trig.remoteSevere := (congrArg Trigger.remoteSevere trig :)
    have wasModerate : b.trig.remoteModerate = s.trig.remoteModerate := (congrArg Trigger.remoteModerate trig :)
    rw [flags i, severe, moderate]
    unfold State.remoteRises
    rw [was, wasSevere, wasModerate, params, anyWarning_congr warnings, anyWarning_congr warnings]
    simp only [Bool.or_assoc, Bool.and_assoc]
  · exact (forcedLevel_of_fixed fixed).trans (congrArg Trigger.forcedLevel trig :)
  · exact (inputs_of_fixed fixed).trans (congrArg Trigger.inputs trig :)
  · exact (warnings_of_fixed fixed).trans warnings

/-- With block 3: the feed dwell by the new parameters (R56). -/
theorem feed_activate {s : State} (h : s.store.awaiting[(3 : Fin 4)] = true) :
    let ran := fun x : Time => s.trig.inputs[(4 : Fin 5)].active = true ∧
      s.nv.blocks.site.site.feedDwell * 1000 ≤ (s.now - x).toNat
    ((∃ x, s.trig.feedStart = some x ∧ ran x) →
      (activate s).trig.feedStable = true ∧ (activate s).trig.feedStart = none) ∧
    ((∀ x, s.trig.feedStart = some x → ¬ran x) →
      (activate s).trig.feedStable = s.trig.feedStable ∧ (activate s).trig.feedStart = s.trig.feedStart) := by
  obtain ⟨zones, alert, -, fixed, -⟩ := activate_with h
  change (activate s).fixed = (s.relaid zones alert).judged.fixed at fixed
  have trig := besideAlert_relaid (s := s) zones alert
  have due := feedDue_relaid h zones alert
  generalize s.relaid zones alert = b at fixed trig due
  dsimp only
  rw [feedStable_of_fixed fixed, feedStart_of_fixed fixed]
  refine ⟨fun ended => feed_judged_of_due (due.mpr ended), fun runs => ?_⟩
  have notDue : b.feedDue = false := Bool.eq_false_iff.mpr fun d => by
    obtain ⟨x, start, ended⟩ := due.mp d
    exact runs x start ended
  obtain ⟨stable, start⟩ := feed_judged_of_not_due notDue
  exact ⟨stable.trans (congrArg Trigger.feedStable trig :), start.trans (congrArg Trigger.feedStart trig :)⟩

/-- Out of UNCONFIGURED by the activation: with a working copy not valid the site stays, else its first state is by the ring
(R67). -/
theorem activate_unconfigured {s : State} (h : s.site.state = .unconfigured) :
    ((∃ b : Fin 4, s.activated.store.workValid[b] = false) → activate s = s.activated) ∧
    ((∀ b : Fin 4, s.activated.store.workValid[b] = true) → activate s = enterByRing s.activated) := by
  have unconfigured := (state_of_posture (posture_activated h)).trans h
  constructor
  · rintro ⟨b, invalid⟩
    refine (activate_eq s).trans (leaveUnconfigured_stays fun both => ?_)
    rw [both.2] at invalid
    simp at invalid
  · intro all
    refine (activate_eq s).trans (leaveUnconfigured_leaves unconfigured (Vector.ext fun b hb => ?_))
    rw [Vector.getElem_replicate]
    exact all ⟨b, hb⟩

theorem workValid_activated (s : State) : (activate s).store.workValid = s.activated.store.workValid :=
  workValid_of_fixed (fixed_activate s)

/-- Settles O56, the activation taken stage by stage: reload, tables, conditions, request, and the site's first state. -/
theorem deferredActivationReloadsTheBlocks : Obligations.DeferredActivationReloadsTheBlocks := by
  unfold Obligations.DeferredActivationReloadsTheBlocks
  refine ⟨fun s₀ => exec_deferredActivation, fun s => ?_⟩
  obtain ⟨work, workValid, awaiting, shadow, shadowValid, nv, pending⟩ := store_of_activate s
  refine ⟨pending, fun b => ⟨?_, ?_⟩, fun p => ?_, ?_, shadow, shadowValid, nv, fun without => ?_, fun without out => ?_,
    fun h => ?_, fun h => ?_⟩
  · rw [awaiting]; simp
  · rw [workValid]; exact workValid_reloadAwaiting s b
  · rw [work, work_reloadAwaiting, plan_copied]
  · rw [work, work_reloadAwaiting, site_copied]
  · rw [fixed_activate_without without, work, workValid]; rfl
  · rw [work, workValid, activate_without without out, markConfigurationChanged_eq]; rfl
  · obtain ⟨severe, moderate, flags, formed, forced, inputs, warnings⟩ := trig_activate h
    refine ⟨fun i => ?_, zones_activate h, nodes_activate h, severe, moderate, flags, formed.1, formed.2, forced, inputs,
      warnings, feed_activate h⟩
    obtain ⟨channel, image⟩ := channels_activate h i
    refine ⟨?_, image⟩
    rw [channel]
    unfold Channel.restarted Channel.cleared
    simp only [mayRun_reloadAwaiting h, SiteTables.isolates]
  · obtain ⟨stays, leaves⟩ := activate_unconfigured h
    have posture := posture_activated h
    have ring : s.activated.store.ring = s.store.ring := congrArg (fun p => p.2.2) posture
    have trip : s.activated.site.trip = s.site.trip := congrArg (fun p => p.2.1) posture
    have damaged : s.activated.anyDamaged = s.anyDamaged := by unfold State.anyDamaged; rw [ring]
    rw [workValid_activated]
    refine ⟨fun invalid => ?_, fun all => ?_⟩
    · rw [stays invalid]; exact (state_of_posture posture).trans h
    · have outcome := enterByRing_outcome s.activated
      rw [← leaves all, ring, trip, damaged] at outcome
      exact outcome

end Sys2Proof.Machine
end

section
/-! SUPPORT. The expiry of a member's stamps, and what the counts, the votes and the condition of a zone mean (R34 to R38). -/

namespace Sys2Proof.Machine

/-! ### The stamps (R34) -/

/-- The state once the onset stamp of a member is gone. -/
def State.onsetCleared (s : State) (c : Fin 32) : State :=
  { s with voter.members := s.voter.members.set c { s.voter.members[c] with onsetUntil := none } }

/-- The state once the strong stamp of a member is gone. -/
def State.strongCleared (s : State) (c : Fin 32) : State :=
  { s with voter.members := s.voter.members.set c { s.voter.members[c] with strongUntil := none } }

section Stamps
variable {c : Fin 32} {z : Fin 8} {s : State}

theorem onsetStampExpired_of_zone (h : s.tables.zoneOf c = some z) :
    onsetStampExpired c s = evaluateZone z (s.onsetCleared c) := by
  have zone : (s.onsetCleared c).tables.zoneOf c = some z := h
  unfold State.onsetCleared at zone ⊢
  unfold onsetStampExpired
  dsimp only
  rw [zone]

theorem strongStampExpired_of_zone (h : s.tables.zoneOf c = some z) :
    strongStampExpired c s = evaluateZone z (s.strongCleared c) := by
  have zone : (s.strongCleared c).tables.zoneOf c = some z := h
  unfold State.strongCleared at zone ⊢
  unfold strongStampExpired
  dsimp only
  rw [zone]

theorem exec_onsetUntilExpiry {at' : Time} (running : s.caughtUp.isRunning = true)
    (stamp : s.caughtUp.voter.members[c].onsetUntil = some at') (passed : reached s.caughtUp.now at' = true) :
    exec (.onsetUntilExpiry c) s = .next (onsetStampExpired c s.caughtUp) := by
  have due : s.caughtUp.onsetStampDue c = true := by
    unfold State.onsetStampDue
    rw [stamp]
    exact passed
  unfold exec execOnsetUntilExpiry
  exact whenDue_of_due (due := fun s => s.onsetStampDue c) running due

theorem exec_strongUntilExpiry {at' : Time} (running : s.caughtUp.isRunning = true)
    (stamp : s.caughtUp.voter.members[c].strongUntil = some at') (passed : reached s.caughtUp.now at' = true) :
    exec (.strongUntilExpiry c) s = .next (strongStampExpired c s.caughtUp) := by
  have due : s.caughtUp.strongStampDue c = true := by
    unfold State.strongStampDue
    rw [stamp]
    exact passed
  unfold exec execStrongUntilExpiry
  exact whenDue_of_due (due := fun s => s.strongStampDue c) running due

end Stamps

/-! ### Members that count (R35, R36) -/

section Members
variable (m : Member)

theorem Member.onsetActive_eq :
    m.onsetActive = decide (m.state = .onset ∨ m.state = .strong ∨ m.onsetUntil ≠ none) := by
  rw [Bool.eq_iff_iff]
  simp [Member.onsetActive, or_assoc, Option.isSome_iff_ne_none]

theorem Member.strongActive_eq : m.strongActive = decide (m.state = .strong ∨ m.strongUntil ≠ none) := by
  rw [Bool.eq_iff_iff]
  simp [Member.strongActive, Option.isSome_iff_ne_none]

theorem Member.capableOn_eq :
    m.capableOn = decide (m.state = .quiet ∨ m.state = .onset ∨ m.state = .strong) := by
  rw [Bool.eq_iff_iff]
  simp [Member.capableOn, or_assoc]

theorem Member.capableStrong_eq : m.capableStrong =
    decide (m.state = .quiet ∨ m.state = .onset ∨ m.state = .strong ∨ m.state = .priming ∧ m.seeded = true) := by
  rw [Bool.eq_iff_iff]
  simp [Member.capableStrong, Member.capableOn_eq, or_assoc]

end Members

/-- The counts of a zone, with the members that count written out (R35, R36). -/
theorem zoneCounts_eq (s : State) (z : Fin 8) :
    let cfg := s.tables.zones[z]
    let members := cfg.members.map fun c => s.voter.members[c]
    let capableOn := members.countP fun m => decide (m.state = .quiet ∨ m.state = .onset ∨ m.state = .strong)
    let capableStrong := members.countP fun m =>
      decide (m.state = .quiet ∨ m.state = .onset ∨ m.state = .strong ∨ m.state = .priming ∧ m.seeded = true)
    s.zoneCounts z = {
      onsetActive := members.countP fun m => decide (m.state = .onset ∨ m.state = .strong ∨ m.onsetUntil ≠ none)
      strongActive := members.countP fun m => decide (m.state = .strong ∨ m.strongUntil ≠ none)
      capableOn
      capableStrong
      kEffOn := effective cfg.degrade cfg.kOn capableOn
      kEffStrong := effective cfg.degrade cfg.kStrong capableStrong } := by
  simp only [State.zoneCounts, State.zoneMembers, countsOf, funext Member.onsetActive_eq, funext Member.strongActive_eq,
    funext Member.capableOn_eq, funext Member.capableStrong_eq]

/-! ### Votes (R37) -/

theorem degrade_eq_lower_or_iff (d : Degrade) (p : Prop) : (d = .lower ∨ p) ↔ (d = .hold → p) := by
  cases d <;> simp

/-- A vote stands where enough members are active, one is capable, a zone that holds has its threshold of capable members,
and the zone is not isolated and has members. -/
theorem voteOf_iff (cfg : ZoneCfg) (isolated : Bool) (active capable k kEff : Nat) :
    voteOf cfg isolated active capable k kEff = true ↔ kEff ≤ active ∧ 1 ≤ capable ∧
      (cfg.degrade = .hold → k ≤ capable) ∧ isolated = false ∧ cfg.members ≠ [] := by
  simp only [voteOf, Bool.and_eq_true, Bool.or_eq_true, decide_eq_true_eq, beq_iff_eq, degrade_eq_lower_or_iff,
    Bool.not_eq_true', List.isEmpty_eq_false_iff, and_assoc]

/-- Settles O42: each expiry is the evaluation of the zone once the stamp is gone, and the evaluation is by the counts. -/
theorem stampExpiryEvaluatesTheZone : Obligations.StampExpiryEvaluatesTheZone := by
  unfold Obligations.StampExpiryEvaluatesTheZone
  refine ⟨fun c z at' s₀ => ?_, fun s z => ?_⟩
  · have onset := exec_onsetUntilExpiry (c := c) (at' := at') (s := s₀)
    have strong := exec_strongUntilExpiry (c := c) (at' := at') (s := s₀)
    generalize s₀.caughtUp = s at onset strong ⊢
    intro _ running zone passed
    refine ⟨fun stamp => ⟨_, onset running stamp passed, ?_⟩, fun stamp => ⟨_, strong running stamp passed, ?_⟩⟩
    · rw [onsetStampExpired_of_zone zone, fixed_evaluateZone]
      rfl
    · rw [strongStampExpired_of_zone zone, fixed_evaluateZone]
      rfl
  · have counts := zoneCounts_eq s z
    dsimp only at counts ⊢
    unfold State.zoneEvaluated
    rw [counts]
    exact ⟨rfl, voteOf_iff .., voteOf_iff .., rfl⟩

end Sys2Proof.Machine
end

section
/-! SUPPORT. The request level and the cause by the flags that are set and enabled (R47), and the two hand-overs of the request
that start no plan (R65, R73). -/

namespace Sys2Proof.Machine

/-! ### The highest of the levels that are requested (R47) -/

section Highest
variable {n : Nat} (p : Fin n → Bool) (v : Fin n → Nat)

/-- The highest value of those places of a list that count, or `m` where none is higher. -/
def highestOf (l : List (Fin n)) (m : Nat) : Nat := l.foldl (fun m i => if p i then max m (v i) else m) m

theorem highestOf_cons (i : Fin n) (l : List (Fin n)) (m : Nat) :
    highestOf p v (i :: l) m = highestOf p v l (if p i then max m (v i) else m) := rfl

theorem le_highestOf_start (l : List (Fin n)) (m : Nat) : m ≤ highestOf p v l m := by
  induction l generalizing m with
  | nil => exact le_refl m
  | cons i l ih =>
    rw [highestOf_cons]
    refine le_trans ?_ (ih _)
    split <;> omega

theorem le_highestOf {l : List (Fin n)} {i : Fin n} (hi : i ∈ l) (hp : p i = true) (m : Nat) :
    v i ≤ highestOf p v l m := by
  induction l generalizing m with
  | nil => cases hi
  | cons j l ih =>
    rw [highestOf_cons]
    rcases List.mem_cons.mp hi with rfl | hi
    · rw [if_pos hp]
      exact le_trans (le_max_right ..) (le_highestOf_start ..)
    · exact ih hi _

theorem highestOf_attained (l : List (Fin n)) (m : Nat) :
    highestOf p v l m = m ∨ ∃ i ∈ l, p i = true ∧ v i = highestOf p v l m := by
  induction l generalizing m with
  | nil => exact .inl rfl
  | cons i l ih =>
    rw [highestOf_cons]
    rcases ih (if p i then max m (v i) else m) with h | ⟨j, hj, hp, hv⟩
    · rw [h]
      by_cases hp : p i = true
      · rw [if_pos hp]
        rcases max_choice m (v i) with hm | hm
        · exact .inl hm
        · exact .inr ⟨i, List.mem_cons_self, hp, hm.symm⟩
      · exact .inl (if_neg hp)
    · exact .inr ⟨j, List.mem_cons_of_mem i hj, hp, hv⟩

end Highest

theorem requestLevelNow_eq (s : State) :
    s.requestLevelNow = highestOf s.requesting s.sourceLevel (List.finRange 24) 0 := rfl

theorem sourceLevel_le_requestLevelNow {s : State} {i : Fin 24} (h : s.requesting i = true) :
    s.sourceLevel i ≤ s.requestLevelNow := le_highestOf _ _ (List.mem_finRange i) h 0

theorem requestLevelNow_attained (s : State) :
    s.requestLevelNow = 0 ∨ ∃ i, s.requesting i = true ∧ s.sourceLevel i = s.requestLevelNow := by
  rw [requestLevelNow_eq]
  rcases highestOf_attained s.requesting s.sourceLevel (List.finRange 24) 0 with h | ⟨i, -, hr, hl⟩
  · exact .inl h
  · exact .inr ⟨i, hr, hl⟩

theorem causeNow_of_no_level {s : State} (h : s.requestLevelNow = 0) : s.causeNow = none := if_pos h

/-- The cause is the lowest source at the request level (R47). -/
theorem causeNow_of_level {s : State} (h : 0 < s.requestLevelNow) :
    ∃ i, s.causeNow = some i ∧ s.requesting i = true ∧ s.sourceLevel i = s.requestLevelNow ∧
      ∀ j : Fin 24, j < i → s.requesting j = true → s.sourceLevel j ≠ s.requestLevelNow := by
  have cause : s.causeNow =
      (List.finRange 24).find? fun i => s.requesting i && s.sourceLevel i == s.requestLevelNow :=
    if_neg (Nat.ne_of_gt h)
  obtain ⟨k, hr, hl⟩ := (requestLevelNow_attained s).resolve_left (Nat.ne_of_gt h)
  rw [cause]
  cases found : (List.finRange 24).find? fun i => s.requesting i && s.sourceLevel i == s.requestLevelNow with
  | none =>
    have none := List.find?_eq_none.mp found k (List.mem_finRange k)
    simp [hr, hl] at none
  | some i =>
    obtain ⟨hi, as, bs, split, before⟩ := List.find?_eq_some_iff_append.mp found
    simp only [Bool.and_eq_true, beq_iff_eq] at hi
    refine ⟨i, rfl, hi.1, hi.2, fun j hj hrj hlj => ?_⟩
    have sorted : (as ++ i :: bs).Pairwise (· < ·) := split ▸ List.pairwise_lt_finRange 24
    have mem : j ∈ as := by
      have all : j ∈ as ++ i :: bs := split ▸ List.mem_finRange j
      rcases List.mem_append.mp all with ha | hb
      · exact ha
      · rcases List.mem_cons.mp hb with rfl | hb
        · exact absurd hj (lt_irrefl _)
        · have := List.rel_of_pairwise_cons (List.pairwise_append.mp sorted).2.1 hb
          exact absurd hj (lt_asymm this)
    have := before j mem
    simp [hrj, hlj] at this

theorem sourceLevel_eq (s : State) (i : Fin 24) :
    s.sourceLevel i = if i = 0 then s.trig.forcedLevel else if i = 1 then 2 else s.tables.sources[i].level := rfl

/-! ### The request handed over -/

/-- A request that would be formed as it stands changes nothing (R47). -/
theorem formRequest_of_same {s : State} (hl : s.requestLevelNow = s.trig.requestLevel) (hc : s.causeNow = s.trig.cause) :
    formRequest s = s := if_pos ⟨hl, hc⟩

/-- A request that has changed is handed to the site, TRIP_OUT asserted at a rise to 2 (R47, R64). -/
theorem formRequest_of_changed {s : State} (h : s.requestLevelNow ≠ s.trig.requestLevel ∨ s.causeNow ≠ s.trig.cause) :
    formRequest s = takeRequest s.requestLevelNow s.causeNow { s with
      trig.requestLevel := s.requestLevelNow, trig.cause := s.causeNow
      trig.tripOut := s.trig.tripOut || (decide (s.trig.requestLevel < 2) && decide (s.requestLevelNow = 2)) } := by
  have out : (if s.trig.requestLevel < 2 ∧ s.requestLevelNow = 2 then true else s.trig.tripOut) =
      (s.trig.tripOut || (decide (s.trig.requestLevel < 2) && decide (s.requestLevelNow = 2))) := by
    by_cases low : s.trig.requestLevel < 2 <;> by_cases two : s.requestLevelNow = 2 <;> simp [low, two]
  unfold formRequest
  rw [if_neg (by tauto)]
  dsimp only
  rw [out]

/-- A rise in a site state that starts no plan at it changes nothing: UNCONFIGURED, and no escalation due (R73). -/
theorem takeRise_stays {level : Nat} {s : State} (h : s.site.state = .unconfigured ∨
    (s.site.state = .shutting ∨ s.site.state = .safeHold) ∧ (s.site.level ≠ 1 ∨ level ≠ 2)) : takeRise level s = s := by
  unfold takeRise
  rcases h with h | ⟨h | h, due⟩ <;> rw [h] <;> dsimp only
  · exact if_neg (by tauto)
  · exact if_neg (by tauto)

/-- Where no plan starts the site takes the copy alone (R65, R73). -/
theorem takeRequest_copies {level : Nat} {cause : Option (Fin 24)} {s : State}
    (h : level ≤ s.site.requestLevel ∨ s.site.state = .unconfigured ∨
      (s.site.state = .shutting ∨ s.site.state = .safeHold) ∧ (s.site.level ≠ 1 ∨ level ≠ 2)) :
    takeRequest level cause s = { s with site.requestLevel := level, site.cause := cause } := by
  rcases h with h | h
  · exact takeRequest_of_not_rise h cause
  · unfold takeRequest
    dsimp only
    rw [takeRise_stays (s := { s with site.requestLevel := level, site.cause := cause }) h, ite_self]

end Sys2Proof.Machine
end

section
/-! SUPPORT. FORCE_TRIP and CLEAR_TRIGGERS (R46 to R49, R64, R73). -/

namespace Sys2Proof.Machine

/-! ### Flags set and flags cleared -/

theorem setFlag_of_set {i : Fin 24} {s : State} (h : s.trig.flags[i] = true) : setFlag i s = s := if_pos h

theorem setFlag_of_clear {i : Fin 24} {s : State} (h : s.trig.flags[i] = false) :
    setFlag i s = { s with
      trig.flags := s.trig.flags.set i true, trig.quiet := some (s.params.q * 1000), trig.quietElapsed := false } := by
  unfold setFlag
  rw [if_neg (by simp [h])]
  rfl

/-- Where the condition of one source has risen, its flag is set and no other has changed (R46). -/
theorem State.Latched.flags_set {s t : State} {i : Fin 24} (h : t.Latched s fun j => decide (j = i)) :
    t.trig.flags = s.trig.flags.set i true := by
  ext k hk
  have flag := h.flags ⟨k, hk⟩
  by_cases e : (⟨k, hk⟩ : Fin 24) = i
  · subst e
    simpa using flag
  · have ne : i.val ≠ k := fun same => e (Fin.ext same.symm)
    rw [Vector.getElem_set_ne _ _ ne]
    simpa [e] using flag

/-- Where no flag is set no level is requested (R47). -/
theorem requestLevelNow_of_no_flag {s : State} (h : ∀ i : Fin 24, s.trig.flags[i] = false) : s.requestLevelNow = 0 := by
  rcases requestLevelNow_attained s with none | ⟨i, asks, -⟩
  · exact none
  · unfold State.requesting at asks
    rw [h i] at asks
    cases asks

/-- All flags cleared (R49): no request level and no cause, which the site copies; nothing else changes. -/
theorem clearFlags_all (s : State) : ∃ flags level cause, (∀ i : Fin 24, flags[i] = false) ∧
    clearFlags (fun _ => true) s = { s with
      trig.flags := flags, trig.requestLevel := 0, trig.cause := none
      site.requestLevel := level, site.cause := cause } := by
  obtain ⟨flags, off⟩ : ∃ flags : Vector Bool 24, flags = .ofFn fun i => s.trig.flags[i] && !true := ⟨_, rfl⟩
  have clear : ∀ i : Fin 24, flags[i] = false := fun i => by simp [off]
  unfold clearFlags
  rw [← off]
  clear off
  have level : ({ s with trig.flags := flags } : State).requestLevelNow = 0 := requestLevelNow_of_no_flag clear
  have cause := causeNow_of_no_level level
  by_cases same : 0 = s.trig.requestLevel ∧ none = s.trig.cause
  · refine ⟨flags, s.site.requestLevel, s.site.cause, clear, ?_⟩
    rw [formRequest_of_same (level.trans same.1) (cause.trans same.2)]
    dsimp only
    rw [← same.1, ← same.2]
  · refine ⟨flags, 0, none, clear, ?_⟩
    rw [formRequest_of_changed (by rw [level, cause]; dsimp only; tauto), level, cause, takeRequest_of_not_rise (Nat.zero_le _)]
    simp

/-! ### FORCE_TRIP (R48) -/

section ForceTrip
variable (level : Nat) (s : State)

/-- FORCED's condition rises at its new level: its flag and no other is set, and the quiet timer reloaded where it was
clear (R46, R48). -/
theorem latched_forceAt :
    (forceAt level s).Latched { s with trig.forcedLevel := level } fun j => decide (j = srcForced) :=
  ((latched_formRequest _).trans (latched_setFlag srcForced _)).congr fun _ => Bool.or_false _

variable {s}

/-- A rise of the request level to 2 by FORCE_TRIP asserts TRIP_OUT (R64). -/
theorem tripOut_forceAt (low : s.trig.requestLevel < 2) (two : (forceAt level s).trig.requestLevel = 2) :
    (forceAt level s).trig.tripOut = true := by
  have formed := besideAlert_formRequest (setFlag srcForced { s with trig.forcedLevel := level })
  have now : (forceAt level s).trig.requestLevel = (setFlag srcForced { s with trig.forcedLevel := level }).requestLevelNow :=
    congrArg Trigger.requestLevel formed
  have old : (setFlag srcForced { s with trig.forcedLevel := level }).trig.requestLevel = s.trig.requestLevel := by
    unfold setFlag; split <;> rfl
  have out : (forceAt level s).trig.tripOut = if (setFlag srcForced { s with trig.forcedLevel := level }).trig.requestLevel < 2 ∧
      (setFlag srcForced { s with trig.forcedLevel := level }).requestLevelNow = 2 then true
      else (setFlag srcForced { s with trig.forcedLevel := level }).trig.tripOut := congrArg Trigger.tripOut formed
  rw [out, if_pos ⟨old ▸ low, now ▸ two⟩]

theorem forceAt_of_clear (h : s.trig.flags[srcForced] = false) : forceAt level s = formRequest { s with
    trig.forcedLevel := level, trig.flags := s.trig.flags.set 0 true
    trig.quiet := some (s.params.q * 1000), trig.quietElapsed := false } := by
  unfold forceAt
  rw [setFlag_of_clear (s := { s with trig.forcedLevel := level }) h]
  rfl

theorem forceAt_of_set (h : s.trig.flags[srcForced] = true) :
    forceAt level s = formRequest { s with trig.forcedLevel := level } := by
  unfold forceAt
  rw [setFlag_of_set (s := { s with trig.forcedLevel := level }) h]

end ForceTrip

/-- Settles O31: the effect of the request by whether FORCED's flag was set, the forming of the request, and the hand-overs
that start no plan. -/
theorem forceTripLatchesForced : Obligations.ForceTripLatchesForced := by
  unfold Obligations.ForceTripLatchesForced
  refine ⟨fun src tag level s₀ => ?_, fun u => ?_, fun level cause s => takeRequest_copies⟩
  · have performed (ready : s₀.caughtUp.OpenTo) :
        exec (.forceTrip src tag level) s₀ = .next (reqForceTrip ⟨src, tag, 0x22⟩ level s₀.caughtUp.asked) :=
      exec_request (r := .forceTrip level) rfl ready rfl (by simp [Req.payload])
    generalize s₀.caughtUp = s at performed ⊢
    intro _ ready
    refine ⟨fun h1 h2 => ?_, fun h => ?_⟩
    · rw [performed ready, reqForceTrip, if_neg (by tauto)]
      rfl
    · have accepted : exec (.forceTrip src tag level) s₀ =
          .next ((forceAt level.toNat s.asked).replied src tag 0x22 .ok []) := by
        rw [performed ready, reqForceTrip, if_pos h]
        rfl
      have latched := latched_forceAt level.toNat s.asked
      obtain ⟨formedLevel, formedCause⟩ := requestFormed_formRequest (setFlag srcForced { s.asked with
        trig.forcedLevel := level.toNat })
      refine ⟨⟨_, accepted, congrArg (fun u : State => u.replied src tag 0x22 .ok []) latched.fixed,
        forcedLevel_of_fixed latched.fixed, latched.flags_set, formedLevel, formedCause,
        fun clear => latched.reloaded ⟨0, rfl, clear⟩, fun set => ?_, tripOut_forceAt level.toNat (s := s.asked)⟩,
        fun clear => ?_, fun set => ?_⟩
      · exact (latched.kept fun i hi => by rw [of_decide_eq_true hi]; exact set).1
      · rw [accepted, forceAt_of_clear level.toNat (s := s.asked) clear]
        rfl
      · rw [accepted, forceAt_of_set level.toNat (s := s.asked) set]
  · exact ⟨formRequest_of_same, formRequest_of_changed,
      fun i => ⟨rfl, sourceLevel_eq u i, sourceLevel_le_requestLevelNow⟩, requestLevelNow_attained u,
      causeNow_of_no_level, causeNow_of_level⟩

/-! ### CLEAR_TRIGGERS (R49) -/

/-- TRIP_OUT is released in UNCONFIGURED with no active condition, and nothing else is (R49, R64). -/
theorem releaseTripOut_eq (s : State) : releaseTripOut s = { s with
    trig.tripOut := s.trig.tripOut && !(s.site.state == .unconfigured && !s.activeCondition) } := by
  unfold releaseTripOut
  by_cases h : s.site.state = .unconfigured ∧ s.activeCondition = false
  · rw [if_pos h]
    simp [h.1, h.2]
  · have keep : (s.site.state == .unconfigured && !s.activeCondition) = false := by
      rw [Bool.eq_false_iff]
      simpa using h
    rw [if_neg h, keep, Bool.not_false, Bool.and_true]

theorem fixed_releaseTripOut (s : State) : (releaseTripOut s).fixed = s.fixed := by
  rw [releaseTripOut_eq]
  rfl

theorem fixed_replied (s : State) (src tag code : Byte) (st : Status) (data : List Byte) :
    (s.replied src tag code st data).fixed = s.fixed.replied src tag code st data := rfl

/-- Settles O32. -/
theorem clearTriggersClearsEveryFlag : Obligations.ClearTriggersClearsEveryFlag := by
  unfold Obligations.ClearTriggersClearsEveryFlag
  intro src tag s₀
  have performed (ready : s₀.caughtUp.OpenTo) : exec (.clearTriggers src tag) s₀ =
      .next (reqClearTriggers ⟨src, tag, 0x23⟩ s₀.caughtUp.asked) :=
    exec_request (r := .clearTriggers) rfl ready rfl (by simp [Req.payload])
  generalize s₀.caughtUp = s at performed ⊢
  intro _ ready
  have effect : reqClearTriggers ⟨src, tag, 0x23⟩ s.asked =
      (releaseTripOut (clearFlags (fun _ => true) s.asked)).replied src tag 0x23 .ok [] := rfl
  have fixed := (fixed_releaseTripOut (clearFlags (fun _ => true) s.asked)).trans (fixed_clearFlags ..)
  obtain ⟨flags, level, cause, clear, cleared⟩ := clearFlags_all s.asked
  refine ⟨_, (performed ready).trans (congrArg _ effect), ?_, ?_⟩
  · rw [fixed_replied, fixed_replied, fixed]
  · rw [cleared, releaseTripOut_eq]
    exact ⟨clear, rfl, rfl, rfl, rfl, rfl, rfl, rfl, rfl, rfl, rfl, rfl, rfl⟩

end Sys2Proof.Machine
end

section
/-! SUPPORT. A deferred activation (R112) can trip the site (R73) between the start of a step and the end of an injected frame's
transmission in that step, so that a command takes the tag of the frame on the line. -/

namespace Sys2Proof.Machine

/-- A plan of one step: CUT node 1. -/
def cutNode1 : Plan := { stepCount := 1, steps := (Vector.replicate 64 {}).set 0 { action := .cut, target := some 1 } }

/-- A configuration that takes a warning of class 5 for a MODERATE one (R60), as that of the reset state does not. -/
def moderateTables : SiteTables :=
  { nodes := (Vector.replicate 119 {}).set 0 { present := true, kind := .breaker }, site := { classAlert := 5, classL1 := 5 } }

/-- An injected frame of tag 0 ends its transmission while an activation waits, under whose configuration the warning of class 5
requests level 1; the tag counter has come round to 0. -/
def State.tagComesRound : State := { State.reset with
  pending := [.pTransmissionEnd]
  phase := .running
  link.pTx := some ⟨[], .injected 0⟩
  trig.warnings := (Vector.replicate 4 none).set 0 (some ⟨1, 5, 0, 0, 1000⟩)
  site.state := .armed
  site.activationPending := true
  store.work.l1 := cutNode1
  store.awaiting := (Vector.replicate 4 false).set 3 true
  nv.blocks.site := moderateTables }

/-- Some frame of the injection queue is that of no entry in WAITING_TX (R114). -/
def State.frameLost (s : State) : Bool :=
  s.runner.injection.any fun f => !s.runner.outstanding.any fun e => e.tag == f.tag && e.phase == .waitingTx

/-- The state after a step, or the state itself where there is none. -/
def State.stepped (s : State) : State := match step s with | .next t => t | _ => s

theorem State.RunnerSound.frameLost_eq {s : State} (h : s.RunnerSound) : s.frameLost = false := by
  simp only [State.frameLost, List.any_eq_false, Bool.not_eq_true, Bool.not_eq_false', List.any_eq_true]
  intro f hf
  obtain ⟨e, he, tag, -, -, phase⟩ := h.frames f hf
  exact ⟨e, he, by simp [tag, phase]⟩

theorem tagComesRound_runnerSound : State.tagComesRound.RunnerSound where
  issued _ h := by cases h
  steps := List.nodup_nil
  tags := List.nodup_nil
  slots := Nat.zero_le _
  frames _ h := by cases h
  framesOnce := List.nodup_nil
  idle _ := rfl
  beyond := reset_runnerSound.beyond

theorem tagComesRound_frameLost : State.tagComesRound.stepped.frameLost = true := by decide +kernel

/-- Refutes O57: the executor's lists do not stay sound. No frame waits before the step; in it the deferred activation forms
REMOTE_MODERATE, the site trips and the executor issues its first command with the tag of the frame on the line; the end of the
transmission is then taken for that of the new command, whose frame still waits. -/
theorem not_everyStepKeepsTheQueuesBounded : ¬ Obligations.EveryStepKeepsTheQueuesBounded := by
  unfold Obligations.EveryStepKeepsTheQueuesBounded
  intro h
  have stepped : ∃ t, step State.tagComesRound = .next t := ⟨_, rfl⟩
  obtain ⟨t, ht⟩ := stepped
  have same : State.tagComesRound.stepped = t := by rw [State.stepped, ht]
  have kept := (h _ _ ht).2.2.2 tagComesRound_runnerSound fun _ _ _ _ _ waits => by cases waits
  have sound := kept.frameLost_eq
  have lost := tagComesRound_frameLost
  rw [same, sound] at lost
  cases lost

end Sys2Proof.Machine
end

section
/-! SUPPORT. The quiet timer's end, the second of site time, the input pins (R53, R62, R187), a warning's expiry (R60) and a
contact's debounced change (R54). -/

namespace Sys2Proof.Machine

/-! ### Quiet timer, site time and pins -/

/-- A pin takes its level; the other pins keep theirs. -/
theorem level_setPin (i : Fin 5) (high : Bool) (p : Pins) (j : Fin 5) :
    (setPin i high p).level j = if j = i then high else p.level j := by
  unfold setPin Pins.level
  by_cases hi : i.val < 4 <;> by_cases hj : j.val < 4
  · rw [dif_pos hi, dif_pos hj, dif_pos hj]
    simp only [Vector.getElem_set, Fin.ext_iff, eq_comm]
  · rw [dif_pos hi, dif_neg hj, dif_neg hj, if_neg (by omega)]
  · rw [dif_neg hi, dif_pos hj, dif_pos hj, if_neg (by omega)]
  · rw [dif_neg hi, dif_neg hj, dif_neg hj, if_pos (by omega)]

/-- Settles O46. -/
theorem quietTimeSecondsAndPins : Obligations.QuietTimeSecondsAndPins := by
  unfold Obligations.QuietTimeSecondsAndPins
  refine fun s₀ => ⟨fun running due => ?_, fun phase due => ?_, fun i high => ⟨setPin i high s₀.caughtUp.pins, ?_, ?_⟩⟩
  · exact whenDue_of_due (due := State.quietDue) running (by simp [State.quietDue, due])
  · have runs : s₀.caughtUp.timeRuns = true := by simpa [State.timeRuns] using phase
    have both : (s₀.caughtUp.timeRuns && s₀.caughtUp.mgmt.secondDue) = true := by rw [runs, due, Bool.and_self]
    exact congrArg Host.Outcome.next (if_pos both)
  · rfl
  · exact level_setPin i high _

/-! ### WARNING_EXPIRY (R60) -/

/-- Settles O45. -/
theorem warningExpiryFormsTheRemoteConditions : Obligations.WarningExpiryFormsTheRemoteConditions := by
  unfold Obligations.WarningExpiryFormsTheRemoteConditions
  intro i w s₀ s running live late
  have due : s.warningDue i = true := by
    unfold State.warningDue
    rw [live]
    exact late
  have performed : exec (.warningExpiry i) s₀ = .next (formRemote (putWarning i none s)) :=
    whenDue_of_due (due := fun s => s.warningDue i) running due
  clear_value s
  exact ⟨_, performed, fixed_formRemote (putWarning i none s)⟩

/-! ### TRIP_IN_DEBOUNCED_CHANGE (R53, R54) -/

section Contact
variable {i : Fin 4} {s : State}

theorem flipInput_active (j : Fin 5) (s : State) : (flipInput j s).trig.inputs[j].active = !s.trig.inputs[j].active := by
  simp [flipInput]

/-- A change to inactive latches nothing (R54). -/
theorem contactChanges_of_active (h : s.trig.inputs[i.castSucc].active = true) :
    contactChanges i s = flipInput i.castSucc s := by
  have inactive : (flipInput i.castSucc s).trig.inputs[i.castSucc].active = false := by rw [flipInput_active, h]; rfl
  unfold contactChanges
  dsimp only
  rw [inactive]
  rfl

/-- A change to active latches the contact (R54). -/
theorem contactChanges_of_inactive (h : s.trig.inputs[i.castSucc].active = false) :
    contactChanges i s = latch (srcContact i) (flipInput i.castSucc s) := by
  have active : (flipInput i.castSucc s).trig.inputs[i.castSucc].active = true := by rw [flipInput_active, h]; rfl
  unfold contactChanges
  dsimp only
  rw [active]
  rfl

/-- A latch whose flag is set leaves the state (R46). -/
theorem latch_of_set {k : Fin 24} {s : State} (h : s.trig.flags[k] = true) : latch k s = s := if_pos h

/-- A latch whose flag is clear sets it, reloads the quiet timer and forms the request (R46). -/
theorem latch_of_clear {k : Fin 24} {s : State} (h : s.trig.flags[k] = false) : latch k s = formRequest { s with
    trig.flags := s.trig.flags.set k true, trig.quiet := some (s.params.q * 1000), trig.quietElapsed := false } := by
  unfold latch
  rw [if_neg (by simp [h]), setFlag_of_clear h]

end Contact

/-- Settles O43: the level flips, and a rise is a latch of the contact's flag. -/
theorem tripInputChangeLatchesItsContact : Obligations.TripInputChangeLatchesItsContact := by
  unfold Obligations.TripInputChangeLatchesItsContact
  intro i s₀ s running late
  have due : s.inputDue i.castSucc = true := late
  have performed : exec (.tripInDebouncedChange i) s₀ = .next (contactChanges i s) :=
    whenDue_of_due (due := fun s => s.inputDue i.castSucc) running due
  rw [performed]
  clear_value s
  cases active : s.trig.inputs[i.castSucc].active with
  | true =>
    rw [contactChanges_of_active active, flipInput, active]
    exact ⟨⟨_, rfl, rfl, nofun, fun _ => ⟨rfl, rfl, rfl⟩⟩, fun _ => rfl, nofun⟩
  | false =>
    have latched := latched_latch (srcContact i) (flipInput i.castSucc s)
    refine ⟨⟨_, rfl, ?_, fun _ => ?_, nofun⟩, fun h => ?_, fun _ clear => ?_⟩
    · rw [contactChanges_of_inactive active, latched.fixed, flipInput, active]
    · rw [contactChanges_of_inactive active, latched.flags_set, flipInput]
    · rw [contactChanges_of_inactive active, latch_of_set (s := flipInput i.castSucc s) (h.resolve_left nofun), flipInput, active]
    · rw [contactChanges_of_inactive active, latch_of_clear (s := flipInput i.castSucc s) clear, flipInput, active]
      rfl

end Sys2Proof.Machine
end

section
/-! SUPPORT. A change of UTILITY_OK, the feed dwell and the rise of feed_stable (R53, R55, R56, R102). -/

namespace Sys2Proof.Machine

/-! ### The rise handed to the executor (R102) -/

section FeedRise
variable (s : State)

/-- The step's target reports the state that its action awaits (R90, R102). -/
def State.arrivedAt (i : Fin 64) : Bool :=
  decide ((s.nodeRt (s.stepCfg i).address).reported = (s.stepCfg i).action.awaited)

/-- The step after a rise of feed_stable. -/
def State.releasedStep (i : Fin 64) : Step :=
  if s.runner.steps[i].state = .waitingFeed then ⟨if s.arrivedAt i then .already else .queued, s.now, none, none⟩
  else s.runner.steps[i]

/-- The step is ALREADY by the rise. -/
def State.releasedAlready (i : Fin 64) : Bool := decide (s.runner.steps[i].state = .waitingFeed) && s.arrivedAt i

variable {s}

/-- A step's release depends on its own record alone, among those the earlier releases set. -/
theorem releaseAt_eq (on : s.runner.run.status = .running) {v : Vector Step 64} {i : Fin 64}
    (own : v[i] = s.runner.steps[i]) (just : List (Fin 64)) :
    releaseAt ({ s with runner.steps := v }, just) i = ({ s with runner.steps := v.set i (s.releasedStep i) },
      just ++ if s.releasedAlready i then [i] else []) := by
  have runs : ({ s with runner.steps := v } : State).runIsOn = true := by simp [State.runIsOn, on]
  have record : ({ s with runner.steps := v } : State).stepAt i = s.runner.steps[i] := own
  have target : ({ s with runner.steps := v } : State).stepCfg i = s.stepCfg i := rfl
  unfold releaseAt State.releasedStep State.releasedAlready
  dsimp only
  rw [runs, record, target]
  by_cases waits : s.runner.steps[i].state = .waitingFeed
  · rw [if_pos ⟨rfl, waits⟩, if_pos waits, decide_eq_true waits, Bool.true_and]
    by_cases arrived : (s.nodeRt (s.stepCfg i).address).reported = (s.stepCfg i).action.awaited
    · have yes : s.arrivedAt i = true := decide_eq_true arrived
      rw [yes, if_pos rfl, if_pos rfl]
      exact if_pos arrived
    · have no : s.arrivedAt i = false := decide_eq_false arrived
      rw [no, if_neg Bool.false_ne_true, if_neg Bool.false_ne_true, List.append_nil]
      exact if_neg arrived
  · rw [if_neg (fun h => waits h.2), if_neg waits, decide_eq_false waits, Bool.false_and, if_neg Bool.false_ne_true,
      List.append_nil, ← own]
    simp

theorem foldl_releaseAt (on : s.runner.run.status = .running) (l : List (Fin 64)) (hl : l.Nodup) (v : Vector Step 64)
    (own : ∀ i ∈ l, v[i] = s.runner.steps[i]) (just : List (Fin 64)) :
    l.foldl releaseAt ({ s with runner.steps := v }, just) =
      ({ s with runner.steps := l.foldl (fun v (i : Fin 64) => v.set i (s.releasedStep i)) v },
        just ++ l.filter s.releasedAlready) := by
  induction l generalizing v just with
  | nil => simp
  | cons i l ih =>
    obtain ⟨hi, hl⟩ := List.nodup_cons.mp hl
    rw [List.foldl_cons, List.foldl_cons, releaseAt_eq on (own i List.mem_cons_self)]
    rw [ih hl _ (fun j hj => ?_)]
    · rw [List.filter_cons, List.append_assoc]
      cases s.releasedAlready i <;> rfl
    · have ne : i.val ≠ j.val := fun e => hi (Fin.ext e ▸ hj)
      exact (Vector.getElem_set_ne _ _ ne).trans (own j (List.mem_cons_of_mem i hj))

/-- With a run on, the rise releases every step that waits for the feed (R102). -/
theorem takeFeedRise_of_running (on : s.runner.run.status = .running) :
    takeFeedRise s = settle ((List.finRange 64).filter s.releasedAlready)
      { s with runner.steps := .ofFn s.releasedStep } := by
  unfold takeFeedRise
  rw [show (s, ([] : List (Fin 64))) = ({ s with runner.steps := s.runner.steps }, []) from rfl,
    foldl_releaseAt on _ (List.nodup_finRange 64) _ (fun _ _ => rfl), List.nil_append,
    foldl_set_finRange (fun i _ => s.releasedStep i)]

/-- Without a run the rise changes nothing. -/
theorem takeFeedRise_of_not_running (off : s.runner.run.status ≠ .running) : takeFeedRise s = (s, .nothing) := by
  have idle : s.runIsOn = false := by simpa [State.runIsOn] using off
  have stays (i : Fin 64) : releaseAt (s, []) i = (s, []) := by
    unfold releaseAt
    dsimp only
    rw [idle]
    exact if_neg nofun
  have all (l : List (Fin 64)) : l.foldl releaseAt (s, []) = (s, []) := by
    induction l with
    | nil => rfl
    | cons i l ih => rw [List.foldl_cons, stays, ih]
  unfold takeFeedRise settle
  rw [all]
  dsimp only
  rw [idle]
  rfl

end FeedRise

/-! ### UTILITY_OK (R55) -/

section Utility
variable {s : State}

theorem utilityChanged_of_active (h : s.trig.inputs[(4 : Fin 5)].active = true) :
    utilityChanged s = { flipInput 4 s with trig.feedStable := false, trig.feedStart := none } := by
  have inactive : (flipInput 4 s).trig.inputs[(4 : Fin 5)].active = false := by rw [flipInput_active, h]; rfl
  exact if_neg (by simpa using inactive)

theorem utilityChanged_of_inactive (h : s.trig.inputs[(4 : Fin 5)].active = false) :
    utilityChanged s = if s.params.feedDwell = 0 then feedRises { flipInput 4 s with trig.feedStart := some s.now }
      else { flipInput 4 s with trig.feedStart := some s.now } := by
  have active : (flipInput 4 s).trig.inputs[(4 : Fin 5)].active = true := by rw [flipInput_active, h]; rfl
  exact if_pos active

/-- feed_stable is true after its rise, and its timer stopped. -/
theorem feed_feedRises : (feedRises s).trig.feedStable = true ∧ (feedRises s).trig.feedStart = none :=
  have rises : (feedRises s).fixed = ({ s with trig.feedStable := true, trig.feedStart := none } : State).fixed :=
    fixed_feedRises s
  ⟨feedStable_of_fixed rises, feedStart_of_fixed rises⟩

theorem feedDue_of_dwelt {started : Time} (start : s.trig.feedStart = some started)
    (active : s.trig.inputs[(4 : Fin 5)].active = true) (dwelt : s.params.feedDwell * 1000 ≤ (s.now - started).toNat) :
    s.feedDue = true := by
  unfold State.feedDue
  rw [start]
  exact Bool.and_eq_true_iff.mpr ⟨active, decide_eq_true dwelt⟩

end Utility

/-- Settles O44: a change by the level it leaves and the dwell, the dwell's end, and the rise's release of the steps. -/
theorem feedBecomesStableAfterItsDwell : Obligations.FeedBecomesStableAfterItsDwell := by
  unfold Obligations.FeedBecomesStableAfterItsDwell
  refine ⟨?_, fun s => ⟨takeFeedRise_of_not_running, takeFeedRise_of_running⟩⟩
  intro s₀ s running
  refine ⟨fun late => ?_, fun started start active dwelt => ?_⟩
  · have due : s.inputDue 4 = true := late
    have performed : exec .utilityOkDebouncedChange s₀ = .next (utilityChanged s) :=
      whenDue_of_due (due := fun s => s.inputDue 4) running due
    rw [performed]
    clear_value s
    refine ⟨_, rfl, ?_⟩
    rcases Bool.eq_false_or_eq_true s.trig.inputs[(4 : Fin 5)].active with active | inactive
    · rw [utilityChanged_of_active active]
      exact ⟨rfl, fun _ => ⟨rfl, rfl⟩, fun h => absurd (active.symm.trans h) nofun, fun h => absurd (active.symm.trans h) nofun⟩
    · rw [utilityChanged_of_inactive inactive]
      by_cases dwell : s.params.feedDwell = 0
      · rw [if_pos dwell]
        obtain ⟨stable, stopped⟩ := feed_feedRises (s := { flipInput 4 s with trig.feedStart := some s.now })
        rw [stable, stopped]
        exact ⟨fixed_feedRises _, fun h => absurd (inactive.symm.trans h) nofun, fun _ h => absurd dwell (by omega),
          fun _ _ => ⟨rfl, rfl⟩⟩
      · rw [if_neg dwell]
        exact ⟨rfl, fun h => absurd (inactive.symm.trans h) nofun, fun _ _ => ⟨rfl, rfl⟩, fun _ h => absurd h dwell⟩
  · have due : s.feedDue = true := feedDue_of_dwelt start active dwelt
    have performed : exec .feedDwellExpiry s₀ = .next (feedRises s) :=
      whenDue_of_due (due := State.feedDue) running due
    rw [performed]
    clear_value s
    exact ⟨⟨_, rfl, fixed_feedRises s⟩, rfl⟩

end Sys2Proof.Machine
end

section
/-! SUPPORT. The warning table: its slots and its weakest record, the REMOTE conditions that a change of it forms, and a WARNING
frame (R57 to R60). -/

namespace Sys2Proof.Machine

/-! ### The fields of a WARNING (R57, R158) -/

theorem beNat_pair (hi lo : Byte) : beNat [hi, lo] = 256 * hi.toNat + lo.toNat := by simp [beNat]

theorem clampNat_eq {lo hi : Nat} (h : lo ≤ hi) (n : Nat) : clampNat lo hi n = max lo (min n hi) := by
  unfold clampNat
  split
  · omega
  · split <;> omega

theorem readWarning_seven (now : Time) (e1 e0 c l1 l0 v1 v0 : Byte) :
    readWarning now [e1, e0, c, l1, l0, v1, v0] = some {
      event := 256 * e1.toNat + e0.toNat
      cls := min c.toNat 9
      lead := min (256 * l1.toNat + l0.toNat) 600
      arrival := now
      expiry := now + BitVec.ofNat 32 (max 1 (min (256 * v1.toNat + v0.toNat) 600) * 1000) } := by
  unfold readWarning laterBy
  simp only [beNat_pair, clampNat_eq (Nat.zero_le _), clampNat_eq (show 1 ≤ 600 by decide), Nat.zero_max]

theorem length_of_readWarning {now : Time} {payload : List Byte} {w : Warning} (h : readWarning now payload = some w) :
    payload.length = 7 := by
  unfold readWarning at h
  split at h
  · rfl
  · cases h

/-! ### The slots of the table (R58, R59) -/

section Slots
variable {s : State} {event : Nat} {i : Fin 4}

theorem warningSlot_some (h : s.warningSlot event = some i) : ∃ b, s.trig.warnings[i] = some b ∧ b.event = event := by
  have found := List.find?_some h
  split at found
  · next w live => exact ⟨w, live, by simpa using found⟩
  · cases found

theorem warningSlot_none (h : s.warningSlot event = none) {b : Warning} (live : s.trig.warnings[i] = some b) :
    b.event ≠ event := by
  have absent := List.find?_eq_none.mp h i (List.mem_finRange i)
  rw [live] at absent
  simpa using absent

theorem freeWarningSlot_some (h : s.freeWarningSlot = some i) :
    s.trig.warnings[i] = none ∧ ∀ j : Fin 4, j < i → s.trig.warnings[j] ≠ none := by
  obtain ⟨free, as, bs, split, before⟩ := List.find?_eq_some_iff_append.mp h
  refine ⟨by simpa using free, fun j hj none => ?_⟩
  have sorted : (as ++ i :: bs).Pairwise (· < ·) := split ▸ List.pairwise_lt_finRange 4
  have all : j ∈ as ++ i :: bs := split ▸ List.mem_finRange j
  rcases List.mem_append.mp all with early | late
  · have := before j early
    rw [none] at this
    cases this
  · rcases List.mem_cons.mp late with rfl | late
    · exact lt_irrefl _ hj
    · exact lt_asymm hj (List.rel_of_pairwise_cons (List.pairwise_append.mp sorted).2.1 late)

theorem freeWarningSlot_none (h : s.freeWarningSlot = none) (i : Fin 4) : s.trig.warnings[i] ≠ none := fun free => by
  have taken := List.find?_eq_none.mp h i (List.mem_finRange i)
  rw [free] at taken
  simp at taken

/-- A record gives way to another no later: it is of lower class, or of the same and arrived no later (R59). -/
def State.GivesWay (s : State) (b x : Warning) : Prop :=
  b.cls < x.cls ∨ (b.cls = x.cls ∧ (s.now - x.arrival).toNat ≤ (s.now - b.arrival).toNat)

theorem State.GivesWay.refl (b : Warning) : s.GivesWay b b := .inr ⟨rfl, le_refl _⟩

theorem State.GivesWay.trans {a b c : Warning} (hab : s.GivesWay a b) (hbc : s.GivesWay b c) : s.GivesWay a c := by
  unfold State.GivesWay at *
  omega

/-- The weaker of the weakest record so far and that of slot `i`. -/
def State.weakerOf (s : State) (best : Option (Fin 4 × Warning)) (i : Fin 4) : Option (Fin 4 × Warning) :=
  match s.trig.warnings[i], best with
  | some w, some (j, b) =>
    if w.cls < b.cls ∨ (w.cls = b.cls ∧ (msSince s.now b.arrival < msSince s.now w.arrival ∨
        (w.arrival = b.arrival ∧ Config.tiedSlotIsReplaced s.freeIndex i = true))) then some (i, w)
    else some (j, b)
  | some w, none => some (i, w)
  | none, best => best

theorem weakestWarning_eq (s : State) : s.weakestWarning = (List.finRange 4).foldl s.weakerOf none := rfl

/-- `best` is the weakest of the records in the slots of a list. -/
def State.WeakestOf (s : State) (l : List (Fin 4)) : Option (Fin 4 × Warning) → Prop
  | none => ∀ j ∈ l, s.trig.warnings[j] = none
  | some (i, b) => s.trig.warnings[i] = some b ∧ ∀ j ∈ l, ∀ x, s.trig.warnings[j] = some x → s.GivesWay b x

theorem weakestOf_weakerOf {l : List (Fin 4)} {best : Option (Fin 4 × Warning)} (h : s.WeakestOf l best) (i : Fin 4) :
    s.WeakestOf (l ++ [i]) (s.weakerOf best i) := by
  unfold State.weakerOf
  cases live : s.trig.warnings[i] with
  | none =>
    cases best with
    | none => exact fun j hj => (List.mem_append.mp hj).elim (h j) fun hj => by rwa [List.mem_singleton.mp hj]
    | some b =>
      obtain ⟨at_, weakest⟩ := h
      refine ⟨at_, fun j hj x hx => (List.mem_append.mp hj).elim (fun hj => weakest j hj x hx) fun hj => ?_⟩
      rw [List.mem_singleton.mp hj, live] at hx
      cases hx
  | some w =>
    cases best with
    | none =>
      refine ⟨live, fun j hj x hx => (List.mem_append.mp hj).elim (fun hj => ?_) fun hj => ?_⟩
      · rw [h j hj] at hx
        cases hx
      · rw [List.mem_singleton.mp hj, live] at hx
        cases hx
        exact .refl w
    | some b =>
      obtain ⟨k, b⟩ := b
      obtain ⟨at_, weakest⟩ := h
      dsimp only
      split
      · next weaker =>
        have way : s.GivesWay w b := by
          rcases weaker with lower | ⟨same, earlier | ⟨tied, -⟩⟩
          · exact .inl lower
          · exact .inr ⟨same, Nat.le_of_lt earlier⟩
          · exact .inr ⟨same, by rw [tied]⟩
        refine ⟨live, fun j hj x hx => (List.mem_append.mp hj).elim (fun hj => way.trans (weakest j hj x hx)) fun hj => ?_⟩
        rw [List.mem_singleton.mp hj, live] at hx
        cases hx
        exact .refl w
      · next stronger =>
        have way : s.GivesWay b w := by
          unfold State.GivesWay
          unfold msSince at stronger
          rw [not_or] at stronger
          obtain ⟨notLower, notEarlier⟩ := stronger
          rcases Nat.lt_or_ge b.cls w.cls with lower | ge
          · exact .inl lower
          · have same : w.cls = b.cls := by omega
            exact .inr ⟨same.symm, Nat.le_of_not_lt fun earlier => notEarlier ⟨same, .inl earlier⟩⟩
        refine ⟨at_, fun j hj x hx => (List.mem_append.mp hj).elim (fun hj => weakest j hj x hx) fun hj => ?_⟩
        rw [List.mem_singleton.mp hj, live] at hx
        cases hx
        exact way

theorem weakestOf_foldl (l : List (Fin 4)) {seen : List (Fin 4)} {best : Option (Fin 4 × Warning)}
    (h : s.WeakestOf seen best) : s.WeakestOf (seen ++ l) (l.foldl s.weakerOf best) := by
  induction l generalizing seen best with
  | nil => rwa [List.append_nil]
  | cons i l ih =>
    have next := ih (weakestOf_weakerOf h i)
    rwa [List.append_assoc] at next

theorem weakestOf_weakestWarning (s : State) : s.WeakestOf (List.finRange 4) s.weakestWarning := by
  rw [weakestWarning_eq]
  exact weakestOf_foldl (List.finRange 4) (seen := []) (best := none) nofun

theorem weakestWarning_some {b : Warning} (h : s.weakestWarning = some (i, b)) : s.trig.warnings[i] = some b ∧
    ∀ (j : Fin 4) x, s.trig.warnings[j] = some x → s.GivesWay b x := by
  have weakest := weakestOf_weakestWarning s
  rw [h] at weakest
  exact ⟨weakest.1, fun j => weakest.2 j (List.mem_finRange j)⟩

theorem weakestWarning_isSome (h : s.freeWarningSlot = none) : s.weakestWarning.isSome = true := by
  have weakest := weakestOf_weakestWarning s
  cases none : s.weakestWarning with
  | some b => rfl
  | none =>
    rw [none] at weakest
    exact absurd (weakest 0 (List.mem_finRange 0)) (freeWarningSlot_none h 0)

end Slots

/-! ### The REMOTE conditions (R60) -/

/-- Where neither condition rises, they and ALERT_OUT alone are formed. -/
theorem formRemote_of_no_rise {s : State} (h : (s.anyWarning s.params.classL2 && !s.trig.remoteSevere ||
      s.anyWarning s.params.classL1 && !s.trig.remoteModerate) = false) :
    formRemote s = formAlert { s with
      trig.remoteSevere := s.anyWarning s.params.classL2, trig.remoteModerate := s.anyWarning s.params.classL1 } := by
  obtain ⟨severe, moderate⟩ := Bool.or_eq_false_iff.mp h
  unfold formRemote
  dsimp only
  rw [severe, moderate]
  rfl

/-- Where one rises the request is formed before ALERT_OUT. -/
theorem formRemote_of_rise {s : State} (h : (s.anyWarning s.params.classL2 && !s.trig.remoteSevere ||
      s.anyWarning s.params.classL1 && !s.trig.remoteModerate) = true) :
    ∃ u, formRemote s = formAlert (formRequest u) := by
  unfold formRemote
  dsimp only
  rw [if_pos h]
  exact ⟨_, rfl⟩

/-- The forming of the REMOTE conditions ends with that of ALERT_OUT (R63). -/
theorem alertOut_formRemote (s : State) : (formRemote s).trig.alertOut = ((formRemote s).anyChannelActive ||
    (formRemote s).anyVote || (formRemote s).anyWarning (formRemote s).params.classAlert ||
      (formRemote s).site.state == .shutting) := by
  have formed (u : State) : (formAlert u).trig.alertOut = ((formAlert u).anyChannelActive ||
    (formAlert u).anyVote || (formAlert u).anyWarning (formAlert u).params.classAlert ||
      (formAlert u).site.state == .shutting) := rfl
  unfold formRemote
  exact formed _

/-! ### A changed table -/

/-- `t` is `s` with the record in slot `i`, as far as the trigger unit's outcome goes: the conditions formed, those that rise
latched, the quiet timer reloaded by the record or a latch, ALERT_OUT formed (R46, R58 to R60, R63). -/
def State.TookWarning (t s : State) (w : Warning) (i : Fin 4) (reloads : Bool) : Prop :=
  let u : State := { s with trig.warnings := s.trig.warnings.set i (some w) }
  let severe := u.anyWarning s.params.classL2
  let moderate := u.anyWarning s.params.classL1
  let severeRises := severe && !s.trig.remoteSevere
  let moderateRises := moderate && !s.trig.remoteModerate
  let latches := severeRises && !s.trig.flags[srcSevere] || moderateRises && !s.trig.flags[srcModerate]
  t.trig.warnings = u.trig.warnings ∧ t.trig.remoteSevere = severe ∧ t.trig.remoteModerate = moderate ∧
  (∀ k : Fin 24, t.trig.flags[k] = (s.trig.flags[k] || decide (k = srcSevere) && severeRises ||
    decide (k = srcModerate) && moderateRises)) ∧
  t.trig.quiet = (if reloads || latches then some (s.params.q * 1000) else s.trig.quiet) ∧
  t.trig.quietElapsed = (s.trig.quietElapsed && !(reloads || latches)) ∧
  t.trig.alertOut = (s.anyChannelActive || s.anyVote || u.anyWarning s.params.classAlert || t.site.state == .shutting) ∧
  t.trig.warningsDropped = s.trig.warningsDropped ∧ t.trig.warningsIgnored = s.trig.warningsIgnored ∧
  ((severeRises || moderateRises) = true → t.trig.requestLevel = t.requestLevelNow ∧ t.trig.cause = t.causeNow) ∧
  ((severeRises || moderateRises) = false → t.site = s.site ∧ t.runner = s.runner ∧ t.trig = { s.trig with
    warnings := u.trig.warnings, remoteSevere := severe, remoteModerate := moderate
    quiet := t.trig.quiet, quietElapsed := t.trig.quietElapsed, alertOut := t.trig.alertOut })

/-- A latch of two conditions reloads the quiet timer where one that rises has its flag clear (R46). -/
theorem State.Latched.quiet_of_two {t s : State} {i j : Fin 24} {a b : Bool}
    (h : t.Latched s fun k => (decide (k = i) && a) || (decide (k = j) && b)) :
    t.trig.quiet = (if (a && !s.trig.flags[i] || b && !s.trig.flags[j]) then some (s.params.q * 1000) else s.trig.quiet) ∧
      t.trig.quietElapsed = (s.trig.quietElapsed && !(a && !s.trig.flags[i] || b && !s.trig.flags[j])) := by
  cases latches : (a && !s.trig.flags[i] || b && !s.trig.flags[j]) with
  | true =>
    obtain ⟨quiet, elapsed⟩ := h.reloaded <| by
      simp only [Bool.or_eq_true, Bool.and_eq_true, Bool.not_eq_true'] at latches
      rcases latches with ⟨rises, clear⟩ | ⟨rises, clear⟩
      · exact ⟨i, by simp [rises], clear⟩
      · exact ⟨j, by simp [rises], clear⟩
    exact ⟨quiet, by rw [elapsed, Bool.not_true, Bool.and_false]⟩
  | false =>
    obtain ⟨quiet, elapsed⟩ := h.kept fun k hk => by
      simp only [Bool.or_eq_false_iff, Bool.and_eq_false_iff, Bool.not_eq_false'] at latches
      simp only [Bool.or_eq_true, Bool.and_eq_true, decide_eq_true_eq] at hk
      rcases hk with ⟨rfl, rises⟩ | ⟨rfl, rises⟩
      · exact latches.1.resolve_left (by simp [rises])
      · exact latches.2.resolve_left (by simp [rises])
    exact ⟨quiet, by rw [elapsed, Bool.not_false, Bool.and_true]⟩

/-- What the forming of the REMOTE conditions makes of the trigger unit: both by the table, those that rise latched, ALERT_OUT,
and the request where one rises (R46, R60, R63). -/
structure State.RemoteFormed (t s : State) : Prop where
  warnings : t.trig.warnings = s.trig.warnings
  severe : t.trig.remoteSevere = s.anyWarning s.params.classL2
  moderate : t.trig.remoteModerate = s.anyWarning s.params.classL1
  latched : t.Latched { s with
      trig.remoteSevere := s.anyWarning s.params.classL2, trig.remoteModerate := s.anyWarning s.params.classL1 } fun i =>
    (decide (i = srcSevere) && (s.anyWarning s.params.classL2 && !s.trig.remoteSevere)) ||
      (decide (i = srcModerate) && (s.anyWarning s.params.classL1 && !s.trig.remoteModerate))
  alert : t.trig.alertOut = (s.anyChannelActive || s.anyVote || s.anyWarning s.params.classAlert ||
    t.site.state == .shutting)
  dropped : t.trig.warningsDropped = s.trig.warningsDropped
  ignored : t.trig.warningsIgnored = s.trig.warningsIgnored
  risen : (s.anyWarning s.params.classL2 && !s.trig.remoteSevere ||
      s.anyWarning s.params.classL1 && !s.trig.remoteModerate) = true →
    t.trig.requestLevel = t.requestLevelNow ∧ t.trig.cause = t.causeNow
  still : (s.anyWarning s.params.classL2 && !s.trig.remoteSevere ||
      s.anyWarning s.params.classL1 && !s.trig.remoteModerate) = false →
    t.site = s.site ∧ t.runner = s.runner ∧ t.trig = { s.trig with
      remoteSevere := s.anyWarning s.params.classL2, remoteModerate := s.anyWarning s.params.classL1
      quiet := t.trig.quiet, quietElapsed := t.trig.quietElapsed, alertOut := t.trig.alertOut }

theorem remoteFormed_formRemote (s : State) : (formRemote s).RemoteFormed s := by
  have latched := latched_formRemote s
  have fixed := latched.fixed
  have warnings := warnings_of_fixed fixed
  have dropped := warningsDropped_of_fixed fixed
  have ignored := warningsIgnored_of_fixed fixed
  refine ⟨warnings, remoteSevere_of_fixed fixed, remoteModerate_of_fixed fixed, latched, ?_,
    dropped, ignored, fun rises => ?_, fun none => ?_⟩
  · have channels : (formRemote s).anyChannelActive = s.anyChannelActive := by
      unfold State.anyChannelActive
      rw [channels_of_fixed fixed]
    have votes : (formRemote s).anyVote = s.anyVote := by
      unfold State.anyVote
      rw [voter_of_fixed fixed]
    rw [alertOut_formRemote, channels, votes, anyWarning_congr warnings, params_of_fixed fixed]
    rfl
  · obtain ⟨u, formed⟩ := formRemote_of_rise rises
    rw [formed]
    exact requestFormed_formRequest u
  · rw [formRemote_of_no_rise none]
    exact ⟨rfl, rfl, rfl⟩

/-- The record put into its slot, with the quiet timer's reload where it calls for one, and the conditions formed. -/
theorem tookWarning_formRemote (s : State) (w : Warning) (i : Fin 4) (reloads : Bool) :
    (formRemote (if reloads then reloadQuiet (putWarning i (some w) s) else putWarning i (some w) s)).TookWarning s w i
      reloads := by
  cases reloads with
  | true =>
    rw [if_pos rfl]
    have formed := remoteFormed_formRemote (reloadQuiet (putWarning i (some w) s))
    generalize formRemote _ = t at formed ⊢
    obtain ⟨quiet, elapsed⟩ := formed.latched.quiet_of_two
    refine ⟨formed.warnings, formed.severe, formed.moderate, fun k => ?_, quiet.trans (ite_self _), ?_, formed.alert,
      formed.dropped, formed.ignored, formed.risen, formed.still⟩
    · rw [Bool.or_assoc]
      exact formed.latched.flags k
    · rw [Bool.true_or, Bool.not_true, Bool.and_false]
      exact elapsed
  | false =>
    rw [if_neg Bool.false_ne_true]
    have formed := remoteFormed_formRemote (putWarning i (some w) s)
    generalize formRemote _ = t at formed ⊢
    obtain ⟨quiet, elapsed⟩ := formed.latched.quiet_of_two
    refine ⟨formed.warnings, formed.severe, formed.moderate, fun k => ?_, quiet, elapsed, formed.alert, formed.dropped,
      formed.ignored, formed.risen, formed.still⟩
    rw [Bool.or_assoc]
    exact formed.latched.flags k

/-! ### A WARNING taken into the table (R58, R59) -/

section Taken
variable {s : State} {w b : Warning} {i : Fin 4}

theorem takeWarning_update (slot : s.warningSlot w.event = some i) (live : s.trig.warnings[i] = some b) :
    takeWarning w s = formRemote (if decide (s.params.classAlert ≤ w.cls) && decide (b.cls < w.cls)
      then reloadQuiet (putWarning i (some w) s) else putWarning i (some w) s) := by
  unfold takeWarning
  rw [slot]
  dsimp only
  rw [live]
  simp only [Bool.and_eq_true, decide_eq_true_eq, and_comm]
  rfl

theorem takeWarning_free (slot : s.warningSlot w.event = none) (free : s.freeWarningSlot = some i) :
    takeWarning w s = formRemote (if decide (s.params.classAlert ≤ w.cls)
      then reloadQuiet (putWarning i (some w) s) else putWarning i (some w) s) := by
  unfold takeWarning
  rw [slot]
  dsimp only
  rw [free]
  simp only [decide_eq_true_eq]
  rfl

theorem takeWarning_replace (slot : s.warningSlot w.event = none) (free : s.freeWarningSlot = none)
    (weakest : s.weakestWarning = some (i, b)) (h : b.cls ≤ w.cls) :
    takeWarning w s = formRemote (if decide (s.params.classAlert ≤ w.cls)
      then reloadQuiet (putWarning i (some w) { s with freeIndex := s.freeIndex + 1 })
      else putWarning i (some w) { s with freeIndex := s.freeIndex + 1 }) := by
  unfold takeWarning
  rw [slot]
  dsimp only
  rw [free]
  dsimp only
  rw [weakest]
  dsimp only
  rw [if_pos h]
  simp only [decide_eq_true_eq]
  rfl

theorem takeWarning_drop (slot : s.warningSlot w.event = none) (free : s.freeWarningSlot = none)
    (weakest : s.weakestWarning = some (i, b)) (h : w.cls < b.cls) :
    takeWarning w s = { s with trig.warningsDropped := bump s.trig.warningsDropped } := by
  unfold takeWarning
  rw [slot]
  dsimp only
  rw [free]
  dsimp only
  rw [weakest]
  dsimp only
  rw [if_neg (Nat.not_le.mpr h)]

theorem warningFrame_of_gateway {src : Byte} {payload : List Byte}
    (gate : ((s.nodeCfg src.toNat).present && (s.nodeCfg src.toNat).kind == .gateway) = true)
    (read : readWarning s.now payload = some w) : warningFrame src payload s = takeWarning w s := by
  have gateway : (s.nodeCfg src.toNat).present = true ∧ (s.nodeCfg src.toNat).kind = .gateway := by simpa using gate
  unfold warningFrame
  dsimp only
  rw [if_pos gateway, read]

theorem warningFrame_of_other {src : Byte} (payload : List Byte)
    (gate : ((s.nodeCfg src.toNat).present && (s.nodeCfg src.toNat).kind == .gateway) = false) :
    warningFrame src payload s = { s with trig.warningsIgnored := bump s.trig.warningsIgnored } := by
  have other : ¬((s.nodeCfg src.toNat).present = true ∧ (s.nodeCfg src.toNat).kind = .gateway) := by simpa using gate
  exact if_neg other

/-- A WARNING frame in service: the port and the router apart, all that changes is the trigger unit's taking of it. -/
theorem warningArrives (running : s.isRunning = true) {dst src tag : Byte} {payload : List Byte}
    (length : payload.length = 7) : ∃ l r r',
    frameArrives .p ⟨dst, src, kindWarning, tag, payload⟩ s =
      { warningFrame src payload { s with link := l, router := r } with router := r' } := by
  have size : (⟨dst, src, kindWarning, tag, payload⟩ : Frame).sizeOk = true := by
    simp [Frame.sizeOk, length, kindWarning, kindSample]
  rw [frameArrives_running running .p size]
  obtain ⟨r, heard⟩ := hearSource_router ⟨dst, src, kindWarning, tag, payload⟩ (setPort .p {}
    ((startCount (s.rx .p) (s.portCount .p) ⟨dst, src, kindWarning, tag, payload⟩).completed
      ⟨dst, src, kindWarning, tag, payload⟩) s)
  obtain ⟨r', forwarded⟩ := forwardP_router ⟨dst, src, kindWarning, tag, payload⟩
    (warningFrame src payload { s with link := (setPort .p {} ((startCount (s.rx .p) (s.portCount .p)
      ⟨dst, src, kindWarning, tag, payload⟩).completed ⟨dst, src, kindWarning, tag, payload⟩) s).link, router := r })
  refine ⟨_, r, r', Eq.trans ?_ forwarded⟩
  show routeP _ _ = _
  unfold routeP
  rw [heard, handToBlocks_warning, if_pos length]
  rfl

/-- Port, router and free index have no part in the taking. -/
theorem State.TookWarning.beside {t : State} {l : Link} {r r' : Router} {k : Nat} {reloads : Bool}
    (h : t.TookWarning { s with link := l, router := r, freeIndex := k } w i reloads) :
    ({ t with router := r' } : State).TookWarning s w i reloads := h

end Taken

/-- Settles O16: the fields, the table's slots, and the taking of a frame by where its record goes. -/
theorem warningFrameUpdatesTheTable : Obligations.WarningFrameUpdatesTheTable := by
  unfold Obligations.WarningFrameUpdatesTheTable
  refine ⟨readWarning_seven, fun s => ⟨fun _ _ => warningSlot_some, fun _ none _ _ live => warningSlot_none none live,
    fun _ => freeWarningSlot_some, fun none => ⟨freeWarningSlot_none none, weakestWarning_isSome none⟩,
    fun _ _ => weakestWarning_some⟩, ?_⟩
  intro dst src tag payload w s₀ s running read gate
  have performed : exec (.pWarningFrame dst src tag payload) s₀ =
      .next (frameArrives .p ⟨dst, src, kindWarning, tag, payload⟩ s) := event_eq _ s₀
  rw [performed]
  clear_value s
  obtain ⟨l, r, r', arrived⟩ := warningArrives running (dst := dst) (src := src) (tag := tag) (length_of_readWarning read)
  rw [arrived]
  refine ⟨_, rfl, fun other => ?_, fun isGate => ?_, fun isGate => ?_, fun isGate => ?_⟩
  · rw [warningFrame_of_other payload (s := { s with link := l, router := r }) other]
  · intro i b slot live
    rw [warningFrame_of_gateway (s := { s with link := l, router := r }) isGate read,
      takeWarning_update (s := { s with link := l, router := r }) slot live]
    exact (tookWarning_formRemote { s with link := l, router := r } w i _).beside (k := s.freeIndex)
  · intro slot i free
    rw [warningFrame_of_gateway (s := { s with link := l, router := r }) isGate read,
      takeWarning_free (s := { s with link := l, router := r }) slot free]
    exact (tookWarning_formRemote { s with link := l, router := r } w i _).beside (k := s.freeIndex)
  · intro slot free i b weakest
    rw [warningFrame_of_gateway (s := { s with link := l, router := r }) isGate read]
    refine ⟨fun le => ?_, fun lt => ?_⟩
    · rw [takeWarning_replace (s := { s with link := l, router := r }) slot free weakest le]
      exact (tookWarning_formRemote { s with link := l, router := r, freeIndex := s.freeIndex + 1 } w i _).beside
    · rw [takeWarning_drop (s := { s with link := l, router := r }) slot free weakest lt]

end Sys2Proof.Machine
end

section
/-! SUPPORT. What of the state the copy of the request, the fit of level and hold reason, ALERT_OUT and TRIP_OUT depend on (R45, R47,
R63 to R65), and what it is for an operation to keep them. -/

namespace Sys2Proof.Machine

/-! ### The outline of a state -/

/-- All of the state that the four invariants speak of; `ground` is one of R63's items but SHUTTING, `levels` the ranges of
R45. -/
structure Outline where
  ground : Bool
  alertOut : Bool
  tripOut : Bool
  requestLevel : Nat
  cause : Option (Fin 24)
  state : SiteState
  level : Nat
  hold : Option HoldReason
  copyLevel : Nat
  copyCause : Option (Fin 24)
  levels : Prop

/-- A channel in ONSET or STRONG, a true vote, or a warning at class_alert (R63). -/
def State.alertGround (s : State) : Bool := s.anyChannelActive || s.anyVote || s.anyWarning s.params.classAlert

def State.outline (s : State) : Outline where
  ground := s.alertGround
  alertOut := s.trig.alertOut
  tripOut := s.trig.tripOut
  requestLevel := s.trig.requestLevel
  cause := s.trig.cause
  state := s.site.state
  level := s.site.level
  hold := s.site.hold
  copyLevel := s.site.requestLevel
  copyCause := s.site.cause
  levels := s.trig.forcedLevel ≤ 2 ∧ s.store.work.site.levelsInRange ∧ s.store.shadow.site.levelsInRange ∧
    s.nv.blocks.site.levelsInRange ∧ ∀ c, s.store.commit = some c → c.content.site.levelsInRange

/-- The copy agrees with what it copies (R65). -/
def Outline.CopyAgrees (o : Outline) : Prop := o.copyLevel = o.requestLevel ∧ o.copyCause = o.cause

/-- Level and hold reason fit the site state (R65). -/
structure Outline.SiteFits (o : Outline) : Prop where
  level : o.state = .unconfigured ∨ o.state = .armed → o.level = 0
  hold : o.state ≠ .safeHold → o.hold = none
  held : o.state = .safeHold → o.hold ≠ none

/-- ALERT_OUT is as it is formed (R63). -/
def Outline.AlertFormed (o : Outline) : Prop := o.alertOut = (o.ground || o.state == .shutting)

/-- TRIP_OUT at request level 2 and in SHUTTING(2), with what it rests on (R64). -/
structure Outline.TripOutHeld (o : Outline) : Prop where
  copy : o.CopyAgrees
  levels : o.levels
  request : o.requestLevel ≤ 2
  atRequest : o.requestLevel = 2 → o.tripOut = true
  inShutting : o.state = .shutting → o.level = 2 → o.tripOut = true

section Invariants
variable {s : State}

theorem copyAgrees_iff : s.CopyAgrees ↔ s.outline.CopyAgrees :=
  ⟨fun ⟨level, cause⟩ => ⟨level, cause⟩, fun ⟨level, cause⟩ => ⟨level, cause⟩⟩

theorem siteFits_iff : s.SiteFits ↔ s.outline.SiteFits :=
  ⟨fun ⟨level, hold, held⟩ => ⟨level, hold, held⟩, fun ⟨level, hold, held⟩ => ⟨level, hold, held⟩⟩

theorem anyChannelActive_iff :
    s.anyChannelActive = true ↔ ∃ c : Fin 32, s.channels[c].state = .onset ∨ s.channels[c].state = .strong := by
  simp only [State.anyChannelActive, Channel.active, List.any_eq_true, Vector.mem_toList_iff, Vector.mem_iff_getElem,
    Bool.or_eq_true, beq_iff_eq]
  exact ⟨fun ⟨_, ⟨i, hi, e⟩, h⟩ => ⟨⟨i, hi⟩, by simpa [e] using h⟩, fun ⟨c, h⟩ => ⟨_, ⟨c, c.isLt, rfl⟩, h⟩⟩

theorem anyVote_iff :
    s.anyVote = true ↔ ∃ z : Fin 8, s.voter.zones[z].onsetVote = true ∨ s.voter.zones[z].strongVote = true := by
  simp only [State.anyVote, List.any_eq_true, Vector.mem_toList_iff, Vector.mem_iff_getElem, Bool.or_eq_true]
  exact ⟨fun ⟨_, ⟨i, hi, e⟩, h⟩ => ⟨⟨i, hi⟩, by simpa [e] using h⟩, fun ⟨c, h⟩ => ⟨_, ⟨c, c.isLt, rfl⟩, h⟩⟩

theorem anyWarning_iff (n : Nat) :
    s.anyWarning n = true ↔ ∃ (i : Fin 4) (w : Warning), s.trig.warnings[i] = some w ∧ n ≤ w.cls := by
  simp only [State.anyWarning, List.any_eq_true, Vector.mem_toList_iff, Vector.mem_iff_getElem]
  constructor
  · rintro ⟨x, ⟨i, hi, e⟩, h⟩
    cases x with
    | none => cases h
    | some w => exact ⟨⟨i, hi⟩, w, e, by simpa using h⟩
  · rintro ⟨i, w, e, h⟩
    exact ⟨some w, ⟨i, i.isLt, e⟩, by simpa using h⟩

theorem alertFormed_iff : s.AlertFormed ↔ s.outline.AlertFormed := by
  have formed : s.outline.AlertFormed ↔
      s.trig.alertOut = (s.anyChannelActive || s.anyVote || s.anyWarning s.params.classAlert || s.site.state == .shutting) :=
    Iff.rfl
  rw [formed, Bool.eq_iff_iff]
  simp only [State.AlertFormed, Bool.or_eq_true, anyChannelActive_iff, anyVote_iff, anyWarning_iff, beq_iff_eq, or_assoc]

theorem levelsInRange_iff : s.LevelsInRange ↔ s.outline.levels :=
  ⟨fun ⟨a, b, c, d, e⟩ => ⟨a, b, c, d, e⟩, fun ⟨a, b, c, d, e⟩ => ⟨a, b, c, d, e⟩⟩

theorem tripOutHeld_iff : s.TripOutHeld ↔ s.outline.TripOutHeld :=
  ⟨fun ⟨copy, levels, request, at_, shutting⟩ => ⟨copyAgrees_iff.mp copy, levelsInRange_iff.mp levels, request, at_, shutting⟩,
    fun ⟨copy, levels, request, at_, shutting⟩ => ⟨copyAgrees_iff.mpr copy, levelsInRange_iff.mpr levels, request, at_, shutting⟩⟩

end Invariants

/-! ### Keeping the invariants -/

/-- The invariants but for ALERT_OUT's hold of `t` if they held of `s`. -/
structure State.Upholds (t s : State) : Prop where
  copy : s.outline.CopyAgrees → t.outline.CopyAgrees
  fits : s.outline.SiteFits → t.outline.SiteFits
  trip : s.outline.TripOutHeld → t.outline.TripOutHeld

/-- The invariants hold of `t` if they held of `s`. -/
structure State.Keeps (t s : State) : Prop extends t.Upholds s where
  alert : s.outline.AlertFormed → t.outline.AlertFormed

section Relations
variable {s t u : State}

theorem State.Keeps.refl (s : State) : s.Keeps s := ⟨⟨id, id, id⟩, id⟩

theorem State.Upholds.trans (h : u.Upholds t) (k : t.Upholds s) : u.Upholds s :=
  ⟨fun p => h.copy (k.copy p), fun p => h.fits (k.fits p), fun p => h.trip (k.trip p)⟩

theorem State.Keeps.trans (h : u.Keeps t) (k : t.Keeps s) : u.Keeps s :=
  ⟨h.toUpholds.trans k.toUpholds, fun p => h.alert (k.alert p)⟩

/-- An operation that leaves the outline keeps the invariants. -/
theorem keeps_of_outline (h : t.outline = s.outline) : t.Keeps s := by
  constructor
  · constructor <;> rw [h] <;> exact id
  · rw [h]; exact id

/-- Where ALERT_OUT has been formed it does not matter what it was. -/
theorem State.Upholds.keeps (h : t.Upholds s) (formed : t.outline.AlertFormed) : t.Keeps s := ⟨h, fun _ => formed⟩

/-- What ALERT_OUT is formed from, and the pin, have no part in the other invariants. -/
theorem upholds_of_outline (h : { t.outline with ground := s.outline.ground, alertOut := s.outline.alertOut } = s.outline) :
    t.Upholds s := by
  have copy : t.outline.CopyAgrees ↔ s.outline.CopyAgrees := by rw [← h]; rfl
  have fits : t.outline.SiteFits ↔ s.outline.SiteFits := by
    rw [← h]
    exact ⟨fun ⟨a, b, c⟩ => ⟨a, b, c⟩, fun ⟨a, b, c⟩ => ⟨a, b, c⟩⟩
  have trip : t.outline.TripOutHeld ↔ s.outline.TripOutHeld := by
    rw [← h]
    exact ⟨fun ⟨a, b, c, d, e⟩ => ⟨a, b, c, d, e⟩, fun ⟨a, b, c, d, e⟩ => ⟨a, b, c, d, e⟩⟩
  exact ⟨copy.mpr, fits.mpr, trip.mpr⟩

theorem formed_formAlert (s : State) : (formAlert s).outline.AlertFormed := rfl

/-- ALERT_OUT formed (R63). -/
theorem State.Upholds.formed (h : t.Upholds s) : (formAlert t).Keeps s := by
  have formed : (formAlert t).Upholds t := upholds_of_outline rfl
  exact (formed.trans h).keeps (formed_formAlert t)

end Relations

/-! ### Operations that leave the outline -/

section Same
variable (s : State)

theorem outline_of_noRunner {s t : State} (h : t.noRunner = s.noRunner) : t.outline = s.outline :=
  (congrArg State.outline h : t.noRunner.outline = s.noRunner.outline)

theorem outline_raiseNotice (closed : Option TripRecord) : (raiseNotice closed s).outline = s.outline := rfl

theorem outline_markTripPending (level : Nat) : (markTripPending level s).outline = s.outline := by
  unfold markTripPending; split <;> rfl

theorem outline_abandonRun : (abandonRun s).outline = s.outline := outline_of_noRunner (noRunner_abandonRun s)

theorem outline_startPlan (p : PlanId) : (startPlan p s).1.outline = s.outline :=
  outline_of_noRunner (noRunner_startPlan p s)

theorem takeUp_keeps (p : PlanStore) : p.takeUp.work = p.work ∧ p.takeUp.shadow = p.shadow ∧ p.takeUp.commit = p.commit := by
  unfold PlanStore.takeUp
  repeat' split
  all_goals exact ⟨rfl, rfl, rfl⟩

/-- The plan store changed in nothing but the trip records, the writes and the conditions. -/
theorem outline_of_store {p : PlanStore} (h : p.work = s.store.work ∧ p.shadow = s.store.shadow ∧ p.commit = s.store.commit) :
    ({ s with store := p } : State).outline = s.outline := by
  obtain ⟨work, shadow, commit⟩ := h
  have ground : ({ s with store := p } : State).alertGround = s.alertGround := by
    unfold State.alertGround State.params State.tables
    rw [work]
    rfl
  unfold State.outline
  rw [ground]
  dsimp only
  rw [work, shadow, commit]

theorem outline_requestWrite (w : RecordWrite) : (requestWrite w s).outline = s.outline := by
  unfold requestWrite
  dsimp only
  split
  · exact outline_of_store s (takeUp_keeps _)
  · rfl

theorem outline_changeRecord (i : Fin 16) (r : TripRecord) : (changeRecord i r s).outline = s.outline := by
  unfold changeRecord
  dsimp only
  rw [outline_requestWrite]
  rfl

theorem outline_updateRecord (f : TripRecord → TripRecord) : (updateRecord f s).outline = s.outline := by
  unfold updateRecord
  split
  · exact outline_changeRecord ..
  · rfl

theorem outline_openRecord (level : Nat) : (openRecord level s).outline = s.outline := by
  unfold openRecord
  dsimp only
  rw [outline_changeRecord]
  rfl

theorem outline_recoverSlot : (recoverSlot s).outline = s.outline := by
  unfold recoverSlot
  split
  · exact outline_changeRecord ..
  · rfl

theorem outline_closeRecord (c : Closure) : (closeRecord c s).outline = s.outline := outline_updateRecord ..

theorem outline_leaveRecord (failed : Nat) : (leaveRecord failed s).outline = s.outline := rfl

theorem outline_setFlag (i : Fin 24) : (setFlag i s).outline = s.outline := by
  unfold setFlag; split <;> rfl

end Same

end Sys2Proof.Machine
end

section
/-! SUPPORT. The cascade of a trigger keeps the copy, the fit of the site, ALERT_OUT and TRIP_OUT: the site state set, plans started and
ended, the request formed and handed over (R47, R64 to R68, R70 to R75, R79 to R81). -/

namespace Sys2Proof.Machine

/-! ### The site state set (R65, R86) -/

section Site
variable {s : State}

/-- Level and hold reason of a new site state fit it, and a level-2 shutdown has TRIP_OUT asserted. -/
structure State.Admits (s : State) (st : SiteState) (l : Nat) (h : Option HoldReason) : Prop where
  level : st = .unconfigured ∨ st = .armed → l = 0
  hold : st ≠ .safeHold → h = none
  held : st = .safeHold → h ≠ none
  fast : st = .shutting → l = 2 → s.outline.TripOutHeld → s.trig.tripOut = true

theorem keeps_setSite {st : SiteState} {l : Nat} {h : Option HoldReason} (fits : s.Admits st l h) :
    (setSite st l h s).Keeps s := by
  obtain ⟨level, hold, held, fast⟩ := fits
  refine State.Upholds.keeps ⟨id, fun _ => ⟨level, hold, held⟩, fun p => ?_⟩ (formed_formAlert _)
  obtain ⟨copy, levels, request, atRequest, -⟩ := id p
  exact ⟨copy, levels, request, atRequest, fun shutting two => fast shutting two p⟩

/-- SAFE_HOLD with a hold reason, at any level. -/
theorem admits_safeHold (l : Nat) (r : HoldReason) : s.Admits .safeHold l (some r) :=
  ⟨fun h => h.elim nofun nofun, fun h => absurd rfl h, fun _ => nofun, nofun⟩

theorem admits_armed : s.Admits .armed 0 none := ⟨fun _ => rfl, fun _ => rfl, nofun, nofun⟩

theorem keeps_hold (closed : Option TripRecord) (l : Nat) (r : HoldReason) :
    (raiseNotice closed (setSite .safeHold l (some r) s)).Keeps s :=
  (keeps_of_outline (outline_raiseNotice _ closed)).trans (keeps_setSite (admits_safeHold l r))

theorem keeps_shutdownEnded (r : Report) (s : State) : (shutdownEnded r s).Keeps s :=
  (keeps_hold none _ _).trans (keeps_of_outline (outline_updateRecord ..))

/-- A level-2 shutdown finds TRIP_OUT asserted. -/
def State.TripReady (s : State) (level : Nat) : Prop := level = 2 → s.outline.TripOutHeld → s.trig.tripOut = true

theorem State.TripReady.congr {t : State} {level : Nat} (h : s.TripReady level) (e : t.outline = s.outline) : t.TripReady level :=
  fun two held => (congrArg Outline.tripOut e).trans (h two (e ▸ held))

theorem admits_shutting {level : Nat} (ready : s.TripReady level) : s.Admits .shutting level none :=
  ⟨fun h => h.elim nofun nofun, fun _ => rfl, nofun, fun _ => ready⟩

theorem keeps_enterShutting {level : Nat} (ready : s.TripReady level) : (enterShutting level s).Keeps s := by
  have started := keeps_of_outline (outline_startPlan s (shutdownPlan level))
  have set : (setSite .shutting level none (startPlan (shutdownPlan level) s).1).Keeps s :=
    (keeps_setSite (admits_shutting (ready.congr (outline_startPlan s _)))).trans started
  have told : (raiseNotice none (markTripPending level
      (setSite .shutting level none (startPlan (shutdownPlan level) s).1))).Keeps s :=
    (keeps_of_outline ((outline_raiseNotice ..).trans (outline_markTripPending ..))).trans set
  unfold enterShutting
  dsimp only
  split
  · exact (keeps_shutdownEnded _ _).trans told
  · exact told

theorem keeps_tripSite {level : Nat} (ready : s.TripReady level) : (tripSite level s).Keeps s :=
  (keeps_enterShutting (ready.congr (outline_openRecord ..))).trans (keeps_of_outline (outline_openRecord ..))

theorem keeps_abortByRise {level : Nat} (ready : s.TripReady level) : (abortByRise level s).Keeps s := by
  have same : (openRecord level (closeRecord .superseded (abandonRun s))).outline = s.outline :=
    (outline_openRecord ..).trans ((outline_closeRecord ..).trans (outline_abandonRun s))
  exact (keeps_enterShutting (ready.congr same)).trans (keeps_of_outline same)

theorem keeps_escalate (ready : s.TripReady 2) : (escalate s).Keeps s := by
  have same : (escalateRecord (abandonRun s)).outline = s.outline :=
    (outline_updateRecord ..).trans (outline_abandonRun s)
  exact (keeps_enterShutting (ready.congr same)).trans (keeps_of_outline same)

theorem keeps_fastFromHold (ready : s.TripReady 2) : (fastFromHold s).Keeps s :=
  (keeps_enterShutting (ready.congr (outline_updateRecord ..))).trans (keeps_of_outline (outline_updateRecord ..))

/-- A rise taken by the site (R73). -/
theorem keeps_takeRise {level : Nat} (ready : s.TripReady level) : (takeRise level s).Keeps s := by
  unfold takeRise
  split
  · exact .refl s
  · exact keeps_tripSite ready
  · split
    · next due => exact keeps_escalate (due.2 ▸ ready)
    · exact .refl s
  · split
    · next due => exact keeps_fastFromHold (due.2 ▸ ready)
    · exact .refl s
  · exact keeps_abortByRise ready

/-- The site enters ARMED, and trips at once at the copied level (R68). -/
theorem keeps_enterArmed (closed : Option TripRecord) (s : State) : (enterArmed closed s).Keeps s := by
  have armed : (setSite .armed 0 none { s with site.record := none }).Keeps s :=
    State.Keeps.trans (keeps_setSite admits_armed) (keeps_of_outline rfl)
  have told := (keeps_of_outline (outline_raiseNotice _ closed)).trans armed
  unfold enterArmed
  dsimp only
  split
  · refine (keeps_tripSite fun two held => ?_).trans told
    exact held.atRequest (held.copy.1.symm.trans two)
  · exact told

theorem keeps_restartCompleted (failed : Nat) (s : State) : (restartCompleted failed s).Keeps s := by
  have left : (leaveRecord failed (closeRecord (restartClosure failed) s)).Keeps s :=
    keeps_of_outline ((outline_leaveRecord ..).trans (outline_closeRecord ..))
  unfold restartCompleted
  dsimp only
  split
  · exact (keeps_hold ..).trans left
  · exact (keeps_enterArmed ..).trans left

/-- A completion report taken by the site (R75, R79, R80). -/
theorem keeps_takeCompletion (r : Report) (s : State) : (takeCompletion r s).Keeps s := by
  unfold takeCompletion
  split
  · exact keeps_shutdownEnded r s
  · split
    · exact keeps_hold ..
    · exact keeps_restartCompleted ..
  all_goals exact .refl s

/-- The site's first state by the ring (R66, R67). -/
theorem keeps_enterByRing (s : State) : (enterByRing s).Keeps s := by
  unfold enterByRing
  split
  · exact keeps_hold ..
  · split
    · split
      · exact keeps_hold ..
      · exact .refl s
    · exact keeps_enterArmed none s

end Site

/-! ### The request formed (R47, R64) -/

section Request
variable {s : State}

theorem sourceLevel_le_two (h : s.outline.levels) (i : Fin 24) : s.sourceLevel i ≤ 2 := by
  obtain ⟨forced, work, -⟩ := h
  rw [sourceLevel_eq]
  split
  · exact forced
  · split
    · exact le_refl 2
    · exact work i

theorem requestLevelNow_le_two (h : s.outline.levels) : s.requestLevelNow ≤ 2 := by
  rcases requestLevelNow_attained s with none | ⟨i, -, level⟩
  · omega
  · exact level ▸ sourceLevel_le_two h i

/-- A request taken by trigger unit and site, TRIP_OUT asserted at a rise to 2. -/
def State.handedOver (s : State) (level : Nat) (cause : Option (Fin 24)) : State := { s with
  trig.requestLevel := level, trig.cause := cause
  trig.tripOut := s.trig.tripOut || (decide (s.trig.requestLevel < 2) && decide (level = 2))
  site.requestLevel := level, site.cause := cause }

theorem keeps_handedOver {level : Nat} (range : s.outline.levels → level ≤ 2) (cause : Option (Fin 24)) :
    (s.handedOver level cause).Keeps s := by
  refine ⟨⟨fun _ => ⟨rfl, rfl⟩, fun ⟨a, b, c⟩ => ⟨a, b, c⟩, fun held => ?_⟩, id⟩
  obtain ⟨-, levels, request, atRequest, inShutting⟩ := held
  have kept : s.trig.tripOut = true → (s.handedOver level cause).trig.tripOut = true := fun asserted =>
    Bool.or_eq_true_iff.mpr (.inl asserted)
  refine ⟨⟨rfl, rfl⟩, levels, range levels, fun two => ?_, fun shutting two => kept (inShutting shutting two)⟩
  rcases Nat.lt_or_ge s.trig.requestLevel 2 with low | high
  · exact Bool.or_eq_true_iff.mpr (.inr (Bool.and_eq_true_iff.mpr ⟨decide_eq_true low, decide_eq_true two⟩))
  · exact kept (atRequest (Nat.le_antisymm request high))

theorem keeps_formRequest (s : State) : (formRequest s).Keeps s := by
  by_cases same : s.requestLevelNow = s.trig.requestLevel ∧ s.causeNow = s.trig.cause
  · rw [formRequest_of_same same.1 same.2]
    exact .refl s
  · have taken := keeps_handedOver (s := s) requestLevelNow_le_two s.causeNow
    rw [formRequest_of_changed (by tauto)]
    unfold takeRequest
    dsimp only
    split
    · exact (keeps_takeRise fun two held => held.atRequest two).trans taken
    · exact taken

theorem keeps_setFlag (i : Fin 24) (s : State) : (setFlag i s).Keeps s := keeps_of_outline (outline_setFlag s i)

theorem keeps_latch (i : Fin 24) (s : State) : (latch i s).Keeps s := by
  unfold latch
  split
  · exact .refl s
  · exact (keeps_formRequest _).trans (keeps_setFlag i s)

theorem keeps_clearFlags (which : Fin 24 → Bool) (s : State) : (clearFlags which s).Keeps s := by
  unfold clearFlags
  generalize Vector.ofFn _ = flags
  have same : ({ s with trig.flags := flags } : State).outline = s.outline := rfl
  exact (keeps_formRequest _).trans (keeps_of_outline same)

/-! ### What a settling hands over (R96) -/

theorem keeps_riseThenReport (r : Report) (s : State) : (riseThenReport r s).Keeps s := by
  unfold riseThenReport
  dsimp only
  split
  · exact (keeps_takeCompletion ..).trans (keeps_latch ..)
  · exact keeps_latch ..

theorem keeps_takeHandOver (ho : HandOver) (s : State) : (takeHandOver ho s).Keeps s := by
  have drawn : (drawOrder s).2.Keeps s := keeps_of_outline rfl
  unfold takeHandOver
  split
  · exact .refl s
  · exact keeps_takeCompletion ..
  · exact keeps_latch ..
  · dsimp only
    split
    · exact (keeps_riseThenReport ..).trans drawn
    · exact (keeps_latch ..).trans ((keeps_takeCompletion ..).trans drawn)

theorem keeps_runEvent {f : State → State × HandOver} {s : State} (h : (f s).1.noRunner = s.noRunner) :
    (runEvent f s).Keeps s := (keeps_takeHandOver ..).trans (keeps_of_outline (outline_of_noRunner h))

theorem keeps_feedRises (s : State) : (feedRises s).Keeps s :=
  (keeps_runEvent (noRunner_takeFeedRise _)).trans (keeps_of_outline rfl)

end Request

/-! ### The REMOTE conditions (R60) -/

theorem keeps_setFlag_if (rises : Bool) (i : Fin 24) (s : State) : (if rises then setFlag i s else s).Keeps s := by
  split
  · exact keeps_setFlag i s
  · exact .refl s

theorem keeps_formRequest_if (forms : Bool) (s : State) : (if forms then formRequest s else s).Keeps s := by
  split
  · exact keeps_formRequest s
  · exact .refl s

/-- The forming of the REMOTE conditions forms ALERT_OUT last (R63). -/
theorem State.Upholds.remoteFormed {t s : State} (h : t.Upholds s) : (formRemote t).Keeps s := by
  have judged (severe moderate : Bool) :
      ({ t with trig.remoteSevere := severe, trig.remoteModerate := moderate } : State).Keeps t := keeps_of_outline rfl
  have requested (forms severe moderate : Bool) {u : State} (k : u.Keeps t) : (let v := if severe then setFlag srcSevere u else u
      let v := if moderate then setFlag srcModerate v else v
      if forms then formRequest v else v).Keeps t :=
    (keeps_formRequest_if ..).trans ((keeps_setFlag_if ..).trans ((keeps_setFlag_if ..).trans k))
  exact ((requested _ _ _ (judged _ _)).toUpholds.trans h).formed

end Sys2Proof.Machine
end

section
/-! SUPPORT. Warnings, zones, channels and requests keep the copy, the fit of the site, ALERT_OUT and TRIP_OUT (R27, R32, R41 to R43, R48,
R49, R57 to R60, R76 to R82). -/

namespace Sys2Proof.Machine

/-! ### Warnings (R57 to R60) -/

section Warnings
variable (s : State)

/-- A record put into the table can change no more than ALERT_OUT's ground. -/
theorem upholds_putWarning (i : Fin 4) (w : Option Warning) : (putWarning i w s).Upholds s := upholds_of_outline rfl

theorem keeps_reloadQuiet : (reloadQuiet s).Keeps s := keeps_of_outline rfl

theorem upholds_reloadQuiet_if {p : Prop} [Decidable p] {s u : State} (h : u.Upholds s) :
    (if p then reloadQuiet u else u).Upholds s := by
  split
  · exact (keeps_reloadQuiet u).toUpholds.trans h
  · exact h

theorem keeps_reloadIfAlert (n : Nat) : (reloadIfAlert n s).Keeps s := by
  unfold reloadIfAlert
  split
  · exact keeps_reloadQuiet s
  · exact .refl s

theorem keeps_takeWarning (w : Warning) : (takeWarning w s).Keeps s := by
  have placed (i : Fin 4) {u : State} (h : u.Upholds s) : (formRemote (reloadIfAlert w.cls (putWarning i (some w) u))).Keeps s :=
    ((keeps_reloadIfAlert ..).toUpholds.trans ((upholds_putWarning ..).trans h)).remoteFormed
  unfold takeWarning
  split
  · exact (upholds_reloadQuiet_if (upholds_putWarning ..)).remoteFormed
  · split
    · exact placed _ (State.Keeps.refl s).toUpholds
    · split
      · split
        · exact placed _ (upholds_of_outline rfl)
        · exact keeps_of_outline rfl
      · exact .refl s

theorem keeps_warningFrame (src : Byte) (payload : List Byte) : (warningFrame src payload s).Keeps s := by
  unfold warningFrame
  dsimp only
  split
  · split
    · exact keeps_takeWarning s _
    · exact .refl s
  · exact keeps_of_outline rfl

end Warnings

/-! ### Zones (R32 to R34, R39, R41 to R43) -/

section Zones
variable (s : State)

theorem keeps_reportRises (z : Fin 8) (onset strong : Bool) : (reportRises z onset strong s).Keeps s := by
  have drawn : (drawOrder s).2.Keeps s := keeps_of_outline rfl
  unfold reportRises
  dsimp only
  split
  · split
    · exact (keeps_latch ..).trans ((keeps_latch ..).trans drawn)
    · exact (keeps_latch ..).trans ((keeps_latch ..).trans drawn)
  · split
    · exact keeps_latch ..
    · split
      · exact keeps_latch ..
      · exact .refl s

variable {s}

/-- An evaluation forms ALERT_OUT last (R63). -/
theorem State.Upholds.evaluated {t : State} (h : t.Upholds s) (z : Fin 8) : (evaluateZone z t).Keeps s := by
  have voted (zones : Vector Zone 8) : ({ t with voter.zones := zones } : State).Upholds t := upholds_of_outline rfl
  have told (onset strong : Bool) := (keeps_reportRises _ z onset strong).trans
    (((voted (t.voter.zones.set z (t.zoneEvaluated z))).trans h).formed)
  exact (told _ _).toUpholds.formed

theorem keeps_evaluateZone (z : Fin 8) (s : State) : (evaluateZone z s).Keeps s := (State.Keeps.refl s).toUpholds.evaluated z

/-- A fold of operations that keep the invariants keeps them. -/
theorem keeps_foldl {α : Type} {f : State → α → State} (h : ∀ s a, (f s a).Keeps s) (l : List α) (s : State) :
    (l.foldl f s).Keeps s := by
  induction l generalizing s with
  | nil => exact .refl s
  | cons a l ih => exact (ih _).trans (h s a)

theorem keeps_evaluateAll (s : State) : (evaluateAll s).Keeps s := keeps_foldl (fun s z => keeps_evaluateZone z s) _ s

/-- A change handed over ends with the forming of ALERT_OUT, whatever the channels have become. -/
theorem State.Upholds.handed {t : State} (h : t.Upholds s) (c : Change) : (handChange c t).Keeps s := by
  have formed := (upholds_reloadQuiet_if (p := c.state = .onset ∨ c.state = .strong) h).formed
  unfold handChange
  dsimp only
  split
  · have imaged (u : State) : (takeIntoImage c u).Upholds u := by
      unfold takeIntoImage
      split
      · exact upholds_of_outline rfl
      · exact (State.Keeps.refl u).toUpholds
    exact State.Upholds.evaluated ((imaged _).trans formed.toUpholds) _
  · exact formed

theorem keeps_handChange (c : Change) (s : State) : (handChange c s).Keeps s := (State.Keeps.refl s).toUpholds.handed c

theorem keeps_onsetStampExpired (c : Fin 32) (s : State) : (onsetStampExpired c s).Keeps s := by
  have stamped (members : Vector Member 32) : ({ s with voter.members := members } : State).Keeps s := keeps_of_outline rfl
  unfold onsetStampExpired
  dsimp only
  split
  · exact (keeps_evaluateZone ..).trans (stamped _)
  · exact stamped _

theorem keeps_strongStampExpired (c : Fin 32) (s : State) : (strongStampExpired c s).Keeps s := by
  have stamped (members : Vector Member 32) : ({ s with voter.members := members } : State).Keeps s := keeps_of_outline rfl
  unfold strongStampExpired
  dsimp only
  split
  · exact (keeps_evaluateZone ..).trans (stamped _)
  · exact stamped _

/-- Channels and voter can change no more than ALERT_OUT's ground. -/
theorem State.Upholds.grounded {t u : State} (h : t.Upholds s) (same : { u with channels := t.channels, voter := t.voter } = t) :
    u.Upholds s := by
  have moved : u.Upholds { u with channels := t.channels, voter := t.voter } := upholds_of_outline rfl
  rw [same] at moved
  exact moved.trans h

theorem State.Upholds.restarted {t : State} (h : t.Upholds s) : (restartAllChannels t).Keeps s := by
  unfold restartAllChannels imagesFromChannels
  dsimp only
  generalize Vector.ofFn _ = images
  generalize Vector.ofFn _ = channels
  exact State.Upholds.formed (h.grounded rfl)

theorem State.Upholds.membersRestarted {t : State} (h : t.Upholds s) (z : Fin 8) : (restartMembers z t).Keeps s :=
  State.Upholds.formed (h.grounded rfl)

theorem upholds_setIsolated (z : Fin 8) (b : Bool) (s : State) : (setIsolated z b s).Upholds s := upholds_of_outline rfl

theorem keeps_isolate (z : Fin 8) (s : State) : (isolate z s).Keeps s := by
  unfold isolate
  dsimp only
  refine (keeps_clearFlags ..).trans ?_
  split
  · exact .refl s
  · exact (keeps_evaluateZone ..).trans ((upholds_setIsolated z true s).membersRestarted z)

theorem keeps_restore (z : Fin 8) (s : State) : (restore z s).Keeps s := by
  unfold restore
  split
  · exact (keeps_evaluateZone ..).trans ((upholds_setIsolated z false s).membersRestarted z)
  · exact .refl s

theorem keeps_staleExpired (i : Fin 32) (s : State) : (staleExpired i s).Keeps s := by
  have moved (channels : Vector Channel 32) : ({ s with channels := channels } : State).Upholds s := upholds_of_outline rfl
  exact State.Upholds.handed (moved _) _

end Zones

end Sys2Proof.Machine
end

section
/-! SUPPORT. The levels of the sources stay in their range where records are written (R45, R137), a SAMPLE frame forms ALERT_OUT where
it changes a channel's state (R23, R63), and every request keeps the copy, the fit of the site, ALERT_OUT and TRIP_OUT. -/

namespace Sys2Proof.Machine

/-! ### The sources' levels (R45, R137) -/

section Levels

theorem clampNat_le {lo hi : Nat} (h : lo ≤ hi) (n : Nat) : clampNat lo hi n ≤ hi := by
  unfold clampNat
  split
  · exact h
  · split <;> omega

theorem readSourceCfg_level {c : List Byte} {x : SourceCfg} {b : Bool} (h : readSourceCfg c = some (x, b)) : x.level ≤ 2 := by
  unfold readSourceCfg at h
  split at h
  · simp only [Option.bind_eq_bind, Option.bind_eq_some_iff] at h
    obtain ⟨enabled, -, polarity, -, h⟩ := h
    cases h
    exact clampNat_le (by decide) _
  · cases h

theorem levelsInRange_putAt {t : SiteTables} (h : t.levelsInRange) (i : Nat) {x : SourceCfg} (hx : x.level ≤ 2) :
    ({ t with sources := putAt t.sources i x } : SiteTables).levelsInRange := by
  intro j
  show (putAt t.sources i x)[j].level ≤ 2
  unfold putAt
  split
  · next hi =>
    by_cases e : i = j.val
    · subst e
      simpa using hx
    · have kept : (t.sources.set i x)[j] = t.sources[j] := Vector.getElem_set_ne hi j.isLt e
      rw [kept]
      exact h j
  · exact h j

theorem levelsInRange_writeRecord {t u : SiteTables} {k : RecordKind} {i : Nat} {c : List Byte} {b : Bool}
    (h : t.levelsInRange) (written : t.writeRecord k i c = some (u, b)) : u.levelsInRange := by
  unfold SiteTables.writeRecord at written
  cases k with
  | source =>
    obtain ⟨⟨x, b'⟩, read, e⟩ := Option.map_eq_some_iff.mp written
    cases e
    exact levelsInRange_putAt h i (readSourceCfg_level read)
  | header | step => cases written
  | node | channel | zone | cls | filter | site =>
    obtain ⟨x, -, e⟩ := Option.map_eq_some_iff.mp written
    cases e
    exact h

theorem site_setPlan (bs : Blocks) (p : PlanId) (x : Plan) : (bs.setPlan p x).site = bs.site := by cases p <;> rfl

theorem levelsInRange_blocksWriteRecord {bs cs : Blocks} {block : Fin 4} {k : RecordKind} {i : Nat} {c : List Byte} {b : Bool}
    (h : bs.site.levelsInRange) (written : bs.writeRecord block k i c = some (cs, b)) : cs.site.levelsInRange := by
  unfold Blocks.writeRecord at written
  split at written
  · obtain ⟨x, -, e⟩ := Option.map_eq_some_iff.mp written
    cases e
    rw [site_setPlan]
    exact h
  · obtain ⟨⟨x, b'⟩, part, e⟩ := Option.map_eq_some_iff.mp written
    cases e
    exact levelsInRange_writeRecord h part

theorem levelsInRange_writeRecords {block : Fin 4} {k : RecordKind} (n : Nat) : ∀ {bs cs : Blocks} {first : Nat} {chars : List Byte}
    {b : Bool}, bs.site.levelsInRange → bs.writeRecords block k first n chars = some (cs, b) → cs.site.levelsInRange := by
  induction n with
  | zero =>
    intro bs cs first chars b h written
    cases written
    exact h
  | succ n ih =>
    intro bs cs first chars b h written
    unfold Blocks.writeRecords at written
    split at written
    · cases written
    · next bs' c1 one =>
      obtain ⟨⟨x, b'⟩, rest, e⟩ := Option.map_eq_some_iff.mp written
      cases e
      exact ih (levelsInRange_blocksWriteRecord h one) rest

theorem levelsInRange_copied {set : Fin 4 → Bool} {src dst : Blocks} (hs : src.site.levelsInRange)
    (hd : dst.site.levelsInRange) : (copied set src dst).site.levelsInRange := by
  rw [site_copied]
  split
  · exact hs
  · exact hd

theorem levelsInRange_copyBlock {b : Fin 4} {src dst : Blocks} (hs : src.site.levelsInRange)
    (hd : dst.site.levelsInRange) : (copyBlock b src dst).site.levelsInRange := by
  rw [site_copyBlock]
  split
  · exact hs
  · exact hd

/-- Where ALERT_OUT's ground and the levels change, the levels in their range, all but ALERT_OUT is kept. -/
theorem upholds_of_levels {s t : State} (same : { t.outline with
      ground := s.outline.ground, alertOut := s.outline.alertOut, levels := s.outline.levels } = s.outline)
    (levels : s.outline.levels → t.outline.levels) : t.Upholds s := by
  have state : t.outline.state = s.outline.state := (congrArg Outline.state same :)
  have level : t.outline.level = s.outline.level := (congrArg Outline.level same :)
  have hold : t.outline.hold = s.outline.hold := (congrArg Outline.hold same :)
  have request : t.outline.requestLevel = s.outline.requestLevel := (congrArg Outline.requestLevel same :)
  have cause : t.outline.cause = s.outline.cause := (congrArg Outline.cause same :)
  have copyLevel : t.outline.copyLevel = s.outline.copyLevel := (congrArg Outline.copyLevel same :)
  have copyCause : t.outline.copyCause = s.outline.copyCause := (congrArg Outline.copyCause same :)
  have tripOut : t.outline.tripOut = s.outline.tripOut := (congrArg Outline.tripOut same :)
  have copied : s.outline.CopyAgrees → t.outline.CopyAgrees := fun ⟨hl, hc⟩ =>
    ⟨copyLevel.trans (hl.trans request.symm), copyCause.trans (hc.trans cause.symm)⟩
  refine ⟨copied, fun ⟨a, b, c⟩ => ?_, fun ⟨a, b, c, d, e⟩ => ?_⟩
  · exact ⟨by rw [state, level]; exact a, by rw [state, hold]; exact b, by rw [state, hold]; exact c⟩
  · exact ⟨copied a, levels b, request ▸ c, by rw [request, tripOut]; exact d, by rw [state, level, tripOut]; exact e⟩

/-- Where the levels alone change, and stay in their range, all is kept. -/
theorem keeps_of_levels {s t : State} (same : { t.outline with levels := s.outline.levels } = s.outline)
    (levels : s.outline.levels → t.outline.levels) : t.Keeps s := by
  have upholds : t.Upholds s := by
    refine upholds_of_levels ?_ levels
    rw [← same]
  refine ⟨upholds, fun formed => ?_⟩
  rw [← same] at formed
  exact formed

end Levels

/-! ### A SAMPLE frame (R23, R63) -/

section Samples

theorem sampleTrail_length (cfg : ChanCfg) (now : Time) (c : Channel) (samples : List Sample) :
    (sampleTrail cfg now c samples).length = samples.length := by
  induction samples generalizing c with
  | nil => rfl
  | cons a rest ih => exact congrArg (· + 1) (ih _)

theorem seedTrail_length (cfg : ChanCfg) (now : Time) (c : Channel) (samples : List Sample) :
    (seedTrail cfg now c samples).length = samples.length := by
  cases samples with
  | nil => rfl
  | cons a rest => exact congrArg (· + 1) (sampleTrail_length ..)

/-- The acceptance of a frame leaves the channel's state, and each sample has its record. -/
theorem channelFrame_accepts (cfg : ChanCfg) (now : Time) (seq : Byte) (samples : List Sample) (c : Channel) :
    (channelFrame cfg now seq samples c).1.state = c.state ∧
      (channelFrame cfg now seq samples c).2.length ≤ samples.length := by
  unfold channelFrame
  dsimp only
  repeat' split
  · exact ⟨rfl, Nat.zero_le _⟩
  · exact ⟨rfl, (sampleTrail_length ..).le⟩
  · exact ⟨rfl, (sampleTrail_length ..).le⟩
  · exact ⟨rfl, (seedTrail_length ..).le⟩
  · exact ⟨rfl, (seedTrail_length ..).le⟩

/-- Along a trail without changes the channel's state stays. -/
theorem state_of_no_change {i : Fin 32} {n : Nat} {c : Channel} {trail : List Channel} (h : changesOf i n c trail = []) :
    (trail.getLastD c).state = c.state := by
  induction trail generalizing n c with
  | nil => rfl
  | cons d rest ih =>
    unfold changesOf at h
    dsimp only at h
    split at h
    · next same =>
      rw [List.getLastD_cons]
      exact (ih h).trans same.1
    · cases h

/-- No change is lost by the order in which the changes are handed over. -/
theorem no_change_of_inSampleOrder {n : Nat} {changes : List (Nat × Change)} (range : ∀ x ∈ changes, x.1 < n)
    (h : inSampleOrder n changes = []) : changes = [] := by
  by_contra some
  obtain ⟨x, hx⟩ := List.exists_mem_of_ne_nil changes some
  have handed : x.2 ∈ inSampleOrder n changes := List.mem_flatMap.mpr ⟨x.1, List.mem_range.mpr (range x hx),
    List.mem_map.mpr ⟨x, List.mem_filter.mpr ⟨hx, beq_self_eq_true _⟩, rfl⟩⟩
  rw [h] at handed
  cases handed

variable (src seq : Byte) (samples : List Sample) (s : State)

theorem frameChanges_range {i : Fin 32} {x : Nat × Change} (h : x ∈ s.frameChanges src seq samples i) :
    x.1 < samples.length := by
  unfold State.frameChanges at h
  split at h
  · obtain ⟨j, old, new, hk, -, hnew, -⟩ := (mem_changesOf (x := x.2) (k := x.1)).mp h
    have inside := (List.getElem?_eq_some_iff.mp hnew).1
    have := (channelFrame_accepts s.tables.channels[i] s.now seq samples s.channels[i]).2
    unfold State.frameOf at inside
    omega
  · cases h

theorem state_afterFrame {i : Fin 32} (h : s.frameChanges src seq samples i = []) :
    (s.afterFrame src seq samples i).state = s.channels[i].state := by
  unfold State.frameChanges at h
  unfold State.afterFrame
  split
  · next hears =>
    rw [if_pos hears] at h
    exact (state_of_no_change h).trans (channelFrame_accepts ..).1
  · rfl

/-- ALERT_OUT's ground depends on the channels' states alone among all that a channel holds. -/
theorem outline_of_states {s : State} {channels : Vector Channel 32} (h : ∀ i : Fin 32, channels[i].state = s.channels[i].state) :
    ({ s with channels := channels } : State).outline = s.outline := by
  have active : ({ s with channels := channels } : State).anyChannelActive = s.anyChannelActive := by
    rw [Bool.eq_iff_iff, anyChannelActive_iff, anyChannelActive_iff]
    simp only [h]
  have ground : ({ s with channels := channels } : State).alertGround = s.alertGround := by
    unfold State.alertGround
    rw [active]
    rfl
  unfold State.outline
  rw [ground]

/-- Changes handed over one after another form ALERT_OUT, where there is one. -/
theorem State.Upholds.allHanded {t s : State} (h : t.Upholds s) (c : Change) (changes : List Change) :
    (handAll (c :: changes) t).Keeps s := by
  unfold handAll
  rw [List.foldl_cons]
  exact (keeps_foldl (fun s c => keeps_handChange c s) changes _).trans (h.handed c)

theorem keeps_sampleFrame (payload : List Byte) : (sampleFrame src payload s).Keeps s := by
  match payload with
  | [] => exact .refl s
  | [_] => exact .refl s
  | seq :: count :: rest =>
    cases present : (s.nodeCfg src.toNat).present with
    | false =>
      rw [sampleFrame_absent present]
      exact .refl s
    | true =>
      rw [sampleFrame_present present]
      cases order : inSampleOrder (readSamples rest).length
          ((List.finRange 32).flatMap (s.frameChanges src seq (readSamples rest))) with
      | nil =>
        have none := no_change_of_inSampleOrder (fun x hx => by
          obtain ⟨i, -, hi⟩ := List.mem_flatMap.mp hx
          exact frameChanges_range src seq _ s hi) order
        refine keeps_of_outline (outline_of_states fun i => ?_)
        have still : s.frameChanges src seq (readSamples rest) i = [] :=
          List.flatMap_eq_nil_iff.mp none i (List.mem_finRange i)
        rw [Fin.getElem_fin, Vector.getElem_ofFn]
        exact state_afterFrame src seq _ s still
      | cons c changes =>
        have moved (channels : Vector Channel 32) : ({ s with channels := channels } : State).Upholds s := upholds_of_outline rfl
        exact State.Upholds.allHanded (moved _) c changes

end Samples

end Sys2Proof.Machine
end

section
/-! SUPPORT. Requests and frames keep the copy, the fit of the site, ALERT_OUT and TRIP_OUT. -/

namespace Sys2Proof.Machine

/-! ### Operations on the site (R48, R49, R76 to R82) -/

section SiteRequests
variable {s : State}

/-- What leaves the outline may follow. -/
theorem State.Keeps.same {t u : State} (h : t.Keeps s) (e : u.outline = t.outline) : u.Keeps s :=
  (keeps_of_outline e).trans h

/-- Channels whose states stay leave the outline. -/
theorem keeps_channels_map {f : Channel → Channel} (h : ∀ c, (f c).state = c.state) (s : State) :
    ({ s with channels := s.channels.map f } : State).Keeps s :=
  keeps_of_outline (outline_of_states fun i => by rw [Fin.getElem_fin, Vector.getElem_map]; exact h _)

theorem keeps_clearPeaks (s : State) : (clearPeaks s).Keeps s :=
  keeps_channels_map (f := fun c => { c with peakH := 0, peakU := 0 }) (fun _ => rfl) s

/-- TRIP_OUT may be released at no request, outside SHUTTING (R64). -/
theorem keeps_released {released : Bool} (request : s.trig.requestLevel = 0) (state : s.site.state ≠ .shutting) :
    ({ s with trig.tripOut := s.trig.tripOut && released } : State).Keeps s :=
  ⟨⟨id, fun ⟨a, b, c⟩ => ⟨a, b, c⟩, fun ⟨copy, levels, le, _, _⟩ =>
    ⟨copy, levels, le, fun two => absurd (request.symm.trans two) (by decide), fun shutting => absurd shutting state⟩⟩, id⟩

/-- All flags cleared: no request, and the site state as it was (R49). -/
theorem requestLevel_clearFlags (s : State) : (clearFlags (fun _ => true) s).trig.requestLevel = 0 ∧
    (clearFlags (fun _ => true) s).site.state = s.site.state := by
  obtain ⟨flags, level, cause, -, cleared⟩ := clearFlags_all s
  rw [cleared]
  exact ⟨rfl, rfl⟩

theorem keeps_releaseTripOut (request : s.trig.requestLevel = 0) : (releaseTripOut s).Keeps s := by
  unfold releaseTripOut
  split
  · next idle =>
    have released := keeps_released (s := s) (released := false) request (by rw [idle.1]; decide)
    rwa [Bool.and_false] at released
  · exact .refl s

/-- A restart begins with all flags and peaks cleared and TRIP_OUT released (R77). -/
theorem keeps_restartCleared (held : s.site.state = .safeHold) : ({ clearPeaks (clearFlags (fun _ => true) s) with
    trig.tripOut := false, site.restartIncomplete := false } : State).Keeps s := by
  obtain ⟨request, state⟩ := requestLevel_clearFlags s
  have cleared := keeps_clearFlags (fun _ => true) s
  generalize clearFlags (fun _ => true) s = u at request state cleared ⊢
  have peaks := (keeps_clearPeaks u).trans cleared
  have notShutting : u.site.state ≠ .shutting := by rw [state, held]; decide
  have released := (keeps_released (s := clearPeaks u) (released := false) request notShutting).trans peaks
  refine released.same ?_
  rw [Bool.and_false]
  rfl

theorem admits_restarting (l : Nat) : s.Admits .restarting l none :=
  ⟨fun h => h.elim nofun nofun, fun _ => rfl, nofun, nofun⟩

theorem keeps_startRestart (held : s.site.state = .safeHold) : (startRestart s).Keeps s := by
  have cleared := keeps_restartCleared held
  unfold startRestart
  dsimp only
  generalize ({ clearPeaks (clearFlags (fun _ => true) s) with
    trig.tripOut := false, site.restartIncomplete := false } : State) = u at cleared ⊢
  have started := cleared.same ((outline_startPlan _ .restart).trans (outline_recoverSlot u))
  have told (l : Nat) := State.Keeps.same ((keeps_setSite (admits_restarting l)).trans started) (outline_raiseNotice _ none)
  split
  · exact (keeps_takeCompletion ..).trans (told _)
  · exact told _

theorem keeps_holdAborted (s : State) : (holdAborted s).Keeps s :=
  (keeps_hold none _ .restartAborted).trans (keeps_of_outline (outline_abandonRun s))

theorem keeps_forceAt {level : Nat} (h : level ≤ 2) (s : State) : (forceAt level s).Keeps s := by
  have forced : ({ s with trig.forcedLevel := level } : State).Keeps s :=
    keeps_of_levels rfl fun ⟨_, work, shadow, stored, committing⟩ => ⟨h, work, shadow, stored, committing⟩
  exact (keeps_formRequest _).trans ((keeps_setFlag ..).trans forced)

theorem keeps_admitCommit (src tag : Byte) (named : Vector Bool 4) (s : State) : (admitCommit src tag named s).Keeps s :=
  keeps_of_levels rfl fun ⟨forced, work, shadow, stored, _⟩ =>
    ⟨forced, work, shadow, stored, fun c hc => by cases hc; exact shadow⟩

theorem keeps_clearAllCounters (s : State) : (clearAllCounters s).Keeps s :=
  (keeps_channels_map (f := Channel.uncounted) (fun _ => rfl) s).same rfl

end SiteRequests

/-! ### Requests -/

section Requests
variable (q : Asker) (s : State)

variable {s} in
theorem State.Keeps.answered {t : State} (h : t.Keeps s) (st : Status) (data : List Byte) : (answer q st data t).Keeps s := h.same rfl

theorem keeps_refuse (st : Status) : (refuse q st s).Keeps s := keeps_of_outline rfl

theorem keeps_reqWriteShadow (b k f c : Byte) (r : List Byte) : (reqWriteShadow q b k f c r s).Keeps s := by
  unfold reqWriteShadow
  split
  · split
    · next shadow clamped written =>
      split
      · exact keeps_refuse q s _
      · have rewritten : ({ s with store.shadow := shadow } : State).Keeps s :=
          keeps_of_levels rfl fun ⟨forced, work, old, stored, committing⟩ =>
            ⟨forced, work, levelsInRange_writeRecords _ old written, stored, committing⟩
        exact rewritten.answered q _ _
    · exact keeps_refuse q s _
  · exact keeps_refuse q s _

theorem keeps_reqCommit (mask : Byte) : (reqCommit q mask s).Keeps s := by
  have named (set : Vector Bool 4) : (commitNamed q set s).Keeps s := by
    unfold commitNamed
    split
    · exact keeps_refuse q s _
    · split
      · exact keeps_refuse q s _
      · split
        · exact keeps_refuse q s _
        · split
          · exact keeps_of_outline rfl
          · split
            · exact keeps_of_outline rfl
            · exact keeps_admitCommit ..
  unfold reqCommit
  split
  · split
    · exact named _
    · exact keeps_refuse q s _
  · exact keeps_refuse q s _

theorem keeps_reqAuthorizeRestart : (reqAuthorizeRestart q s).Keeps s := by
  unfold reqAuthorizeRestart
  split
  · exact keeps_refuse q s _
  · next held =>
    split
    · exact keeps_refuse q s _
    · split
      · exact keeps_refuse q s _
      · exact (keeps_startRestart (not_not.mp held)).answered q _ _

theorem keeps_reqAbortRestart : (reqAbortRestart q s).Keeps s := by
  unfold reqAbortRestart
  split
  · exact (keeps_holdAborted s).answered q _ _
  · exact keeps_refuse q s _

theorem keeps_reqForceTrip (level : Byte) : (reqForceTrip q level s).Keeps s := by
  unfold reqForceTrip
  split
  · exact (keeps_forceAt (by omega) s).answered q _ _
  · exact keeps_refuse q s _

theorem keeps_reqClearTriggers : (reqClearTriggers q s).Keeps s :=
  ((keeps_releaseTripOut (requestLevel_clearFlags s).1).trans (keeps_clearFlags _ s)).answered q _ _

theorem keeps_reqIsolateZone (zone : Byte) : (reqIsolateZone q zone s).Keeps s := by
  unfold reqIsolateZone
  split
  · split
    · exact (keeps_isolate _ s).answered q _ _
    · exact keeps_refuse q s _
  · exact keeps_refuse q s _

theorem keeps_reqRestoreZone (zone : Byte) : (reqRestoreZone q zone s).Keeps s := by
  unfold reqRestoreZone
  split
  · split
    · exact (keeps_restore _ s).answered q _ _
    · exact keeps_refuse q s _
  · exact keeps_refuse q s _

/-- A read answers, or refuses an argument outside its set. -/
theorem outline_reads : (reqReadStatus q s).outline = s.outline ∧ (∀ x, (reqReadChannel q x s).outline = s.outline) ∧
    (∀ x, (reqReadZone q x s).outline = s.outline) ∧ (∀ x, (reqReadNode q x s).outline = s.outline) ∧
    (∀ x, (reqReadStep q x s).outline = s.outline) ∧ (∀ x, (reqReadTripRecord q x s).outline = s.outline) ∧
    (∀ x, (reqReadCounters q x s).outline = s.outline) ∧
    ∀ b k f c, (reqReadShadow q b k f c s).outline = s.outline := by
  refine ⟨rfl, fun x => ?_, fun x => ?_, fun x => ?_, fun x => ?_, fun x => ?_, fun x => ?_, fun b k f c => ?_⟩
  · unfold reqReadChannel; split <;> rfl
  · unfold reqReadZone; split <;> rfl
  · unfold reqReadNode; split <;> rfl
  · unfold reqReadStep; split <;> rfl
  · unfold reqReadTripRecord; split <;> rfl
  · unfold reqReadCounters; split <;> rfl
  · unfold reqReadShadow
    split
    · split <;> rfl
    · rfl

theorem outline_reqSetProtection (mask : Byte) : (reqSetProtection q mask s).outline = s.outline := by
  unfold reqSetProtection; split <;> rfl

theorem outline_reqReloadProtection : (reqReloadProtection q s).outline = s.outline := by
  unfold reqReloadProtection; split <;> rfl

theorem outline_reqResetPort (port : Byte) : (reqResetPort q port s).outline = s.outline := by
  unfold reqResetPort acceptResetP
  repeat' split
  all_goals rfl

theorem keeps_perform (r : Req) : (perform q r s).Keeps s := by
  obtain ⟨status, channel, zone, node, step, record, counters, shadow⟩ := outline_reads q s
  cases r with
  | readStatus => exact keeps_of_outline status
  | readChannel => exact keeps_of_outline (channel _)
  | readZone => exact keeps_of_outline (zone _)
  | readNode => exact keeps_of_outline (node _)
  | readStep => exact keeps_of_outline (step _)
  | readTripRecord => exact keeps_of_outline (record _)
  | readCounters => exact keeps_of_outline (counters _)
  | readShadow => exact keeps_of_outline (shadow ..)
  | readOutstanding | readWarnings | setTime | clearCause | resetPart => exact keeps_of_outline rfl
  | writeShadow => exact keeps_reqWriteShadow q s ..
  | commit => exact keeps_reqCommit q s _
  | setProtection => exact keeps_of_outline (outline_reqSetProtection q s _)
  | reloadProtection => exact keeps_of_outline (outline_reqReloadProtection q s)
  | authorizeRestart => exact keeps_reqAuthorizeRestart q s
  | abortRestart => exact keeps_reqAbortRestart q s
  | forceTrip => exact keeps_reqForceTrip q s _
  | clearTriggers => exact keeps_reqClearTriggers q s
  | isolateZone => exact keeps_reqIsolateZone q s _
  | restoreZone => exact keeps_reqRestoreZone q s _
  | clearCounters => exact (keeps_clearAllCounters s).answered q _ _
  | resetPort => exact keeps_of_outline (outline_reqResetPort q s _)

theorem keeps_handleRequest (src tag : Byte) (payload : List Byte) : (handleRequest src tag payload s).Keeps s := by
  have counted : (countHandled s).Keeps s := keeps_of_outline rfl
  unfold handleRequest
  split
  · unfold performPayload
    split
    · exact (keeps_refuse ..).trans counted
    · split
      · exact (keeps_perform ..).trans counted
      · exact (keeps_refuse ..).trans counted
  · exact keeps_of_outline rfl

end Requests

/-! ### Frames -/

section Frames
variable (f : Frame) (s : State)

theorem outline_setPort (port : Port) (r : Receiver) (c : PortCount) : (setPort port r c s).outline = s.outline := by
  cases port <;> rfl

theorem keeps_handToExecutor (code : Byte) : (handToExecutor f code s).Keeps s := by
  unfold handToExecutor
  split
  · exact keeps_runEvent (noRunner_takeReply ..)
  · split
    · exact keeps_runEvent (noRunner_takeReport ..)
    · exact .refl s

theorem keeps_routeP : (routeP f s).Keeps s := by
  have heard : (hearSource f s).Keeps s := by
    obtain ⟨r, e⟩ := hearSource_router f s
    rw [e]
    exact keeps_of_outline rfl
  have taken : (handToBlocks f (hearSource f s)).Keeps (hearSource f s) := by
    unfold handToBlocks
    split
    · exact keeps_sampleFrame ..
    · split
      · exact keeps_warningFrame ..
      · split
        · exact keeps_handToExecutor ..
        · exact .refl _
  have forwarded : (routeP f s).Keeps (handToBlocks f (hearSource f s)) := by
    obtain ⟨r, e⟩ := forwardP_router f (handToBlocks f (hearSource f s))
    unfold routeP
    rw [e]
    exact keeps_of_outline rfl
  exact forwarded.trans (taken.trans heard)

theorem outline_queueToP : (queueToP f s).outline = s.outline := by
  unfold queueToP answerFor
  dsimp only
  repeat' split
  all_goals rfl

theorem outline_routeThroughS : (routeThroughS f s).outline = s.outline := by
  have interlocked : (interlock f s).outline = s.outline := by
    unfold interlock answerFor
    split
    · split <;> rfl
    · exact outline_queueToP f s
  unfold routeThroughS
  split
  · rfl
  · split
    · split
      · exact interlocked
      · exact outline_queueToP f s
    · rfl

theorem keeps_route (port : Port) : (route port f s).Keeps s := by
  cases port with
  | p => exact keeps_routeP f s
  | s =>
    unfold route routeS
    dsimp only
    split
    · exact keeps_handleRequest ..
    · exact keeps_of_outline (outline_routeThroughS f s)

theorem keeps_frameArrives (port : Port) : (frameArrives port f s).Keeps s := by
  unfold frameArrives
  dsimp only
  split
  · split
    · exact (keeps_route ..).trans (keeps_of_outline (outline_setPort ..))
    · exact keeps_of_outline (outline_setPort ..)
  · exact .refl s

theorem keeps_characterArrives (port : Port) (v : Byte) (marker framing : Bool) :
    (characterArrives port v marker framing s).Keeps s := by
  unfold characterArrives
  dsimp only
  split
  · split
    · exact (keeps_route ..).trans (keeps_of_outline (outline_setPort ..))
    · exact keeps_of_outline (outline_setPort ..)
  · exact .refl s

theorem keeps_gapExpires (port : Port) : (gapExpires port s).Keeps s := by
  unfold gapExpires
  dsimp only
  split
  · split
    · exact .refl s
    · exact keeps_of_outline (outline_setPort ..)
    · exact keeps_of_outline (outline_setPort ..)
  · exact .refl s

end Frames

end Sys2Proof.Machine
end

section
/-! SUPPORT. Activations, the start-up load, resets, follow-ups and the tick keep the copy, the fit of the site, ALERT_OUT and TRIP_OUT
(R28, R43, R50, R66, R136, R142, R146, R189). -/

namespace Sys2Proof.Machine

section Store
variable {s : State}

/-! ### Activation (R142) -/

theorem levels_reloadAwaiting (h : s.outline.levels) : (reloadAwaiting s).outline.levels := by
  obtain ⟨forced, work, shadow, stored, committing⟩ := h
  have copied := levelsInRange_copied (set := fun b => s.store.awaiting[b]) stored work
  rw [← work_reloadAwaiting] at copied
  exact ⟨forced, copied, shadow, stored, committing⟩

theorem upholds_reloadAwaiting (s : State) : (reloadAwaiting s).Upholds s := upholds_of_levels rfl levels_reloadAwaiting

/-- Where block 3 awaits no activation the site tables stay, and with them ALERT_OUT's ground. -/
theorem keeps_reloadAwaiting (h : s.store.awaiting[(3 : Fin 4)] = false) : (reloadAwaiting s).Keeps s := by
  have tables : (reloadAwaiting s).tables = s.tables := by
    unfold State.tables
    rw [work_reloadAwaiting, site_copied, h]
    rfl
  have ground : (reloadAwaiting s).alertGround = s.alertGround := by
    unfold State.alertGround State.params
    rw [tables]
    rfl
  refine keeps_of_levels ?_ levels_reloadAwaiting
  unfold State.outline
  rw [ground]
  rfl

theorem State.Upholds.tablesTaken {t : State} (h : t.Upholds s) (old : SiteTables) : (takeTables old t).Keeps s := by
  have routed : (routerTakesTables old t).Upholds t := upholds_of_outline rfl
  have voted := (keeps_evaluateAll _).trans (routed.trans h).restarted
  have fed : (feedTakesTables (evaluateAll (restartAllChannels (routerTakesTables old t)))).Keeps s := by
    unfold feedTakesTables
    split
    · exact (keeps_feedRises _).trans voted
    · exact voted
  unfold takeTables
  exact (keeps_formRequest _).trans fed.toUpholds.remoteFormed

theorem keeps_leaveUnconfigured (s : State) : (leaveUnconfigured s).Keeps s := by
  unfold leaveUnconfigured
  split
  · exact keeps_enterByRing s
  · exact .refl s

theorem keeps_activate (s : State) : (activate s).Keeps s := by
  have taken : (if s.store.awaiting[(3 : Fin 4)] then takeTables s.tables (reloadAwaiting s) else reloadAwaiting s).Keeps s := by
    split
    · exact (upholds_reloadAwaiting s).tablesTaken _
    · next none => exact keeps_reloadAwaiting (Bool.eq_false_iff.mpr none)
  rw [activate_eq]
  unfold State.activated
  rw [markConfigurationChanged_eq]
  exact (keeps_leaveUnconfigured _).trans (taken.same rfl)

/-! ### Commits (R141) -/

theorem outline_joinOrHold (r : Response) (s : State) : (joinOrHold r s).outline = s.outline := by
  unfold joinOrHold; split <;> rfl

theorem keeps_endCommit (c : CommitRun) (st : Status) (data : List Byte) (s : State) : (endCommit c st data s).Keeps s := by
  have ended : ({ s with store.commit := none } : State).Keeps s :=
    keeps_of_levels rfl fun ⟨forced, work, shadow, stored, _⟩ => ⟨forced, work, shadow, stored, nofun⟩
  exact ended.same (outline_joinOrHold ..)

theorem keeps_committed (c : CommitRun) (s : State) : (committed c s).Keeps s := by
  have awaits := fun set : Vector Bool 4 => (keeps_endCommit c .committed [] s).same
    (u := { endCommit c .committed [] s with store.awaiting := set }) rfl
  unfold committed
  dsimp only
  split
  · exact (keeps_activate _).trans (awaits _)
  · exact (awaits _).same rfl

theorem levels_programmed (h : s.outline.levels) : s.programmed.site.levelsInRange := by
  obtain ⟨-, -, -, stored, committing⟩ := h
  unfold State.programmed
  split
  · next c hc => exact committing c hc
  · exact stored

theorem keeps_blockWritten (b : Fin 4) (passes : Bool) (s : State) : (blockWritten b passes s).Keeps s := by
  have programmed (cond : Vector BlockCond 4) : ({ s with
      store.writing := none, store.cond := cond, nv := s.nv.program b s.programmed passes } : State).Keeps s :=
    keeps_of_levels rfl fun levels => by
      obtain ⟨forced, work, shadow, stored, committing⟩ := id levels
      exact ⟨forced, work, shadow, levelsInRange_copyBlock (levels_programmed levels) stored, committing⟩
  have stripped (cond : Vector BlockCond 4) (writes : List OtherWrite) : ({ s with
      store.writing := none, store.cond := cond, store.otherWrites := writes
      nv := s.nv.program b s.programmed passes } : State).Keeps s := (programmed cond).same rfl
  unfold blockWritten
  dsimp only
  split
  · exact programmed _
  · split
    · split
      · exact programmed _
      · exact (keeps_committed ..).trans (programmed _)
    · exact (keeps_endCommit ..).trans (stripped _ _)

/-! ### The start-up load (R66, R136) -/

theorem upholds_loadStore (s : State) : (loadStore s).Upholds s :=
  upholds_of_levels rfl fun ⟨forced, _, _, stored, committing⟩ =>
    have loaded : s.nv.loaded.site.levelsInRange := by
      rw [loaded_eq]
      exact levelsInRange_copied stored defaultTables_levelsInRange
    ⟨forced, loaded, loaded, stored, committing⟩

/-- TRIP_OUT may be asserted at any time (R64). -/
theorem keeps_asserted (out : Bool) (s : State) : ({ s with trig.tripOut := s.trig.tripOut || out } : State).Keeps s :=
  ⟨⟨id, fun ⟨a, b, c⟩ => ⟨a, b, c⟩, fun ⟨copy, levels, request, atRequest, inShutting⟩ =>
    ⟨copy, levels, request, fun two => Bool.or_eq_true_iff.mpr (.inl (atRequest two)),
      fun shutting two => Bool.or_eq_true_iff.mpr (.inl (inShutting shutting two))⟩⟩, id⟩

theorem keeps_enterService (s : State) : (enterService s).Keeps s := by
  have scanned (record : Option (Fin 16)) (trip : Nat) :
      ({ s with site.record := record, site.trip := trip } : State).Keeps s := keeps_of_outline rfl
  have marked (record : Option (Fin 16)) (trip : Nat) (out : Bool) : ({ s with
      site.record := record, site.trip := trip, trig.tripOut := s.trig.tripOut || out } : State).Keeps s :=
    (keeps_asserted out s).same rfl
  unfold enterService
  dsimp only
  split
  · exact (keeps_enterByRing _).trans (marked _ _ _)
  · have unconfigured (u : State) : (setSite .unconfigured 0 none u).Keeps u :=
      keeps_setSite ⟨fun _ => rfl, fun _ => rfl, nofun, nofun⟩
    exact State.Keeps.same ((unconfigured _).trans (scanned _ _)) (outline_raiseNotice ..)

theorem keeps_completeLoad (s : State) : (completeLoad s).Keeps s := by
  have running : ({ s with phase := .running } : State).Upholds s := upholds_of_outline rfl
  have loaded := ((upholds_loadStore { s with phase := .running }).trans running).restarted
  unfold completeLoad
  exact (keeps_enterService _).trans ((keeps_reloadQuiet _).trans ((keeps_evaluateAll _).trans loaded))

/-! ### Resets (R146, R189) -/

theorem blocks_interruptWrites (s : State) : (interruptWrites s).blocks = s.nv.blocks := by
  unfold interruptWrites
  split <;> rfl

theorem keeps_partReset (phase : Phase) (s : State) : (partReset phase s).Keeps s := by
  refine State.Upholds.keeps ⟨fun _ => ⟨rfl, rfl⟩, fun _ => ?_, fun held => ?_⟩ (alertFormed_iff.mp reset_alertFormed)
  · exact ⟨fun _ => rfl, fun _ => rfl, nofun⟩
  · obtain ⟨copy, ⟨forced, work, shadow, -, committing⟩, request, atRequest, inShutting⟩ := tripOutHeld_iff.mp reset_tripOutHeld
    obtain ⟨-, -, -, stored, -⟩ := held.levels
    rw [← blocks_interruptWrites] at stored
    exact ⟨copy, ⟨forced, work, shadow, stored, committing⟩, request, atRequest, inShutting⟩

/-! ### Follow-ups (log 3) -/

theorem keeps_commandedReset (addr rate : Fin 4) (s : State) : (commandedReset addr rate s).Keeps s := by
  unfold commandedReset
  split
  · exact (keeps_partReset .loading s).same rfl
  · exact .refl s

theorem outline_pChooses (s : State) : (pChooses s).outline = s.outline := by
  unfold pChooses
  repeat' split
  all_goals rfl

theorem outline_sChooses (s : State) : (sChooses s).outline = s.outline := by
  unfold sChooses sChoosesOther
  repeat' split
  all_goals rfl

theorem outline_heldFollow (s : State) : (heldFollow s).outline = s.outline := by
  unfold heldFollow; split <;> rfl

theorem keeps_followUp (s : State) : ∀ f ∈ followUpSteps, (f s).Keeps s := by
  intro f hf
  simp only [followUpSteps, List.mem_cons, List.not_mem_nil, or_false] at hf
  rcases hf with rfl | rfl | rfl | rfl | rfl | rfl | rfl | rfl | rfl
  · exact keeps_commandedReset ..
  · unfold activationFollows
    split
    · exact keeps_activate s
    · exact .refl s
  · refine keeps_of_outline ?_
    unfold sResetFollows sResetTakesEffect
    repeat' split
    all_goals rfl
  · refine keeps_of_outline ?_
    unfold pResetFollows pResetTakesEffect
    repeat' split
    all_goals rfl
  · exact keeps_of_outline (outline_heldFollow s)
  · exact keeps_of_outline (outline_pChooses s)
  · exact keeps_of_outline (outline_sChooses s)
  · exact keeps_of_outline (outline_heldFollow s)
  · refine keeps_of_outline ?_
    unfold takeUpFollows
    split
    · exact outline_of_store s (takeUp_keeps _)
    · rfl

theorem keeps_followUps (fs : List (State → State)) (hfs : ∀ f ∈ fs, f ∈ followUpSteps) (s : State) :
    (fs.foldl (fun s f => f s) s).Keeps s := by
  induction fs generalizing s with
  | nil => exact .refl s
  | cons f fs ih =>
    exact (ih (fun g hg => hfs g (List.mem_cons_of_mem f hg)) _).trans (keeps_followUp s f (hfs f List.mem_cons_self))

theorem keeps_caughtUpTo (k : Nat) (s : State) : (s.caughtUpTo k).Keeps s :=
  keeps_followUps _ (fun _ hf => List.mem_of_mem_take hf) s

/-! ### The tick -/

theorem keeps_tick (s : State) : (tick s).Keeps s := by
  unfold tick
  split
  · have timed := keeps_channels_map (f := Channel.tick) (fun _ => rfl) s
    have ticked : (tickTimers s).Keeps s := timed.same rfl
    rw [sampleAll_eq]
    exact ticked.same rfl
  · exact keeps_of_outline rfl
  · exact .refl s
  · exact .refl s

end Store

end Sys2Proof.Machine
end

section
/-! SUPPORT. Every command, and with it every step, keeps the copy of the request, the fit of level and hold reason, ALERT_OUT and
TRIP_OUT. -/

namespace Sys2Proof.Machine

section Rows
variable {s : State}

/-- A command that takes an operation after the first `k` follow-ups keeps what the operation keeps. -/
theorem keeps_after (k : Nat) {f : State → State} (hf : ∀ t, (f t).Keeps t) :
    ∃ t, (.next (f (s.caughtUpTo k)) : Host.Outcome State Fault Refusal) = .next t ∧ t.Keeps s :=
  ⟨_, rfl, (hf _).trans (keeps_caughtUpTo k s)⟩

/-- A command that is an event of its own keeps what its operation keeps. -/
theorem keeps_event {f : State → State} (hf : ∀ t, (f t).Keeps t) : ∃ t, event f s = .next t ∧ t.Keeps s :=
  keeps_after 9 hf

/-- A timer or input row keeps what its event keeps. -/
theorem keeps_whenDue (due : State → Bool) {f : State → State} (hf : ∀ t, (f t).Keeps t) :
    ∃ t, whenDue due f s = .next t ∧ t.Keeps s := by
  refine keeps_event fun t => ?_
  split
  · exact hf t
  · exact .refl t

theorem keeps_pFrameRow {c : Instr} {f : Frame} (hc : pFrameOf c = some f) : ∃ t, exec c s = .next t ∧ t.Keeps s := by
  rw [exec_of_pFrameOf hc]
  exact keeps_after 9 fun t => keeps_frameArrives f t .p

theorem keeps_sFrameRow {c : Instr} {f : Frame} (hc : sFrameOf c = some f) : ∃ t, exec c s = .next t ∧ t.Keeps s := by
  rw [exec_of_sFrameOf hc]
  exact keeps_after 9 fun t => keeps_frameArrives f t .s

theorem keeps_requestRow {c : Instr} {src tag : Byte} {r : Req} (hc : requestOf c = some (src, tag, r)) :
    ∃ t, exec c s = .next t ∧ t.Keeps s := by
  rw [exec_of_requestOf hc]
  exact keeps_after 9 fun t => keeps_frameArrives (t.requestFrame src tag r.payload) t .s

/-- A follow-up's own row finds those before it taken. -/
theorem keeps_followUpRow (k : Nat) {f : State → State} (hf : f ∈ followUpSteps) :
    ∃ t, (.next (f (s.caughtUpTo k)) : Host.Outcome State Fault Refusal) = .next t ∧ t.Keeps s :=
  keeps_after k fun t => keeps_followUp t f hf

end Rows

/-! ### The operations of the other rows -/

section Operations
variable (s : State)

theorem keeps_contactChanges (i : Fin 4) : (contactChanges i s).Keeps s := by
  have flipped : (flipInput i.castSucc s).Keeps s := keeps_of_outline rfl
  unfold contactChanges
  dsimp only
  split
  · exact (keeps_latch ..).trans flipped
  · exact flipped

theorem keeps_utilityChanged : (utilityChanged s).Keeps s := by
  have started (start : Option Time) : ({ flipInput 4 s with trig.feedStart := start } : State).Keeps s := keeps_of_outline rfl
  unfold utilityChanged
  dsimp only
  split
  · split
    · exact (keeps_feedRises _).trans (started _)
    · exact started _
  · exact (started none).same rfl

theorem outline_pEnds : (pEnds s).outline = s.outline := by
  unfold pEnds
  split
  · rfl
  · dsimp only
    split <;> rfl

theorem outline_sEnds : (sEnds s).outline = s.outline := by
  unfold sEnds resetAfter
  repeat' split
  all_goals rfl

theorem outline_heldJoin : (heldJoin s).outline = s.outline := by
  unfold heldJoin heldResponseJoins
  repeat' split
  all_goals rfl

end Operations

/-- Every command keeps the invariants (the rows of the table in their groups). -/
theorem keeps_exec (c : Instr) (s : State) : ∃ t, exec c s = .next t ∧ t.Keeps s := by
  cases c with
  -- resets and power
  | powerOnReset addr rate =>
    unfold exec execPowerOnReset
    exact keeps_event fun t => (keeps_partReset .loading t).same rfl
  | resetPinAssert =>
    unfold exec execResetPinAssert
    refine keeps_event fun t => ?_
    have cleared := keeps_partReset .held t
    split
    · exact cleared.same rfl
    · exact cleared.same rfl
    · exact .refl t
    · exact .refl t
  | resetPinRelease =>
    unfold exec execResetPinRelease
    refine keeps_event fun t => keeps_of_outline ?_
    split <;> rfl
  | startUpLoadComplete =>
    unfold exec execStartUpLoadComplete
    refine keeps_event fun t => ?_
    split
    · exact keeps_completeLoad t
    all_goals exact .refl t
  | commandedReset a r =>
    unfold exec execCommandedReset
    exact ⟨_, rfl, keeps_commandedReset a r s⟩
  | lossOfPower =>
    unfold exec execLossOfPower
    exact keeps_event (keeps_partReset .unpowered)
  -- frames and characters
  | receiveCharacter port v marker framing =>
    unfold exec execReceiveCharacter
    refine keeps_event fun t => ?_
    rw [bitsArrive_charBits]
    exact keeps_characterArrives t port v marker _
  | receiveGapExpiry port =>
    unfold exec execReceiveGapExpiry
    exact keeps_event fun t => keeps_gapExpires t port
  | pSampleFrame | pWarningFrame | pReplyFrame | pStatusFrame | pOtherFrame => exact keeps_pFrameRow rfl
  | sCommandFrame | sOtherFrame => exact keeps_sFrameRow rfl
  | unknownRequest src tag payload =>
    unfold exec execUnknownRequest
    exact keeps_event fun t => keeps_frameArrives _ t .s
  | readStatus | readChannel | readZone | readNode | readStep | readOutstanding | readWarnings | readTripRecord
  | readCounters | readShadow | writeShadow | commit | setProtection | reloadProtection | authorizeRestart
  | abortRestart | forceTrip | clearTriggers | isolateZone | restoreZone | setTime | clearCounters | clearCause
  | resetPortS | resetPortP | resetPart => exact keeps_requestRow rfl
  -- transmission and what follows an event
  | pTransmissionEnd =>
    unfold exec execPTransmissionEnd
    refine keeps_event fun t => ?_
    split
    · exact keeps_of_outline (outline_pEnds t)
    · exact .refl t
  | sTransmissionEnd =>
    unfold exec execSTransmissionEnd
    refine keeps_event fun t => ?_
    split
    · exact keeps_of_outline (outline_sEnds t)
    · exact .refl t
  | sPortResetEffect =>
    unfold exec execSPortResetEffect
    exact keeps_followUpRow 2 (by simp [followUpSteps])
  | pPortResetEffect =>
    unfold exec execPPortResetEffect
    exact keeps_followUpRow 3 (by simp [followUpSteps])
  | heldResponseJoin =>
    unfold exec execHeldResponseJoin
    exact keeps_after 4 fun t => keeps_of_outline (outline_heldJoin t)
  | pArbiterChoice =>
    unfold exec execPArbiterChoice
    exact keeps_followUpRow 5 (by simp [followUpSteps])
  | sArbiterChoice =>
    unfold exec execSArbiterChoice
    exact keeps_followUpRow 6 (by simp [followUpSteps])
  | nvWriteTakeUp =>
    unfold exec execNvWriteTakeUp
    exact keeps_followUpRow 8 (by simp [followUpSteps])
  | deferredActivation =>
    unfold exec execDeferredActivation
    exact keeps_followUpRow 1 (by simp [followUpSteps])
  -- timers and inputs
  | staleTimerExpiry i =>
    unfold exec execStaleTimerExpiry
    exact keeps_whenDue _ (keeps_staleExpired i)
  | onsetUntilExpiry i =>
    unfold exec execOnsetUntilExpiry
    exact keeps_whenDue _ (keeps_onsetStampExpired i)
  | strongUntilExpiry i =>
    unfold exec execStrongUntilExpiry
    exact keeps_whenDue _ (keeps_strongStampExpired i)
  | tripInDebouncedChange i =>
    unfold exec execTripInDebouncedChange
    exact keeps_whenDue _ fun t => keeps_contactChanges t i
  | utilityOkDebouncedChange =>
    unfold exec execUtilityOkDebouncedChange
    exact keeps_whenDue _ keeps_utilityChanged
  | feedDwellExpiry =>
    unfold exec execFeedDwellExpiry
    exact keeps_whenDue _ keeps_feedRises
  | warningExpiry i =>
    unfold exec execWarningExpiry
    exact keeps_whenDue _ fun t => (upholds_putWarning t i none).remoteFormed
  | quietTimerExpiry =>
    unfold exec execQuietTimerExpiry
    exact keeps_whenDue _ fun t => keeps_of_outline rfl
  | dwellExpiry i =>
    unfold exec execDwellExpiry
    exact keeps_whenDue _ fun t => keeps_runEvent (noRunner_dwellExpired i t)
  | replyDeadlineExpiry i =>
    unfold exec execReplyDeadlineExpiry
    exact keeps_whenDue _ fun t => keeps_runEvent (noRunner_deadlineExpired i t)
  | readyTimeoutExpiry i =>
    unfold exec execReadyTimeoutExpiry
    exact keeps_whenDue _ fun t => keeps_runEvent (noRunner_readyExpired i t)
  | settleExpiry i =>
    unfold exec execSettleExpiry
    exact keeps_whenDue _ fun t => keeps_runEvent (noRunner_settleExpired i t)
  | siteTimeSecond =>
    unfold exec execSiteTimeSecond
    refine keeps_event fun t => keeps_of_outline ?_
    split <;> rfl
  | rawInputLevelChange =>
    unfold exec execRawInputLevelChange
    exact keeps_event fun t => keeps_of_outline rfl
  -- non-volatile writes
  | recordWriteEnd =>
    unfold exec execRecordWriteEnd
    refine keeps_event fun t => keeps_of_outline ?_
    split <;> rfl
  | blockProgramEnd passes =>
    unfold exec execBlockProgramEnd
    refine keeps_event fun t => ?_
    split
    · exact keeps_blockWritten _ passes t
    · exact .refl t
  | protectionWriteEnd =>
    unfold exec execProtectionWriteEnd
    refine keeps_event fun t => keeps_of_outline ?_
    split <;> rfl

/-- Every step keeps the invariants. -/
theorem keeps_step {s t : State} (ht : step s = .next t) : t.Keeps s := by
  have of_exec (c : Instr) {u : State} (hu : u.Keeps s) (e : exec c u = .next t) : t.Keeps s := by
    obtain ⟨t', e', kept⟩ := keeps_exec c u
    rw [e] at e'
    cases e'
    exact kept.trans hu
  have drawn : s.afterDraw.Keeps s := by
    refine keeps_of_outline ?_
    unfold State.afterDraw
    split <;> rfl
  have taken (rest : List Instr) : ({ s with pending := rest } : State).Keeps s := keeps_of_outline rfl
  unfold step at ht
  split at ht
  · exact of_exec _ (taken _) ht
  · unfold idle at ht
    split at ht
    · exact of_exec _ drawn ht
    · cases ht
      exact keeps_tick s

/-- Settles O59: each invariant speaks of the outline alone, and every step keeps it. -/
theorem everyStepKeepsCopyAndSiteFitting : Obligations.EveryStepKeepsCopyAndSiteFitting := by
  unfold Obligations.EveryStepKeepsCopyAndSiteFitting
  intro s t ht
  have kept := keeps_step ht
  exact ⟨fun h => copyAgrees_iff.mpr (kept.copy (copyAgrees_iff.mp h)),
    fun h => siteFits_iff.mpr (kept.fits (siteFits_iff.mp h)),
    fun h => alertFormed_iff.mpr (kept.alert (alertFormed_iff.mp h)),
    fun h => tripOutHeld_iff.mpr (kept.trip (tripOutHeld_iff.mp h))⟩

end Sys2Proof.Machine
end

section
/-! SUPPORT. What of the state the ring's invariants speak of, and how they are kept: a record changed, opened, closed, and the site
state set (R65, R68, R147, R148). -/

namespace Sys2Proof.Machine

/-! ### The view of the ring -/

/-- What the ring's invariants speak of: the ring image, the site's place in it, the phase, and the writes of records. -/
structure RingView where
  ring : Vector Slot 16
  record : Option (Fin 16)
  state : SiteState
  phase : Phase
  waiting : List RecordWrite
  writing : Option WriteItem
  stored : Vector Slot 16

/-- The view of a state. -/
def State.ringView (s : State) : RingView where
  ring := s.store.ring
  record := s.site.record
  state := s.site.state
  phase := s.phase
  waiting := s.store.recordWrites
  writing := s.store.writing.map Writing.item
  stored := s.nv.ring

/-- The record carries its record CRC (R147). -/
def TripRecord.Checked (r : TripRecord) : Prop := r.crc = crc16 r.fields

/-- The OPEN record is the current one (R65, R147). -/
def RingView.OpenIsCurrent (v : RingView) : Prop := ∀ i : Fin 16, v.ring[i].isOpen = true ↔ v.record = some i

structure RingView.Sound (v : RingView) : Prop where
  openIsCurrent : v.OpenIsCurrent
  armedClean : v.state = .armed → v.record = none ∧ (lowestDamaged v.ring).isSome = false
  outOfService : v.phase ≠ .running → v.state = .unconfigured

structure RingView.Checked (v : RingView) : Prop where
  image : ∀ (i : Fin 16) r, v.ring[i] = .record r → r.Checked
  waiting : ∀ w ∈ v.waiting, w.image.Checked
  writing : ∀ w, v.writing = some (.record w) → w.image.Checked
  stored : ∀ (i : Fin 16) r, v.stored[i] = .record r → r.Checked

section Views
variable {s : State}

theorem ringSound_iff : s.RingSound ↔ s.ringView.Sound := ⟨fun ⟨a, b, c⟩ => ⟨a, b, c⟩, fun ⟨a, b, c⟩ => ⟨a, b, c⟩⟩

theorem writing_ringView (w : RecordWrite) :
    s.ringView.writing = some (.record w) ↔ ∃ left, s.store.writing = some ⟨.record w, left⟩ := by
  refine ⟨fun h => ?_, fun ⟨left, h⟩ => by simp [State.ringView, h]⟩
  obtain ⟨⟨item, left⟩, hw, rfl⟩ := Option.map_eq_some_iff.mp h
  exact ⟨left, hw⟩

theorem recordsChecked_iff : s.RecordsChecked ↔ s.ringView.Checked :=
  ⟨fun ⟨image, waiting, writing, stored⟩ =>
    ⟨image, waiting, fun w h => (writing_ringView w).mp h |>.elim fun left h => writing w left h, stored⟩,
  fun ⟨image, waiting, writing, stored⟩ =>
    ⟨image, waiting, fun w left h => writing w ((writing_ringView w).mpr ⟨left, h⟩), stored⟩⟩

end Views

/-! ### Keeping the invariants -/

/-- An operation leaves the OPEN record the current one, the records their CRCs, and the phase. -/
structure State.Tracks (t s : State) : Prop where
  openIsCurrent : s.ringView.OpenIsCurrent → t.ringView.OpenIsCurrent
  checked : s.ringView.Checked → t.ringView.Checked
  phase : t.phase = s.phase

/-- From `s` on, in service, the OPEN record is the current one in `t`, whose site state is still to be set. -/
structure State.Readied (t s : State) : Prop where
  openIsCurrent : s.ringView.Sound → t.ringView.OpenIsCurrent
  running : s.ringView.Sound → t.phase = .running
  checked : s.ringView.Checked → t.ringView.Checked

/-- From `s` to `t` both invariants of the ring are kept. -/
structure State.Guards (t s : State) : Prop where
  sound : s.ringView.Sound → t.ringView.Sound
  checked : s.ringView.Checked → t.ringView.Checked

section Relations
variable {s t u : State}

theorem State.Guards.refl (s : State) : s.Guards s := ⟨id, id⟩

theorem State.Guards.trans (h : u.Guards t) (k : t.Guards s) : u.Guards s := ⟨h.sound ∘ k.sound, h.checked ∘ k.checked⟩

theorem guards_of_view (h : t.ringView = s.ringView) : t.Guards s := ⟨fun p => h ▸ p, fun p => h ▸ p⟩

theorem tracks_of_view (h : t.ringView = s.ringView) : t.Tracks s :=
  ⟨fun p => h ▸ p, fun p => h ▸ p, (congrArg RingView.phase h :)⟩

/-- What leaves the view may follow. -/
theorem State.Guards.same (h : t.Guards s) (e : u.ringView = t.ringView) : u.Guards s := (guards_of_view e).trans h

/-- A site that is not UNCONFIGURED is in service. -/
theorem readied_of_state (h : s.site.state ≠ .unconfigured) : s.Readied s :=
  ⟨fun p => p.openIsCurrent, fun p => Classical.byContradiction fun off => h (p.outOfService off), id⟩

theorem State.Readied.tracks (h : t.Readied s) (k : u.Tracks t) : u.Readied s :=
  ⟨k.openIsCurrent ∘ h.openIsCurrent, fun p => k.phase.trans (h.running p), k.checked ∘ h.checked⟩

theorem State.Guards.readies (h : t.Guards s) (k : u.Readied t) : u.Readied s :=
  ⟨k.openIsCurrent ∘ h.sound, k.running ∘ h.sound, k.checked ∘ h.checked⟩

/-- The CRCs do not depend on the site's items. -/
theorem RingView.Checked.besideSite {v : RingView} (h : v.Checked) (record : Option (Fin 16)) (state : SiteState) :
    ({ v with record := record, state := state } : RingView).Checked :=
  have ⟨image, waiting, writing, stored⟩ := h
  ⟨image, waiting, writing, stored⟩

/-- In service, with the OPEN record tracked, the site may enter any state but ARMED. -/
theorem State.Readied.entered (h : t.Readied s) {st : SiteState} (ne : st ≠ .armed) (level : Nat) (hold : Option HoldReason) :
    (setSite st level hold t).Guards s :=
  ⟨fun p => ⟨h.openIsCurrent p, fun e => absurd e ne, fun off => absurd (h.running p) off⟩,
    fun p => (h.checked p).besideSite ..⟩

end Relations

/-! ### Writes of records (R144, R145) -/

section Writes
variable (s : State)

theorem checked_takeUp (h : s.ringView.Checked) : ({ s with store := s.store.takeUp } : State).ringView.Checked := by
  obtain ⟨image, waiting, writing, stored⟩ := h
  unfold PlanStore.takeUp
  split
  · next w rest e =>
    have checked : ∀ x ∈ w :: rest, x.image.Checked := e ▸ waiting
    exact ⟨image, fun x hx => checked x (List.mem_cons_of_mem w hx),
      fun x hx => by cases hx; exact checked _ List.mem_cons_self, stored⟩
  · dsimp only
    split <;> exact ⟨image, waiting, nofun, stored⟩
  · exact ⟨image, waiting, writing, stored⟩

theorem checked_requestWrite {w : RecordWrite} (hw : w.image.Checked) (h : s.ringView.Checked) :
    (requestWrite w s).ringView.Checked := by
  obtain ⟨image, waiting, writing, stored⟩ := h
  have merged : ∀ x ∈ mergeWrite w s.store.recordWrites, x.image.Checked := by
    intro x hx
    rcases List.mem_append.mp hx with old | new
    · exact waiting x (List.mem_of_mem_filter old)
    · rwa [List.mem_singleton.mp new]
  unfold requestWrite
  dsimp only
  split
  · exact checked_takeUp { s with store := _ } ⟨image, merged, nofun, stored⟩
  · exact ⟨image, merged, writing, stored⟩

/-- A changed record is given its CRC, in the image and in its write (R147). -/
theorem checked_changeRecord (i : Fin 16) (r : TripRecord) (h : s.ringView.Checked) : (changeRecord i r s).ringView.Checked := by
  obtain ⟨image, waiting, writing, stored⟩ := h
  refine checked_requestWrite _ (TripRecord.crc_withCrc _) ⟨fun j x hx => ?_, waiting, writing, stored⟩
  by_cases e : i = j
  · subst e
    have same : Slot.record ({ r with seq := s.store.writeSeq + 1 } : TripRecord).withCrc = .record x := by
      simpa [State.ringView] using hx
    cases same
    exact TripRecord.crc_withCrc _
  · have ne : i.val ≠ j.val := fun k => e (Fin.ext k)
    exact image j x ((Vector.getElem_set_ne i.isLt j.isLt ne).symm.trans hx)

theorem phase_changeRecord (i : Fin 16) (r : TripRecord) : (changeRecord i r s).phase = s.phase :=
  phase_of_fixed (fixed_of_noRecords (noRecords_changeRecord i r s))

end Writes

/-! ### Records opened, changed and closed (R69, R77, R79, R81, R148) -/

/-- No slot of the ring image holds an OPEN record. -/
def State.NoneOpen (s : State) : Prop := ∀ i : Fin 16, s.store.ring[i].isOpen = false

section Records
variable {s : State}

/-- A slot of the ring image after a change of slot `i`'s record. -/
theorem isOpen_changeRecord (i j : Fin 16) (r : TripRecord) (s : State) : (changeRecord i r s).store.ring[j].isOpen =
    if j = i then r.closure == .isOpen else s.store.ring[j].isOpen := by
  rw [changeRecord_ring]
  by_cases e : j = i
  · subst e
    simp [Slot.isOpen, TripRecord.withCrc]
  · have ne : i.val ≠ j.val := fun k => e (Fin.ext k.symm)
    rw [if_neg e, Fin.getElem_fin, Vector.getElem_set_ne _ _ ne, Fin.getElem_fin]

theorem noneOpen_of_no_record (h : s.ringView.OpenIsCurrent) (none : s.site.record = none) : s.NoneOpen := fun i =>
  Bool.eq_false_iff.mpr fun e => by
    have current : s.site.record = some i := (h i).mp e
    rw [none] at current
    cases current

/-- The current record's slot holds its record. -/
theorem slot_of_currentRecord {i : Fin 16} {r : TripRecord} (record : s.site.record = some i) (h : s.currentRecord = some r) :
    s.store.ring[i] = .record r := by
  unfold State.currentRecord at h
  rw [record] at h
  dsimp only at h
  cases slot : s.store.ring[i] with
  | record x => rw [slot] at h; cases h; rfl
  | blank | damaged => rw [slot] at h; cases h

/-- A change of the current record that leaves its closure as it is. -/
theorem tracks_updateRecord {f : TripRecord → TripRecord} (closure : ∀ r, (f r).closure = r.closure) (s : State) :
    (updateRecord f s).Tracks s := by
  unfold updateRecord
  split
  · next i r record current =>
    refine ⟨fun p j => ?_, checked_changeRecord s i _, phase_changeRecord s i _⟩
    have slot := slot_of_currentRecord record current
    show (changeRecord i (f r) s).store.ring[j].isOpen = true ↔ (changeRecord i (f r) s).site.record = some j
    rw [isOpen_changeRecord, site_changeRecord]
    split
    · next e =>
      subst e
      rw [closure, ← show s.store.ring[j].isOpen = (r.closure == .isOpen) by rw [slot]; rfl]
      exact p j
    · exact p j
  · exact ⟨id, id, rfl⟩

/-- A record closed leaves none OPEN. -/
theorem noneOpen_closeRecord {c : Closure} (ne : c ≠ .isOpen) (h : s.ringView.OpenIsCurrent) : (closeRecord c s).NoneOpen := by
  intro j
  unfold closeRecord updateRecord
  split
  · next i r record current =>
    rw [isOpen_changeRecord]
    split
    · exact beq_false_of_ne ne
    · next other =>
      refine Bool.eq_false_iff.mpr fun e => other ?_
      have here : s.site.record = some j := (h j).mp e
      rw [record] at here
      cases here
      rfl
  · next none =>
    refine Bool.eq_false_iff.mpr fun e => ?_
    have here : s.site.record = some j := (h j).mp e
    obtain ⟨r, slot, -⟩ := isOpen_iff_held.mp e
    refine none j r here ?_
    unfold State.currentRecord
    rw [here]
    exact slot

theorem checked_updateRecord (f : TripRecord → TripRecord) (h : s.ringView.Checked) : (updateRecord f s).ringView.Checked := by
  unfold updateRecord
  split
  · exact checked_changeRecord s _ _ h
  · exact h

theorem phase_updateRecord (f : TripRecord → TripRecord) (s : State) : (updateRecord f s).phase = s.phase :=
  phase_of_fixed (fixed_updateRecord f s)

/-- A record opened where none is OPEN is the OPEN one. -/
theorem openIsCurrent_openRecord (level : Nat) (h : s.NoneOpen) : (openRecord level s).ringView.OpenIsCurrent := by
  intro j
  show (openRecord level s).store.ring[j].isOpen = true ↔ (openRecord level s).site.record = some j
  unfold openRecord
  dsimp only
  rw [isOpen_changeRecord, site_changeRecord]
  split
  · next e => subst e; exact ⟨fun _ => rfl, fun _ => rfl⟩
  · next ne => exact ⟨fun e => absurd ((h j).symm.trans e) nofun, fun e => absurd (Option.some.inj e).symm ne⟩

theorem checked_openRecord (level : Nat) (h : s.ringView.Checked) : (openRecord level s).ringView.Checked :=
  checked_changeRecord _ _ _ (h.besideSite ..)

theorem phase_openRecord (level : Nat) (s : State) : (openRecord level s).phase = s.phase :=
  phase_of_fixed (fixed_openRecord level s)

/-- A RECOVERED record in a damaged slot is not OPEN (R77). -/
theorem tracks_recoverSlot (s : State) : (recoverSlot s).Tracks s := by
  unfold recoverSlot
  split
  · next i found =>
    have slot : s.store.ring[i] = .damaged := by simpa using List.find?_some found
    refine ⟨fun p j => ?_, checked_changeRecord s i _, phase_changeRecord s i _⟩
    show (changeRecord i _ s).store.ring[j].isOpen = true ↔ (changeRecord i _ s).site.record = some j
    rw [isOpen_changeRecord, site_changeRecord]
    split
    · next e =>
      subst e
      have current : s.store.ring[j].isOpen = true ↔ s.site.record = some j := p j
      rw [slot] at current
      exact current
    · exact p j
  · exact ⟨id, id, rfl⟩

end Records

end Sys2Proof.Machine
end

section
/-! SUPPORT. The site's transitions keep the ring sound (R66 to R68, R70 to R75, R77 to R82). -/

namespace Sys2Proof.Machine

/-! ### What leaves the view -/

section Same
variable (s : State)

theorem view_of_noRunner {s t : State} (h : t.noRunner = s.noRunner) : t.ringView = s.ringView :=
  (congrArg State.ringView h : t.noRunner.ringView = s.noRunner.ringView)

theorem view_raiseNotice (closed : Option TripRecord) : (raiseNotice closed s).ringView = s.ringView := rfl

theorem view_markTripPending (level : Nat) : (markTripPending level s).ringView = s.ringView := by
  unfold markTripPending; split <;> rfl

theorem view_setFlag (i : Fin 24) : (setFlag i s).ringView = s.ringView := by
  unfold setFlag; split <;> rfl

end Same

/-! ### Transitions -/

section Site
variable {s t : State}

/-- SAFE_HOLD entered with its notice. -/
theorem State.Readied.held (h : t.Readied s) (closed : Option TripRecord) (level : Nat) (r : Option HoldReason) :
    (raiseNotice closed (setSite .safeHold level r t)).Guards s := (h.entered (st := .safeHold) (by decide) level r).same rfl

theorem State.Readied.shutdownEnded (h : t.Readied s) (r : Report) : (shutdownEnded r t).Guards s := by
  refine State.Readied.held (h.tracks (tracks_updateRecord ?_ t)) ..
  exact fun _ => rfl

theorem guards_shutdownEnded (h : s.site.state ≠ .unconfigured) (r : Report) : (shutdownEnded r s).Guards s :=
  (readied_of_state h).shutdownEnded r

theorem State.Readied.shutting (h : t.Readied s) (level : Nat) : (enterShutting level t).Guards s := by
  have started := h.tracks (tracks_of_view (view_of_noRunner (noRunner_startPlan (shutdownPlan level) t)))
  have told : (raiseNotice none (markTripPending level
      (setSite .shutting level none (startPlan (shutdownPlan level) t).1))).Guards s :=
    (started.entered (st := .shutting) (by decide) level none).same (view_markTripPending ..)
  unfold enterShutting
  dsimp only
  split
  · have shutting : (raiseNotice none (markTripPending level
        (setSite .shutting level none (startPlan (shutdownPlan level) t).1))).ringView.state = .shutting := by
      rw [view_raiseNotice, view_markTripPending]; rfl
    refine (guards_shutdownEnded (fun e => ?_) _).trans told
    have off : SiteState.shutting = .unconfigured := shutting.symm.trans e
    cases off
  · exact told

/-- A record opened where none is OPEN, in service. -/
theorem readied_openRecord (level : Nat) (none : s.ringView.Sound → t.NoneOpen) (running : s.ringView.Sound → t.phase = .running)
    (checked : s.ringView.Checked → t.ringView.Checked) : (openRecord level t).Readied s :=
  ⟨openIsCurrent_openRecord level ∘ none, fun p => (phase_openRecord level t).trans (running p), checked_openRecord level ∘ checked⟩

theorem guards_tripSite (h : s.site.state = .armed) (level : Nat) : (tripSite level s).Guards s :=
  have service := readied_of_state (s := s) (by rw [h]; decide)
  (readied_openRecord level (fun p => noneOpen_of_no_record p.openIsCurrent (p.armedClean h).1) service.running id).shutting level

theorem guards_abortByRise (h : s.site.state ≠ .unconfigured) (level : Nat) : (abortByRise level s).Guards s := by
  have ended := (readied_of_state h).tracks (tracks_of_view (view_of_noRunner (noRunner_abandonRun s)))
  have opened : (openRecord level (closeRecord .superseded (abandonRun s))).Readied s :=
    readied_openRecord level (fun p => noneOpen_closeRecord (by decide) (ended.openIsCurrent p))
      (fun p => (phase_updateRecord ..).trans (ended.running p)) (checked_updateRecord _ ∘ ended.checked)
  exact opened.shutting level

theorem State.Readied.escalated (h : t.Readied s) : (enterShutting 2 (escalateRecord t)).Guards s := by
  refine State.Readied.shutting (h.tracks (tracks_updateRecord ?_ t)) 2
  exact fun _ => rfl

/-- A rise taken by the site (R73). -/
theorem guards_takeRise (level : Nat) (s : State) : (takeRise level s).Guards s := by
  unfold takeRise
  split
  · exact .refl s
  · next h => exact guards_tripSite h level
  · next h =>
    split
    · have service := readied_of_state (s := s) (by rw [h]; decide)
      exact (service.tracks (tracks_of_view (view_of_noRunner (noRunner_abandonRun s)))).escalated
    · exact .refl s
  · next h =>
    split
    · exact (readied_of_state (by rw [h]; decide)).escalated
    · exact .refl s
  · next h => exact guards_abortByRise (by rw [h]; decide) level

/-- ARMED entered with none OPEN and no slot damaged, with a trip at once where the copied level asks for it (R68). -/
theorem guards_enterArmed (closed : Option TripRecord) (none : s.ringView.Sound → t.NoneOpen)
    (running : s.ringView.Sound → t.phase = .running) (clean : t.anyDamaged = false)
    (checked : s.ringView.Checked → t.ringView.Checked) : (enterArmed closed t).Guards s := by
  have armed : (raiseNotice closed (setSite .armed 0 .none { t with site.record := .none })).Guards s :=
    ⟨fun p => ⟨fun i => ⟨fun e => absurd ((none p i).symm.trans e) nofun, nofun⟩, fun _ => ⟨rfl, clean⟩,
      fun off => absurd (running p) off⟩, fun p => (checked p).besideSite ..⟩
  unfold enterArmed
  dsimp only
  split
  · exact (guards_tripSite rfl _).trans armed
  · exact armed

theorem guards_restartCompleted (h : s.site.state ≠ .unconfigured) (failed : Nat) : (restartCompleted failed s).Guards s := by
  have closed : s.ringView.Sound → (closeRecord (restartClosure failed) s).NoneOpen := fun p =>
    noneOpen_closeRecord (by unfold restartClosure; split <;> decide) p.openIsCurrent
  have running : s.ringView.Sound → (closeRecord (restartClosure failed) s).phase = .running := fun p =>
    (phase_updateRecord ..).trans ((readied_of_state h).running p)
  have checked : s.ringView.Checked → (closeRecord (restartClosure failed) s).ringView.Checked := checked_updateRecord _
  unfold restartCompleted
  dsimp only
  generalize closeRecord (restartClosure failed) s = u at closed running checked
  split
  · have left : (leaveRecord failed u).Readied s :=
      ⟨fun p i => ⟨fun e => absurd ((closed p i).symm.trans e) nofun, nofun⟩, running, fun p => (checked p).besideSite ..⟩
    exact left.held ..
  · next clean =>
    exact guards_enterArmed _ closed running (Bool.eq_false_iff.mpr clean) fun p => (checked p).besideSite ..

/-- A completion report taken by the site (R75, R79, R80). -/
theorem guards_takeCompletion (r : Report) (s : State) : (takeCompletion r s).Guards s := by
  unfold takeCompletion
  split
  · next h => exact guards_shutdownEnded (by rw [h]; decide) r
  · next h =>
    have service : s.site.state ≠ .unconfigured := by rw [h]; decide
    split
    · exact (readied_of_state service).held ..
    · exact guards_restartCompleted service _
  all_goals exact .refl s

/-- The site's first state by the ring (R66, R67). -/
theorem State.Readied.entersByRing (h : t.Readied s) : (enterByRing t).Guards s := by
  unfold enterByRing
  split
  · exact h.held ..
  · next clean =>
    split
    · next i found =>
      obtain ⟨r, slot⟩ := record_of_openSlot found
      rw [slot]
      exact h.held ..
    · next none =>
      refine guards_enterArmed _ (fun _ i => Bool.eq_false_iff.mpr fun e => ?_) h.running (Bool.eq_false_iff.mpr clean) h.checked
      obtain ⟨r, held, isOpen⟩ := isOpen_iff_held.mp e
      cases isOpen.symm.trans ((highestSlot_none _ _).mp none i r held)

/-! ### Requests on the site (R76 to R82) -/

theorem guards_holdAborted (h : s.site.state ≠ .unconfigured) : (holdAborted s).Guards s :=
  ((readied_of_state h).tracks (tracks_of_view (view_of_noRunner (noRunner_abandonRun s)))).held ..

end Site

/-! ### The request formed (R47, R64) -/

section Request
variable {s : State}

theorem guards_takeRequest (level : Nat) (cause : Option (Fin 24)) (s : State) : (takeRequest level cause s).Guards s := by
  unfold takeRequest
  dsimp only
  split
  · exact (guards_takeRise ..).trans (guards_of_view rfl)
  · exact guards_of_view rfl

theorem guards_formRequest (s : State) : (formRequest s).Guards s := by
  unfold formRequest
  dsimp only
  split
  · exact .refl s
  · exact (guards_takeRequest ..).trans (guards_of_view rfl)

theorem guards_setFlag (i : Fin 24) (s : State) : (setFlag i s).Guards s := guards_of_view (view_setFlag s i)

theorem guards_latch (i : Fin 24) (s : State) : (latch i s).Guards s := by
  unfold latch
  split
  · exact .refl s
  · exact (guards_formRequest _).trans (guards_setFlag i s)

theorem guards_clearFlags (which : Fin 24 → Bool) (s : State) : (clearFlags which s).Guards s := by
  unfold clearFlags
  generalize Vector.ofFn _ = flags
  have same : ({ s with trig.flags := flags } : State).ringView = s.ringView := rfl
  exact (guards_formRequest _).trans (guards_of_view same)

theorem guards_startRestart (h : s.site.state ≠ .unconfigured) : (startRestart s).Guards s := by
  have cleared : (clearFlags (fun _ => true) s).Readied s :=
    (guards_clearFlags _ s).readies (readied_of_state ((requestLevel_clearFlags s).2.symm ▸ h))
  unfold startRestart
  dsimp only
  generalize clearFlags (fun _ => true) s = u at cleared
  have begun : ({ clearPeaks u with trig.tripOut := false, site.restartIncomplete := false } : State).Readied s :=
    cleared.tracks (tracks_of_view rfl)
  generalize ({ clearPeaks u with trig.tripOut := false, site.restartIncomplete := false } : State) = v at begun
  have started := (begun.tracks (tracks_recoverSlot v)).tracks
    (tracks_of_view (view_of_noRunner (noRunner_startPlan .restart _)))
  have told (l : Nat) := (started.entered (st := .restarting) (by decide) l none).same (view_raiseNotice _ none)
  split
  · exact (guards_takeCompletion ..).trans (told _)
  · exact told _

/-! ### What a settling hands over (R96) -/

theorem guards_riseThenReport (r : Report) (s : State) : (riseThenReport r s).Guards s := by
  unfold riseThenReport
  dsimp only
  split
  · exact (guards_takeCompletion ..).trans (guards_latch ..)
  · exact guards_latch ..

theorem guards_takeHandOver (ho : HandOver) (s : State) : (takeHandOver ho s).Guards s := by
  have drawn : (drawOrder s).2.Guards s := guards_of_view rfl
  unfold takeHandOver
  split
  · exact .refl s
  · exact guards_takeCompletion ..
  · exact guards_latch ..
  · dsimp only
    split
    · exact (guards_riseThenReport ..).trans drawn
    · exact (guards_latch ..).trans ((guards_takeCompletion ..).trans drawn)

theorem guards_runEvent {f : State → State × HandOver} (h : (f s).1.noRunner = s.noRunner) : (runEvent f s).Guards s :=
  (guards_takeHandOver ..).trans (guards_of_view (view_of_noRunner h))

theorem guards_feedRises (s : State) : (feedRises s).Guards s :=
  (guards_runEvent (noRunner_takeFeedRise _)).trans (guards_of_view rfl)

end Request

end Sys2Proof.Machine
end

section
/-! SUPPORT. Warnings, zones, channels, requests and frames keep the ring sound: each comes down to the forming of the request, to a
hand-over of the executor, or to what the ring's invariants do not speak of. -/

namespace Sys2Proof.Machine

/-! ### Warnings and REMOTE conditions (R57 to R60) -/

section Trigger

theorem guards_setFlag_if (rises : Bool) (i : Fin 24) (s : State) : (if rises then setFlag i s else s).Guards s := by
  split
  · exact guards_setFlag i s
  · exact .refl s

theorem guards_formRequest_if (forms : Bool) (s : State) : (if forms then formRequest s else s).Guards s := by
  split
  · exact guards_formRequest s
  · exact .refl s

theorem guards_formRemote (s : State) : (formRemote s).Guards s := by
  have judged (severe moderate : Bool) :
      ({ s with trig.remoteSevere := severe, trig.remoteModerate := moderate } : State).Guards s := guards_of_view rfl
  have requested (forms severe moderate : Bool) {u : State} (k : u.Guards s) : (let v := if severe then setFlag srcSevere u else u
      let v := if moderate then setFlag srcModerate v else v
      if forms then formRequest v else v).Guards s :=
    (guards_formRequest_if ..).trans ((guards_setFlag_if ..).trans ((guards_setFlag_if ..).trans k))
  exact (requested _ _ _ (judged _ _)).same rfl

theorem view_reloadQuiet_if (p : Prop) [Decidable p] (s : State) : (if p then reloadQuiet s else s).ringView = s.ringView := by
  split <;> rfl

theorem guards_takeWarning (w : Warning) (s : State) : (takeWarning w s).Guards s := by
  have placed (p : Prop) [Decidable p] (i : Fin 4) {u : State} (h : u.ringView = s.ringView) :
      (formRemote (if p then reloadQuiet (putWarning i (some w) u) else putWarning i (some w) u)).Guards s :=
    (guards_formRemote _).trans (guards_of_view ((view_reloadQuiet_if p _).trans h))
  unfold takeWarning
  split
  · exact placed _ _ rfl
  · split
    · exact placed _ _ rfl
    · split
      · split
        · exact placed _ _ rfl
        · exact guards_of_view rfl
      · exact .refl s

theorem guards_warningFrame (src : Byte) (payload : List Byte) (s : State) : (warningFrame src payload s).Guards s := by
  unfold warningFrame
  dsimp only
  split
  · split
    · exact guards_takeWarning _ s
    · exact .refl s
  · exact guards_of_view rfl

end Trigger

/-! ### Zones and channels (R23, R27, R32 to R34, R39, R41 to R43) -/

section Zones

/-- Operations that keep the invariants, one after another. -/
theorem guards_foldl {α : Type} {f : State → α → State} (h : ∀ s a, (f s a).Guards s) (l : List α) (s : State) :
    (l.foldl f s).Guards s := by
  induction l generalizing s with
  | nil => exact .refl s
  | cons a l ih => exact (ih _).trans (h s a)

theorem guards_reportRises (z : Fin 8) (onset strong : Bool) (s : State) : (reportRises z onset strong s).Guards s := by
  have drawn : (drawOrder s).2.Guards s := guards_of_view rfl
  unfold reportRises
  dsimp only
  split
  · split
    · exact (guards_latch ..).trans ((guards_latch ..).trans drawn)
    · exact (guards_latch ..).trans ((guards_latch ..).trans drawn)
  · split
    · exact guards_latch ..
    · split
      · exact guards_latch ..
      · exact .refl s

theorem guards_evaluateZone (z : Fin 8) (s : State) : (evaluateZone z s).Guards s := by
  have voted (zones : Vector Zone 8) : (formAlert { s with voter.zones := zones }).Guards s := guards_of_view rfl
  exact ((guards_reportRises ..).trans (voted _)).same rfl

theorem guards_handChange (c : Change) (s : State) : (handChange c s).Guards s := by
  have formed : (formAlert (if c.state = .onset ∨ c.state = .strong then reloadQuiet s else s)).ringView = s.ringView :=
    view_reloadQuiet_if _ s
  unfold handChange
  dsimp only
  split
  · have imaged (u : State) : (takeIntoImage c u).ringView = u.ringView := by unfold takeIntoImage; split <;> rfl
    exact (guards_evaluateZone ..).trans (guards_of_view ((imaged _).trans formed))
  · exact guards_of_view formed

theorem guards_stampExpired (c : Fin 32) (s : State) : (onsetStampExpired c s).Guards s ∧ (strongStampExpired c s).Guards s := by
  have stamped (members : Vector Member 32) : ({ s with voter.members := members } : State).Guards s := guards_of_view rfl
  constructor
  · unfold onsetStampExpired
    dsimp only
    split
    · exact (guards_evaluateZone ..).trans (stamped _)
    · exact stamped _
  · unfold strongStampExpired
    dsimp only
    split
    · exact (guards_evaluateZone ..).trans (stamped _)
    · exact stamped _

theorem guards_staleExpired (i : Fin 32) (s : State) : (staleExpired i s).Guards s :=
  (guards_handChange _ _).trans (guards_of_view rfl)

theorem guards_cycled (z : Fin 8) (b : Bool) (s : State) : (s.cycled z b).Guards s := by
  obtain ⟨channels, members, alert, e⟩ := restartMembers_eq z (setIsolated z b s)
  unfold State.cycled
  rw [e]
  exact (guards_evaluateZone ..).trans (guards_of_view rfl)

theorem guards_isolate (z : Fin 8) (s : State) : (isolate z s).Guards s := by
  refine (guards_clearFlags ..).trans ?_
  split
  · exact .refl s
  · exact guards_cycled z true s

theorem guards_restore (z : Fin 8) (s : State) : (restore z s).Guards s := by
  unfold restore
  split
  · exact guards_cycled z false s
  · exact .refl s

theorem guards_sampleFrame (src : Byte) (payload : List Byte) (s : State) : (sampleFrame src payload s).Guards s := by
  have moved (channels : Vector Channel 32) : ({ s with channels := channels } : State).Guards s := guards_of_view rfl
  match payload with
  | [] => exact .refl s
  | [_] => exact .refl s
  | seq :: count :: rest =>
    cases present : (s.nodeCfg src.toNat).present with
    | false => rw [sampleFrame_absent present]; exact .refl s
    | true =>
      rw [sampleFrame_present present]
      exact (guards_foldl (fun s c => guards_handChange c s) _ _).trans (moved _)

end Zones

/-! ### Requests -/

section Requests
variable (q : Asker) (s : State)

/-- A read answers, or refuses an argument outside its set. -/
theorem view_reads : (∀ x, (reqReadChannel q x s).ringView = s.ringView) ∧
    (∀ x, (reqReadZone q x s).ringView = s.ringView) ∧ (∀ x, (reqReadNode q x s).ringView = s.ringView) ∧
    (∀ x, (reqReadStep q x s).ringView = s.ringView) ∧ (∀ x, (reqReadTripRecord q x s).ringView = s.ringView) ∧
    (∀ x, (reqReadCounters q x s).ringView = s.ringView) ∧ ∀ b k f c, (reqReadShadow q b k f c s).ringView = s.ringView := by
  refine ⟨fun x => ?_, fun x => ?_, fun x => ?_, fun x => ?_, fun x => ?_, fun x => ?_, fun b k f c => ?_⟩
  · unfold reqReadChannel; split <;> rfl
  · unfold reqReadZone; split <;> rfl
  · unfold reqReadNode; split <;> rfl
  · unfold reqReadStep; split <;> rfl
  · unfold reqReadTripRecord; split <;> rfl
  · unfold reqReadCounters; split <;> rfl
  · unfold reqReadShadow
    split
    · split <;> rfl
    · rfl

/-- Shadows, commits, protection and port resets touch no record, nor the site. -/
theorem view_storeRequests : (∀ b k f c r, (reqWriteShadow q b k f c r s).ringView = s.ringView) ∧
    (∀ m, (reqCommit q m s).ringView = s.ringView) ∧ (∀ m, (reqSetProtection q m s).ringView = s.ringView) ∧
    (reqReloadProtection q s).ringView = s.ringView ∧ ∀ port, (reqResetPort q port s).ringView = s.ringView := by
  refine ⟨fun b k f c r => ?_, fun m => ?_, fun m => ?_, ?_, fun port => ?_⟩
  · unfold reqWriteShadow
    repeat' split
    all_goals rfl
  · unfold reqCommit commitNamed
    repeat' split
    all_goals rfl
  · unfold reqSetProtection; split <;> rfl
  · unfold reqReloadProtection; split <;> rfl
  · unfold reqResetPort acceptResetP
    repeat' split
    all_goals rfl

theorem guards_releaseTripOut : (releaseTripOut s).Guards s := by
  rw [releaseTripOut_eq]
  exact guards_of_view rfl

variable {s} in
/-- The answer to a request is no part of the view. -/
theorem State.Guards.answered {t : State} (h : t.Guards s) (st : Status) (data : List Byte) : (answer q st data t).Guards s :=
  h.same rfl

theorem guards_refuse (st : Status) : (refuse q st s).Guards s := guards_of_view rfl

theorem guards_reqAuthorizeRestart : (reqAuthorizeRestart q s).Guards s := by
  unfold reqAuthorizeRestart
  split
  · exact guards_refuse q s _
  · next held =>
    split
    · exact guards_refuse q s _
    · split
      · exact guards_refuse q s _
      · exact (guards_startRestart (by rw [not_not.mp held]; decide)).answered q _ _

theorem guards_reqAbortRestart : (reqAbortRestart q s).Guards s := by
  unfold reqAbortRestart
  split
  · next h => exact (guards_holdAborted (by rw [h]; decide)).answered q _ _
  · exact guards_refuse q s _

theorem guards_reqForceTrip (level : Byte) : (reqForceTrip q level s).Guards s := by
  have forced (l : Nat) : ({ s with trig.forcedLevel := l } : State).Guards s := guards_of_view rfl
  unfold reqForceTrip
  split
  · exact ((guards_formRequest _).trans ((guards_setFlag ..).trans (forced _))).answered q _ _
  · exact guards_refuse q s _

theorem guards_zoneRequests (zone : Byte) : (reqIsolateZone q zone s).Guards s ∧ (reqRestoreZone q zone s).Guards s := by
  unfold reqIsolateZone reqRestoreZone
  split
  · split
    · exact ⟨(guards_isolate _ s).answered q _ _, (guards_restore _ s).answered q _ _⟩
    · exact ⟨guards_refuse q s _, guards_refuse q s _⟩
  · exact ⟨guards_refuse q s _, guards_refuse q s _⟩

theorem guards_perform (r : Req) : (perform q r s).Guards s := by
  obtain ⟨channel, zone, node, step, record, counters, shadow⟩ := view_reads q s
  obtain ⟨writes, commit, protection, reload, port⟩ := view_storeRequests q s
  cases r with
  | readStatus | readOutstanding | readWarnings | setTime | clearCounters | clearCause | resetPart => exact guards_of_view rfl
  | readChannel => exact guards_of_view (channel _)
  | readZone => exact guards_of_view (zone _)
  | readNode => exact guards_of_view (node _)
  | readStep => exact guards_of_view (step _)
  | readTripRecord => exact guards_of_view (record _)
  | readCounters => exact guards_of_view (counters _)
  | readShadow => exact guards_of_view (shadow ..)
  | writeShadow => exact guards_of_view (writes ..)
  | commit => exact guards_of_view (commit _)
  | setProtection => exact guards_of_view (protection _)
  | reloadProtection => exact guards_of_view reload
  | resetPort => exact guards_of_view (port _)
  | authorizeRestart => exact guards_reqAuthorizeRestart q s
  | abortRestart => exact guards_reqAbortRestart q s
  | forceTrip => exact guards_reqForceTrip q s _
  | clearTriggers => exact ((guards_releaseTripOut _).trans (guards_clearFlags _ s)).answered q _ _
  | isolateZone => exact (guards_zoneRequests q s _).1
  | restoreZone => exact (guards_zoneRequests q s _).2

theorem guards_handleRequest (src tag : Byte) (payload : List Byte) : (handleRequest src tag payload s).Guards s := by
  have counted : (countHandled s).Guards s := guards_of_view rfl
  unfold handleRequest
  split
  · unfold performPayload
    split
    · exact (guards_refuse ..).trans counted
    · split
      · exact (guards_perform ..).trans counted
      · exact (guards_refuse ..).trans counted
  · exact guards_of_view rfl

end Requests

/-! ### Frames -/

section Frames
variable (f : Frame) (s : State)

theorem guards_handToBlocks : (handToBlocks f s).Guards s := by
  have executed (code : Byte) : (handToExecutor f code s).Guards s := by
    unfold handToExecutor
    split
    · exact guards_runEvent (noRunner_takeReply ..)
    · split
      · exact guards_runEvent (noRunner_takeReport ..)
      · exact .refl s
  unfold handToBlocks
  split
  · exact guards_sampleFrame ..
  · split
    · exact guards_warningFrame ..
    · split
      · exact executed _
      · exact .refl s

theorem guards_routeP : (routeP f s).Guards s := by
  obtain ⟨r, heard⟩ := hearSource_router f s
  obtain ⟨r', forwarded⟩ := forwardP_router f (handToBlocks f (hearSource f s))
  have routed (r : Router) (u : State) : ({ u with router := r } : State).ringView = u.ringView := rfl
  unfold routeP
  rw [forwarded, heard]
  exact State.Guards.same ((guards_handToBlocks f _).trans (guards_of_view (routed r s))) (routed r' _)

theorem view_queueToP : (queueToP f s).ringView = s.ringView := by
  unfold queueToP answerFor
  dsimp only
  repeat' split
  all_goals rfl

theorem view_routeThroughS : (routeThroughS f s).ringView = s.ringView := by
  have interlocked : (interlock f s).ringView = s.ringView := by
    unfold interlock answerFor
    split
    · split <;> rfl
    · exact view_queueToP f s
  unfold routeThroughS
  split
  · rfl
  · split
    · split
      · exact interlocked
      · exact view_queueToP f s
    · rfl

theorem guards_route (port : Port) : (route port f s).Guards s := by
  cases port with
  | p => exact guards_routeP f s
  | s =>
    unfold route routeS
    dsimp only
    split
    · exact guards_handleRequest ..
    · exact guards_of_view (view_routeThroughS f s)

theorem view_setPort (port : Port) (r : Receiver) (c : PortCount) : (setPort port r c s).ringView = s.ringView := by
  cases port <;> rfl

theorem guards_frameArrives (port : Port) : (frameArrives port f s).Guards s := by
  unfold frameArrives
  dsimp only
  split
  · split
    · exact (guards_route ..).trans (guards_of_view (view_setPort ..))
    · exact guards_of_view (view_setPort ..)
  · exact .refl s

theorem guards_characterArrives (port : Port) (v : Byte) (marker framing : Bool) :
    (characterArrives port v marker framing s).Guards s := by
  unfold characterArrives
  dsimp only
  split
  · split
    · exact (guards_route ..).trans (guards_of_view (view_setPort ..))
    · exact guards_of_view (view_setPort ..)
  · exact .refl s

theorem view_gapExpires (port : Port) : (gapExpires port s).ringView = s.ringView := by
  unfold gapExpires
  dsimp only
  split
  · split
    · rfl
    · exact view_setPort ..
    · exact view_setPort ..
  · rfl

end Frames

end Sys2Proof.Machine
end

section
/-! SUPPORT. Activations, the start-up load, resets, writes, follow-ups and the tick keep the ring sound (R66, R136, R142, R144, R146,
R149, R189). -/

namespace Sys2Proof.Machine

section Store
variable {s : State}

/-! ### Activation (R142) -/

theorem guards_feedTakesTables (s : State) : (feedTakesTables s).Guards s := by
  unfold feedTakesTables
  split
  · exact guards_feedRises s
  · exact .refl s

theorem guards_takeTables (old : SiteTables) (s : State) : (takeTables old s).Guards s := by
  obtain ⟨zones, alert, taken, -⟩ := takeTables_eq old s
  have staged : (s.restaged old zones alert).ringView = s.ringView := by
    simp only [State.ringView, State.restaged, routerTakesTables]
  rw [taken]
  exact (guards_formRequest _).trans ((guards_formRemote _).trans ((guards_feedTakesTables _).trans (guards_of_view staged)))

theorem phase_takeTables (old : SiteTables) (s : State) : (takeTables old s).phase = s.phase := by
  obtain ⟨zones, alert, taken, -⟩ := takeTables_eq old s
  rw [taken, phase_of_fixed (fixed_takesFeed _)]
  simp only [State.judged, State.restaged, routerTakesTables]

theorem activated_keeps (s : State) : s.activated.Guards s ∧ s.activated.phase = s.phase := by
  have reloaded : (reloadAwaiting s).ringView = s.ringView := rfl
  have marked (changed : Bool) (u : State) : ({ u with runner.run.cfgChanged := changed } : State).ringView = u.ringView := rfl
  have phased (changed : Bool) (u : State) : ({ u with runner.run.cfgChanged := changed } : State).phase = u.phase := rfl
  unfold State.activated
  rw [markConfigurationChanged_eq]
  split
  · exact ⟨State.Guards.same ((guards_takeTables ..).trans (guards_of_view reloaded)) (marked ..), (phased ..).trans (phase_takeTables ..)⟩
  · exact ⟨guards_of_view ((marked ..).trans reloaded), rfl⟩

/-- An activation in service; a site that leaves UNCONFIGURED enters its first state by the ring (R67). -/
theorem guards_activate (running : s.phase = .running) : (activate s).Guards s := by
  obtain ⟨kept, phase⟩ := activated_keeps s
  have readied : s.activated.Readied s :=
    ⟨fun p => (kept.sound p).openIsCurrent, fun _ => phase.trans running, kept.checked⟩
  rw [activate_eq]
  unfold leaveUnconfigured
  split
  · exact readied.entersByRing
  · exact kept

/-! ### Commits and writes (R141, R144) -/

theorem view_endCommit (c : CommitRun) (st : Status) (data : List Byte) (s : State) :
    (endCommit c st data s).ringView = s.ringView := by
  unfold endCommit joinOrHold
  split <;> rfl

theorem phase_endCommit (c : CommitRun) (st : Status) (data : List Byte) (s : State) : (endCommit c st data s).phase = s.phase :=
  (congrArg RingView.phase (view_endCommit c st data s) :)

theorem guards_committed (running : s.phase = .running) (c : CommitRun) : (committed c s).Guards s := by
  have ended := view_endCommit c .committed [] s
  have service := (phase_endCommit c .committed [] s).trans running
  unfold committed
  dsimp only
  generalize endCommit c .committed [] s = u at ended service
  generalize Vector.ofFn _ = set
  have awaits : ({ u with store.awaiting := set } : State).Guards s := guards_of_view ended
  split
  · exact (guards_activate (by exact service)).trans awaits
  · exact awaits.same rfl

/-- A write that has ended is one less; other parts of the store are no part of the view. -/
theorem guards_writingEnds (p : PlanStore) (nv : NonVolatile) (ring : p.ring = s.store.ring)
    (waiting : p.recordWrites = s.store.recordWrites) (none : p.writing = none) (stored : nv.ring = s.nv.ring) :
    ({ s with store := p, nv := nv } : State).Guards s := by
  have view : ({ s with store := p, nv := nv } : State).ringView = { s.ringView with writing := .none } := by
    unfold State.ringView
    dsimp only
    rw [ring, waiting, none, stored]
    rfl
  exact ⟨fun ⟨current, clean, service⟩ => view ▸ ⟨current, clean, service⟩,
    fun ⟨image, waits, _, kept⟩ => view ▸ ⟨image, waits, nofun, kept⟩⟩

theorem guards_blockWritten (running : s.phase = .running) (b : Fin 4) (passes : Bool) : (blockWritten b passes s).Guards s := by
  have programmed (cond : Vector BlockCond 4) (writes : List OtherWrite) : ({ s with
      store := { s.store with writing := none, cond := cond, otherWrites := writes }
      nv := s.nv.program b s.programmed passes } : State).Guards s := guards_writingEnds _ _ rfl rfl rfl rfl
  unfold blockWritten
  dsimp only
  split
  · exact programmed _ _
  · split
    · split
      · exact programmed _ _
      · exact (guards_committed (by exact running) _).trans (programmed _ _)
    · exact State.Guards.same (programmed _ _) (view_endCommit ..)

/-- The write of a record stores it with its CRC (R144, R147). -/
theorem guards_recordWritten {w : RecordWrite} (ended : s.writeEnded = some (.record w)) : (recordWritten w s).Guards s := by
  have writing : s.ringView.writing = some (.record w) := by
    unfold State.writeEnded at ended
    split at ended
    · next x hx =>
      split at ended
      · show s.store.writing.map Writing.item = _
        rw [hx]
        exact ended
      · cases ended
    · cases ended
  refine ⟨fun ⟨current, clean, service⟩ => ⟨current, clean, service⟩, fun ⟨image, waits, checked, kept⟩ =>
    ⟨image, waits, nofun, fun j r hr => ?_⟩⟩
  have slot : (s.nv.ring.set w.slot (.record w.image))[j] = .record r := hr
  by_cases e : w.slot = j
  · subst e
    have same : Slot.record w.image = .record r := by simpa using slot
    cases same
    exact checked w writing
  · have ne : w.slot.val ≠ j.val := fun k => e (Fin.ext k)
    exact kept j r ((Vector.getElem_set_ne w.slot.isLt j.isLt ne).symm.trans slot)

/-! ### The start-up load (R66, R136, R149) -/

/-- A scanned ring holds records that pass their record CRC, each as it is stored. -/
theorem scanRing_record {ring : Vector Slot 16} {i : Fin 16} {r : TripRecord} (h : (scanRing ring)[i] = .record r) : r.Checked := by
  obtain ⟨blank, damaged, fails, passes⟩ := scanRing_slots ring i
  cases slot : ring[i] with
  | blank => rw [blank slot] at h; cases h
  | damaged => rw [damaged slot] at h; cases h
  | record x =>
    by_cases crc : x.crc = crc16 x.fields
    · obtain ⟨stays, older⟩ := passes x slot crc
      by_cases kept : x.closure ≠ .isOpen ∨ Newest openRecords (foundRing ring) i
      · rw [stays kept] at h
        cases h
        exact crc
      · rw [not_or, not_not] at kept
        rw [older kept.1 kept.2] at h
        cases h
    · rw [fails x slot crc] at h
      cases h

theorem guards_completeLoad (s : State) : (completeLoad s).Guards s := by
  obtain ⟨zones, alert, loaded⟩ := completeLoad_eq s
  have ring : (s.afterLoad zones alert).store.ring = scanRing s.nv.ring := rfl
  have readied (out : Bool) : ({ (s.afterLoad zones alert).scanned with trig.tripOut := out } : State).Readied s := by
    refine ⟨fun _ i => ?_, fun _ => rfl, fun ⟨_, waits, writing, kept⟩ => ⟨fun i r => scanRing_record, waits, writing, kept⟩⟩
    exact ((openSlot_oneOpen (foundRing s.nv.ring) i).symm :)
  rw [loaded]
  by_cases valid : (s.afterLoad zones alert).store.workValid = .replicate 4 true
  · rw [enterService_valid valid]
    exact (readied _).entersByRing
  · rw [enterService_invalid valid]
    exact ((readied _).entered (st := .unconfigured) (by decide) 0 none).same (view_raiseNotice _ none)

/-! ### Resets (R146, R189) -/

theorem guards_partReset (phase : Phase) (s : State) : (partReset phase s).Guards s := by
  have sound := ringSound_iff.mp reset_ringSound
  have clean := recordsChecked_iff.mp reset_recordsChecked
  refine ⟨fun _ => ⟨sound.openIsCurrent, nofun, fun _ => rfl⟩, fun ⟨_, _, _, kept⟩ =>
    ⟨clean.image, clean.waiting, clean.writing, fun j r (hr : (interruptWrites s).ring[j] = .record r) => ?_⟩⟩
  unfold interruptWrites at hr
  split at hr
  · next w _ _ =>
    by_cases e : w.slot = j
    · subst e
      simp at hr
    · have ne : w.slot.val ≠ j.val := fun k => e (Fin.ext k)
      exact kept j r ((Vector.getElem_set_ne w.slot.isLt j.isLt ne).symm.trans hr)
  · exact kept j r hr
  · exact kept j r hr

/-- What of a reset comes after the reset values is no part of the view, but for the phase. -/
theorem guards_beginLoad (addr rate : Fin 4) {t : State} (h : t.Guards s) (off : t.phase ≠ .running) :
    (beginLoad addr rate t).Guards s :=
  ⟨fun p => have ⟨current, clean, service⟩ := h.sound p; ⟨current, clean, fun _ => service off⟩,
    fun p => have ⟨image, waits, writing, kept⟩ := h.checked p; ⟨image, waits, writing, kept⟩⟩

theorem guards_commandedReset (addr rate : Fin 4) (s : State) : (commandedReset addr rate s).Guards s := by
  unfold commandedReset
  split
  · exact guards_beginLoad addr rate ((guards_partReset .loading s).same rfl) nofun
  · exact .refl s

/-! ### Follow-ups (log 3) and the tick -/

theorem phase_of_running (h : s.isRunning = true) : s.phase = .running := eq_of_beq h

theorem guards_takeUp (s : State) : ({ s with store := s.store.takeUp } : State).Guards s := by
  refine ⟨fun ⟨current, clean, service⟩ => ?_, checked_takeUp s⟩
  have ring : ({ s with store := s.store.takeUp } : State).ringView.ring = s.ringView.ring := PlanStore.takeUp_ring _
  exact ⟨fun i => by rw [ring]; exact current i, fun h => by rw [ring]; exact clean h, service⟩

theorem view_heldFollow (s : State) : (heldFollow s).ringView = s.ringView := by
  unfold heldFollow; split <;> rfl

theorem guards_followUp (s : State) : ∀ f ∈ followUpSteps, (f s).Guards s := by
  intro f hf
  simp only [followUpSteps, List.mem_cons, List.not_mem_nil, or_false] at hf
  rcases hf with rfl | rfl | rfl | rfl | rfl | rfl | rfl | rfl | rfl
  · exact guards_commandedReset ..
  · unfold activationFollows
    split
    · next due => exact guards_activate (phase_of_running ((Bool.and_eq_true _ _).mp due).1)
    · exact .refl s
  · refine guards_of_view ?_
    unfold sResetFollows sResetTakesEffect
    repeat' split
    all_goals rfl
  · refine guards_of_view ?_
    unfold pResetFollows pResetTakesEffect
    repeat' split
    all_goals rfl
  · exact guards_of_view (view_heldFollow s)
  · refine guards_of_view ?_
    unfold pChooses
    repeat' split
    all_goals rfl
  · refine guards_of_view ?_
    unfold sChooses sChoosesOther
    repeat' split
    all_goals rfl
  · exact guards_of_view (view_heldFollow s)
  · unfold takeUpFollows
    split
    · exact guards_takeUp s
    · exact .refl s

theorem guards_followUps (fs : List (State → State)) (hfs : ∀ f ∈ fs, f ∈ followUpSteps) (s : State) :
    (fs.foldl (fun s f => f s) s).Guards s := by
  induction fs generalizing s with
  | nil => exact .refl s
  | cons f fs ih =>
    exact (ih (fun g hg => hfs g (List.mem_cons_of_mem f hg)) _).trans (guards_followUp s f (hfs f List.mem_cons_self))

theorem guards_caughtUpTo (k : Nat) (s : State) : (s.caughtUpTo k).Guards s :=
  guards_followUps _ (fun _ hf => List.mem_of_mem_take hf) s

theorem guards_tick (s : State) : (tick s).Guards s := by
  refine guards_of_view ?_
  unfold tick
  split
  · have ticking : (s.store.writing.map Writing.tick).map Writing.item = s.store.writing.map Writing.item := by
      rw [Option.map_map]; rfl
    rw [sampleAll_eq]
    unfold tickTimers State.ringView
    dsimp only
    rw [ticking]
  all_goals rfl

end Store

end Sys2Proof.Machine
end

section
/-! SUPPORT. Every command, and with it every step, keeps the ring sound. -/

namespace Sys2Proof.Machine

section Rows
variable {s : State}

/-- A command that takes an operation after the first `k` follow-ups keeps what the operation keeps. -/
theorem guards_after (k : Nat) {f : State → State} (hf : ∀ t, (f t).Guards t) :
    ∃ t, (.next (f (s.caughtUpTo k)) : Host.Outcome State Fault Refusal) = .next t ∧ t.Guards s :=
  ⟨_, rfl, (hf _).trans (guards_caughtUpTo k s)⟩

/-- A command that is an event of its own keeps what its operation keeps. -/
theorem guards_event {f : State → State} (hf : ∀ t, (f t).Guards t) : ∃ t, event f s = .next t ∧ t.Guards s :=
  guards_after 9 hf

/-- A timer or input row keeps what its event keeps. -/
theorem guards_whenDue (due : State → Bool) {f : State → State} (hf : ∀ t, (f t).Guards t) :
    ∃ t, whenDue due f s = .next t ∧ t.Guards s := by
  refine guards_event fun t => ?_
  split
  · exact hf t
  · exact .refl t

/-- A follow-up's own row finds those before it taken. -/
theorem guards_followUpRow (k : Nat) {f : State → State} (hf : f ∈ followUpSteps) :
    ∃ t, (.next (f (s.caughtUpTo k)) : Host.Outcome State Fault Refusal) = .next t ∧ t.Guards s :=
  guards_after k fun t => guards_followUp t f hf

theorem guards_pFrameRow {c : Instr} {f : Frame} (hc : pFrameOf c = some f) : ∃ t, exec c s = .next t ∧ t.Guards s := by
  rw [exec_of_pFrameOf hc]
  exact guards_after 9 fun t => guards_frameArrives f t .p

theorem guards_sFrameRow {c : Instr} {f : Frame} (hc : sFrameOf c = some f) : ∃ t, exec c s = .next t ∧ t.Guards s := by
  rw [exec_of_sFrameOf hc]
  exact guards_after 9 fun t => guards_frameArrives f t .s

theorem guards_requestRow {c : Instr} {src tag : Byte} {r : Req} (hc : requestOf c = some (src, tag, r)) :
    ∃ t, exec c s = .next t ∧ t.Guards s := by
  rw [exec_of_requestOf hc]
  exact guards_after 9 fun t => guards_frameArrives (t.requestFrame src tag r.payload) t .s

end Rows

/-! ### The operations of the other rows -/

section Operations
variable (s : State)

theorem guards_contactChanges (i : Fin 4) : (contactChanges i s).Guards s := by
  have flipped : (flipInput i.castSucc s).Guards s := guards_of_view rfl
  unfold contactChanges
  dsimp only
  split
  · exact (guards_latch ..).trans flipped
  · exact flipped

theorem guards_utilityChanged : (utilityChanged s).Guards s := by
  have started (stable : Bool) (start : Option Time) :
      ({ flipInput 4 s with trig.feedStable := stable, trig.feedStart := start } : State).Guards s := guards_of_view rfl
  unfold utilityChanged
  dsimp only
  split
  · split
    · exact (guards_feedRises _).trans (started _ _)
    · exact started _ _
  · exact started _ _

theorem view_pEnds : (pEnds s).ringView = s.ringView := by
  unfold pEnds
  split
  · rfl
  · dsimp only
    split <;> rfl

theorem view_sEnds : (sEnds s).ringView = s.ringView := by
  unfold sEnds resetAfter
  repeat' split
  all_goals rfl

theorem view_heldJoin : (heldJoin s).ringView = s.ringView := by
  unfold heldJoin heldResponseJoins
  repeat' split
  all_goals rfl

end Operations

/-- Every command keeps the ring sound (the rows of the table in their groups). -/
theorem guards_exec (c : Instr) (s : State) : ∃ t, exec c s = .next t ∧ t.Guards s := by
  cases c with
  -- resets and power
  | powerOnReset addr rate =>
    unfold exec execPowerOnReset
    exact guards_event fun t => guards_beginLoad addr rate ((guards_partReset .loading t).same rfl) nofun
  | resetPinAssert =>
    unfold exec execResetPinAssert
    refine guards_event fun t => ?_
    have cleared := guards_partReset .held t
    split
    · exact cleared.same rfl
    · exact cleared.same rfl
    · exact .refl t
    · exact .refl t
  | resetPinRelease addr rate =>
    unfold exec execResetPinRelease
    refine guards_event fun t => ?_
    split
    · next held => exact guards_beginLoad addr rate (.refl t) (by rw [held]; decide)
    all_goals exact .refl t
  | startUpLoadComplete =>
    unfold exec execStartUpLoadComplete
    refine guards_event fun t => ?_
    split
    · exact guards_completeLoad t
    all_goals exact .refl t
  | commandedReset a r => exact ⟨_, rfl, guards_commandedReset a r s⟩
  | lossOfPower => exact guards_event (guards_partReset .unpowered)
  -- frames and characters
  | receiveCharacter port v marker framing =>
    unfold exec execReceiveCharacter
    refine guards_event fun t => ?_
    rw [bitsArrive_charBits]
    exact guards_characterArrives t port v marker _
  | receiveGapExpiry port => exact guards_event fun t => guards_of_view (view_gapExpires t port)
  | pSampleFrame | pWarningFrame | pReplyFrame | pStatusFrame | pOtherFrame => exact guards_pFrameRow rfl
  | sCommandFrame | sOtherFrame => exact guards_sFrameRow rfl
  | unknownRequest src tag payload =>
    unfold exec execUnknownRequest
    exact guards_event fun t => guards_frameArrives _ t .s
  | readStatus | readChannel | readZone | readNode | readStep | readOutstanding | readWarnings | readTripRecord
  | readCounters | readShadow | writeShadow | commit | setProtection | reloadProtection | authorizeRestart
  | abortRestart | forceTrip | clearTriggers | isolateZone | restoreZone | setTime | clearCounters | clearCause
  | resetPortS | resetPortP | resetPart => exact guards_requestRow rfl
  -- transmission and what follows an event
  | pTransmissionEnd =>
    unfold exec execPTransmissionEnd
    refine guards_event fun t => guards_of_view ?_
    split
    · exact view_pEnds t
    · rfl
  | sTransmissionEnd =>
    unfold exec execSTransmissionEnd
    refine guards_event fun t => guards_of_view ?_
    split
    · exact view_sEnds t
    · rfl
  | sPortResetEffect => exact guards_followUpRow 2 (by simp [followUpSteps])
  | pPortResetEffect => exact guards_followUpRow 3 (by simp [followUpSteps])
  | heldResponseJoin => exact guards_after 4 fun t => guards_of_view (view_heldJoin t)
  | pArbiterChoice => exact guards_followUpRow 5 (by simp [followUpSteps])
  | sArbiterChoice => exact guards_followUpRow 6 (by simp [followUpSteps])
  | nvWriteTakeUp => exact guards_followUpRow 8 (by simp [followUpSteps])
  | deferredActivation => exact guards_followUpRow 1 (by simp [followUpSteps])
  -- timers and inputs
  | staleTimerExpiry i =>
    unfold exec execStaleTimerExpiry
    exact guards_whenDue _ (guards_staleExpired i)
  | onsetUntilExpiry i =>
    unfold exec execOnsetUntilExpiry
    exact guards_whenDue _ fun t => (guards_stampExpired i t).1
  | strongUntilExpiry i =>
    unfold exec execStrongUntilExpiry
    exact guards_whenDue _ fun t => (guards_stampExpired i t).2
  | tripInDebouncedChange i =>
    unfold exec execTripInDebouncedChange
    exact guards_whenDue _ fun t => guards_contactChanges t i
  | utilityOkDebouncedChange =>
    unfold exec execUtilityOkDebouncedChange
    exact guards_whenDue _ guards_utilityChanged
  | feedDwellExpiry =>
    unfold exec execFeedDwellExpiry
    exact guards_whenDue _ guards_feedRises
  | warningExpiry i =>
    unfold exec execWarningExpiry
    exact guards_whenDue _ fun t => (guards_formRemote _).trans (guards_of_view rfl)
  | quietTimerExpiry =>
    unfold exec execQuietTimerExpiry
    exact guards_whenDue _ fun t => guards_of_view rfl
  | dwellExpiry i =>
    unfold exec execDwellExpiry
    exact guards_whenDue _ fun t => guards_runEvent (noRunner_dwellExpired i t)
  | replyDeadlineExpiry i =>
    unfold exec execReplyDeadlineExpiry
    exact guards_whenDue _ fun t => guards_runEvent (noRunner_deadlineExpired i t)
  | readyTimeoutExpiry i =>
    unfold exec execReadyTimeoutExpiry
    exact guards_whenDue _ fun t => guards_runEvent (noRunner_readyExpired i t)
  | settleExpiry i =>
    unfold exec execSettleExpiry
    exact guards_whenDue _ fun t => guards_runEvent (noRunner_settleExpired i t)
  | siteTimeSecond =>
    unfold exec execSiteTimeSecond
    refine guards_event fun t => guards_of_view ?_
    split <;> rfl
  | rawInputLevelChange =>
    unfold exec execRawInputLevelChange
    exact guards_event fun t => guards_of_view rfl
  -- non-volatile writes
  | recordWriteEnd =>
    unfold exec execRecordWriteEnd
    refine guards_event fun t => ?_
    split
    · next ended => exact guards_recordWritten ended
    · exact .refl t
  | blockProgramEnd passes =>
    unfold exec execBlockProgramEnd
    refine guards_event fun t => ?_
    split
    · next running _ => exact guards_blockWritten (phase_of_running running) _ passes
    · exact .refl t
  | protectionWriteEnd =>
    unfold exec execProtectionWriteEnd
    refine guards_event fun t => ?_
    split
    · exact guards_writingEnds _ _ rfl rfl rfl rfl
    · exact .refl t

/-- Every step keeps the ring sound and the records' CRCs. -/
theorem guards_step {s t : State} (ht : step s = .next t) : t.Guards s := by
  have of_exec (c : Instr) {u : State} (hu : u.Guards s) (e : exec c u = .next t) : t.Guards s := by
    obtain ⟨t', e', kept⟩ := guards_exec c u
    rw [e] at e'
    cases e'
    exact kept.trans hu
  have drawn : s.afterDraw.Guards s := by
    refine guards_of_view ?_
    unfold State.afterDraw
    split <;> rfl
  have taken (rest : List Instr) : ({ s with pending := rest } : State).Guards s := guards_of_view rfl
  unfold step at ht
  split at ht
  · exact of_exec _ (taken _) ht
  · unfold idle at ht
    split at ht
    · exact of_exec _ drawn ht
    · cases ht
      exact guards_tick s

/-- In a sound ring at most one slot is OPEN, the current record's; in ARMED none is, and none is damaged (R68, R147). -/
theorem State.RingSound.clean {t : State} (h : t.RingSound) :
    (∀ i j : Fin 16, t.store.ring[i].isOpen = true → t.store.ring[j].isOpen = true → i = j) ∧
      (t.site.state = .armed → ∀ i : Fin 16, t.store.ring[i].isOpen = false ∧ t.store.ring[i] ≠ .damaged) := by
  obtain ⟨current, armed, -⟩ := h
  refine ⟨fun i j hi hj => Option.some.inj (((current i).mp hi).symm.trans ((current j).mp hj)), fun st i => ?_⟩
  obtain ⟨record, sound⟩ := armed st
  refine ⟨noneOpen_of_no_record current record i, fun e => ?_⟩
  rw [anyDamaged_iff.mpr ⟨i, e⟩] at sound
  cases sound

/-- Settles O58: each invariant speaks of the view of the ring alone, and every step keeps it. -/
theorem everyStepKeepsTheRingSound : Obligations.EveryStepKeepsTheRingSound := by
  unfold Obligations.EveryStepKeepsTheRingSound
  intro s t ht
  have kept := guards_step ht
  refine ⟨fun h => ?_, fun h => recordsChecked_iff.mpr (kept.checked (recordsChecked_iff.mp h))⟩
  have sound : t.RingSound := ringSound_iff.mpr (kept.sound (ringSound_iff.mp h))
  exact ⟨sound, sound.clean⟩

end Sys2Proof.Machine
end

section
/-! SUPPORT. The consequences of steps that have become terminal (R96 to R99): the pass over the steps in ascending id, place by place. -/

namespace Sys2Proof.Machine

section Examination
variable (s : State)

/-- A BLOCKED step's record after its examination (R97 to R99). -/
def State.examined (i : Fin 64) : Step :=
  if (s.stepCfg i).prereqs.any s.unsatisfiable then ⟨.notRun, s.now, none, none⟩
  else if (s.stepCfg i).prereqs.all s.satisfied then
    if (s.stepCfg i).dwell = 0 then ⟨s.checkResult (s.stepCfg i), s.now, none, none⟩
    else ⟨.waitingDwell, s.now, some (s.stepCfg i).dwell, none⟩
  else s.runner.steps[i]

theorem examine_eq (i : Fin 64) : examine i s = { s with runner.steps := s.runner.steps.set i (s.examined i) } := by
  unfold examine State.examined
  dsimp only
  split
  · rfl
  · split
    · unfold enterDwell runChecks moveStep setStep
      dsimp only
      split
      · simp only [Vector.set_set]
        rfl
      · rfl
    · simp

/-- The pass examines the step at this place: it is BLOCKED, and one of its prerequisites has just become terminal, or it has
none (R96). -/
def State.follows (just : List (Fin 64)) (i : Fin 64) : Prop :=
  s.runner.steps[i].state = .blocked ∧ ((s.stepCfg i).prereqs = [] ∨ ∃ p ∈ (s.stepCfg i).prereqs, p ∈ just)

theorem followAt_of_follows {just : List (Fin 64)} {i : Fin 64} (h : s.follows just i) : followAt (s, just) i =
    ({ s with runner.steps := s.runner.steps.set i (s.examined i) },
      if (s.examined i).state.terminal then i :: just else just) := by
  obtain ⟨blocked, reached⟩ := h
  have due : (s.stepAt i).state = .blocked ∧
      ((s.stepCfg i).prereqs.isEmpty || (s.stepCfg i).prereqs.any just.contains) = true := ⟨blocked, by simpa using reached⟩
  have record : ((examine i s).stepAt i) = s.examined i := by
    rw [examine_eq]
    simp [State.stepAt]
  unfold followAt
  dsimp only
  rw [if_pos due, record, examine_eq]

theorem followAt_of_not_follows {just : List (Fin 64)} {i : Fin 64} (h : ¬s.follows just i) : followAt (s, just) i = (s, just) :=
  if_neg fun ⟨blocked, reached⟩ => h ⟨blocked, by simpa using reached⟩

end Examination

/-- What one place of the pass does: it changes no record but its own, and lists its step where that becomes terminal. -/
theorem followAt_effect (s : State) (just : List (Fin 64)) (i : Fin 64) : let t := followAt (s, just) i
    t.1 = { s with runner.steps := t.1.runner.steps } ∧
    (∀ p : Fin 64, p ≠ i → t.1.runner.steps[p] = s.runner.steps[p]) ∧
    (∀ p : Fin 64, p ∈ t.2 ↔ p ∈ just ∨ p = i ∧ s.runner.steps[p].state = .blocked ∧ t.1.runner.steps[p].state.terminal = true) := by
  intro t
  by_cases h : s.follows just i
  · have e : t = _ := followAt_of_follows s h
    have own : (s.runner.steps.set i (s.examined i))[i] = s.examined i := by simp
    rw [e]
    refine ⟨rfl, fun p ne => Vector.getElem_set_ne i.isLt p.isLt fun k => ne (Fin.ext k.symm), fun p => ?_⟩
    dsimp only
    constructor
    · intro hp
      split at hp
      · next ended =>
        rcases List.mem_cons.mp hp with rfl | hp
        · exact .inr ⟨rfl, h.1, own.symm ▸ ended⟩
        · exact .inl hp
      · exact .inl hp
    · rintro (hp | ⟨rfl, -, ended⟩) <;> split
      · exact List.mem_cons_of_mem i hp
      · exact hp
      · exact List.mem_cons_self
      · next going => exact absurd (own ▸ ended) going
  · have e : t = (s, just) := followAt_of_not_follows s h
    rw [e]
    refine ⟨rfl, fun _ _ => rfl, fun p => ⟨.inl, fun hp => hp.elim id fun ⟨_, blocked, ended⟩ => ?_⟩⟩
    rw [blocked] at ended
    cases ended

/-- What a run of places does. -/
theorem foldl_followAt (l : List (Fin 64)) (hl : l.Nodup) (s : State) (just : List (Fin 64)) :
    let t := l.foldl followAt (s, just)
    t.1 = { s with runner.steps := t.1.runner.steps } ∧
    (∀ p : Fin 64, p ∉ l → t.1.runner.steps[p] = s.runner.steps[p]) ∧
    (∀ p : Fin 64, p ∈ t.2 ↔ p ∈ just ∨ p ∈ l ∧ s.runner.steps[p].state = .blocked ∧ t.1.runner.steps[p].state.terminal = true) := by
  induction l generalizing s just with
  | nil => exact ⟨rfl, fun _ _ => rfl, fun p => by simp⟩
  | cons i l ih =>
    obtain ⟨hi, hl⟩ := List.nodup_cons.mp hl
    obtain ⟨same, others, listed⟩ := followAt_effect s just i
    obtain ⟨same', others', listed'⟩ := ih hl (followAt (s, just) i).1 (followAt (s, just) i).2
    rw [List.foldl_cons]
    refine ⟨?_, fun p hp => ?_, fun p => ?_⟩
    · rw [same', same]
    · rw [others' p fun h => hp (List.mem_cons_of_mem i h), others p fun h => hp (h ▸ List.mem_cons_self)]
    · rw [listed' p, listed p, List.mem_cons]
      by_cases e : p = i
      · subst e
        rw [others' p hi]
        tauto
      · rw [others p e]
        tauto

section Follow
variable (just : List (Fin 64)) (s : State)

/-- The pass changes the steps' records alone. -/
theorem follow_eq : follow just s = { s with runner.steps := (follow just s).runner.steps } := by
  unfold follow
  have nodup := List.nodup_finRange 64
  generalize List.finRange 64 = places at nodup
  exact (foldl_followAt places nodup s just).1

theorem run_follow : (follow just s).runner.run = s.runner.run :=
  (congrArg (fun u : State => u.runner.run) (follow_eq just s) :)

/-- The state in which the pass comes to place `i`, the steps listed as terminal then, and what the pass makes of its step. -/
theorem follow_at (i : Fin 64) : ∃ (before : State) (listed : List (Fin 64)),
    before = { s with runner.steps := before.runner.steps } ∧
    (∀ p : Fin 64, before.runner.steps[p] = if p < i then (follow just s).runner.steps[p] else s.runner.steps[p]) ∧
    (∀ p : Fin 64, p ∈ listed ↔ p ∈ just ∨ p < i ∧ s.runner.steps[p].state = .blocked ∧
      (follow just s).runner.steps[p].state.terminal = true) ∧
    (follow just s).runner.steps[i] = (followAt (before, listed) i).1.runner.steps[i] := by
  obtain ⟨pre, post, split⟩ := List.append_of_mem (List.mem_finRange i)
  have sorted : (pre ++ i :: post).Pairwise (· < ·) := split ▸ List.pairwise_lt_finRange 64
  have nodup : (pre ++ i :: post).Nodup := split ▸ List.nodup_finRange 64
  have low (p : Fin 64) : p ∈ pre ↔ p < i := by
    refine ⟨fun hp => (List.pairwise_append.mp sorted).2.2 p hp i List.mem_cons_self, fun lt => ?_⟩
    have all : p ∈ pre ++ i :: post := split ▸ List.mem_finRange p
    rcases List.mem_append.mp all with hp | hp
    · exact hp
    · rcases List.mem_cons.mp hp with rfl | hp
      · exact absurd lt (lt_irrefl p)
      · exact absurd (lt.trans ((List.pairwise_cons.mp (List.pairwise_append.mp sorted).2.1).1 p hp)) (lt_irrefl p)
  have fold : follow just s = (post.foldl followAt (followAt (pre.foldl followAt (s, just)) i)).1 := by
    unfold follow
    rw [split, List.foldl_append, List.foldl_cons]
  obtain ⟨hpre, hrest, apart⟩ := List.nodup_append.mp nodup
  obtain ⟨hi, hpost⟩ := List.nodup_cons.mp hrest
  obtain ⟨same, others, listed⟩ := foldl_followAt pre hpre s just
  generalize pre.foldl followAt (s, just) = reached at fold same others listed
  obtain ⟨before, list⟩ := reached
  obtain ⟨-, others', -⟩ := followAt_effect before list i
  obtain ⟨-, others'', -⟩ := foldl_followAt post hpost (followAt (before, list) i).1 (followAt (before, list) i).2
  have final (p : Fin 64) (hp : p ∉ post) : (follow just s).runner.steps[p] = (followAt (before, list) i).1.runner.steps[p] := by
    rw [fold]
    exact others'' p hp
  have settled (p : Fin 64) (lt : p < i) : (follow just s).runner.steps[p] = before.runner.steps[p] := by
    rw [final p fun hp => apart p ((low p).mpr lt) p (List.mem_cons_of_mem i hp) rfl]
    exact others' p lt.ne
  refine ⟨before, list, same, fun p => ?_, fun p => ?_, final i hi⟩
  · split
    · next lt => exact (settled p lt).symm
    · next ge => exact others p fun hp => ge ((low p).mp hp)
  · rw [listed p, low p]
    by_cases lt : p < i
    · rw [settled p lt]
    · simp [lt]

theorem follow_of_not_blocked {i : Fin 64} (h : s.runner.steps[i].state ≠ .blocked) :
    (follow just s).runner.steps[i] = s.runner.steps[i] := by
  obtain ⟨before, list, -, records, -, final⟩ := follow_at just s i
  have own : before.runner.steps[i] = s.runner.steps[i] := by rw [records, if_neg (lt_irrefl i)]
  have still : ¬before.follows list i := fun ⟨blocked, _⟩ => h (own ▸ blocked)
  rw [final, followAt_of_not_follows before still, own]

end Follow

section Kinds
variable {u : State}

theorem unsatisfiable_iff (p : Fin 64) : u.unsatisfiable p = true ↔ u.runner.steps[p].state = .notRun ∨
    u.runner.steps[p].state = .failed ∧ (u.stepCfg p).policy = .prune := by
  unfold State.unsatisfiable State.stepAt
  cases u.runner.steps[p].state <;> simp

theorem satisfied_iff (p : Fin 64) : u.satisfied p = true ↔ u.runner.steps[p].state = .done ∨
    u.runner.steps[p].state = .already ∨ u.runner.steps[p].state = .skipped ∨
    u.runner.steps[p].state = .failed ∧ ((u.stepCfg p).policy = .proceed ∨ (u.stepCfg p).policy = .escalate) := by
  unfold State.satisfied State.stepAt
  cases u.runner.steps[p].state <;> simp

end Kinds

end Sys2Proof.Machine
end

section
/-! SUPPORT. The slot grant of a settling (R96, R103; log 41): which of the waiting steps take a slot, and in which order. -/

namespace Sys2Proof.Machine

/-! ### The lowest place -/

/-- What a search over all places in ascending order finds. -/
theorem find?_finRange_eq_some {n : Nat} {p : Fin n → Bool} {i : Fin n} :
    (List.finRange n).find? p = some i ↔ p i = true ∧ ∀ j : Fin n, j < i → p j = false := by
  rw [List.find?_eq_some_iff_append]
  constructor
  · rintro ⟨hi, before, after, split, out⟩
    refine ⟨hi, fun j lt => ?_⟩
    have sorted : (before ++ i :: after).Pairwise (· < ·) := split ▸ List.pairwise_lt_finRange n
    have all : j ∈ before ++ i :: after := split ▸ List.mem_finRange j
    rcases List.mem_append.mp all with hj | hj
    · simpa using out j hj
    · rcases List.mem_cons.mp hj with rfl | hj
      · exact absurd lt (lt_irrefl j)
      · exact absurd (lt.trans ((List.pairwise_cons.mp (List.pairwise_append.mp sorted).2.1).1 j hj)) (lt_irrefl j)
  · rintro ⟨hi, out⟩
    obtain ⟨before, after, split⟩ := List.append_of_mem (List.mem_finRange i)
    have sorted : (before ++ i :: after).Pairwise (· < ·) := split ▸ List.pairwise_lt_finRange n
    refine ⟨hi, before, after, split, fun j hj => ?_⟩
    rw [out j ((List.pairwise_append.mp sorted).2.2 j hj i List.mem_cons_self)]
    rfl

theorem lowest_eq_some {p : Fin 64 → Bool} {l : List (Fin 64)} {h : Fin 64} :
    lowest p l = some h ↔ (h ∈ l ∧ p h = true) ∧ ∀ j ∈ l, j < h → p j = false := by
  unfold lowest
  rw [find?_finRange_eq_some]
  simp only [Bool.and_eq_true, List.contains_iff_mem, Bool.and_eq_false_imp]
  exact and_congr_right fun _ => ⟨fun out j hj lt => out j lt hj, fun out j lt hj => out j hj lt⟩

theorem lowest_eq_none {p : Fin 64 → Bool} {l : List (Fin 64)} : lowest p l = none ↔ ∀ i ∈ l, p i = false := by
  unfold lowest
  simp only [List.find?_eq_none, List.mem_finRange, forall_const, Bool.and_eq_true, List.contains_iff_mem, not_and, Bool.not_eq_true]

/-! ### One choice -/

section Choice
variable {w : List (Fin 64)} {s t : State} {i : Fin 64}

/-- A step of lower id that stands first is the one chosen. -/
theorem chooseQueued_order (h : chooseQueued w s = some (i, t)) {x : Fin 64} {before after : List (Fin 64)}
    (precedes : w = before ++ x :: after) (apart : i ∉ before) : ¬x < i := by
  intro lt
  have low : ∀ l, lowest (fun _ => true) w = some l → i ≠ l := fun l hl e =>
    Bool.noConfusion ((lowest_eq_some.mp hl).2 x (precedes ▸ by simp) (e ▸ lt))
  unfold chooseQueued at h
  split at h
  · next oldest rest l hl =>
    have own := low l hl
    split at h
    · cases h
      exact own rfl
    · dsimp only at h
      split at h <;> cases h
      · exact own rfl
      · cases before with
        | nil =>
          cases precedes
          exact lt_irrefl _ lt
        | cons y before =>
          cases precedes
          exact apart List.mem_cons_self
  · cases h

/-- A choice fails for want of a waiting step alone. -/
theorem chooseQueued_none (h : chooseQueued w s = none) : w = [] := by
  cases w with
  | nil => rfl
  | cons x w =>
    cases low : lowest (fun _ => true) (x :: w) with
    | none => exact Bool.noConfusion (lowest_eq_none.mp low x List.mem_cons_self)
    | some l =>
      simp only [chooseQueued, low] at h
      split at h <;> cases h

end Choice

/-! ### The grant -/

/-- The state with this counter of free values and these steps waiting. -/
def State.orderedBy (s : State) (free : Nat) (waiting : List (Fin 64)) : State :=
  { s with freeIndex := free, runner.queued := waiting }

/-- Issuing steps neither reads nor changes the counter of the free values or the steps that wait. -/
theorem orderedBy_issue (free : Nat) (waiting : List (Fin 64)) (granted : List (Fin 64)) (s : State) :
    (granted.foldl (fun v i => issueStep i v) s).orderedBy free waiting =
      granted.foldl (fun v i => issueStep i v) (s.orderedBy free waiting) := by
  induction granted generalizing s with
  | nil => rfl
  | cons i granted ih => exact ih (issueStep i s)

/-- `t` is `s` with these of the steps that wait granted a slot, in this order. -/
structure State.Granted (t s : State) (waiting granted : List (Fin 64)) : Prop where
  nodup : granted.Nodup
  mem : ∀ i ∈ granted, i ∈ waiting
  issued : t.orderedBy s.freeIndex s.runner.queued = granted.foldl (fun v i => issueStep i v) s
  left : t.runner.queued = waiting.filter fun i => i ∉ granted
  room : granted ≠ [] → s.runner.outstanding.length + granted.length ≤ s.runner.run.slotLimit
  full : (∃ i ∈ waiting, i ∉ granted) → s.runner.run.slotLimit ≤ s.runner.outstanding.length + granted.length
  order : ∀ x y before after, waiting = before ++ x :: after → y ∉ before → x < y → y ∈ granted → granted.idxOf x < granted.idxOf y

/-- No slot is granted where none is free or no step waits. -/
theorem granted_nil {waiting : List (Fin 64)} {s : State}
    (h : waiting = [] ∨ s.runner.run.slotLimit ≤ s.runner.outstanding.length) : (keepWaiting waiting s).Granted s waiting [] where
  nodup := List.nodup_nil
  mem := nofun
  issued := rfl
  left := by simp [keepWaiting]
  room := fun h => absurd rfl h
  full := fun ⟨i, hi, _⟩ => h.elim (fun none => absurd (none ▸ hi) List.not_mem_nil) id
  order := fun _ _ _ _ _ _ _ => nofun

section Step
variable {waiting granted : List (Fin 64)} {s u t : State} {i : Fin 64}

/-- A grant to one step, and then to others of those left. -/
theorem granted_cons (room : s.runner.outstanding.length < s.runner.run.slotLimit) (chosen : chooseQueued waiting s = some (i, u))
    (rest : t.Granted (issueStep i u) (waiting.filter (· != i)) granted) : t.Granted s waiting (i :: granted) := by
  obtain ⟨waits, drawn⟩ := chooseQueued_cases chosen
  have same : (issueStep i u).orderedBy s.freeIndex s.runner.queued = issueStep i s := by rcases drawn with rfl | rfl <;> rfl
  have entries : (issueStep i u).runner.outstanding.length = s.runner.outstanding.length + 1 := by
    rcases drawn with rfl | rfl <;> exact List.length_append
  have limit : (issueStep i u).runner.run.slotLimit = s.runner.run.slotLimit := by rcases drawn with rfl | rfl <;> rfl
  have apart : i ∉ granted := fun hi => by simpa using rest.mem i hi
  refine ⟨List.nodup_cons.mpr ⟨apart, rest.nodup⟩, ?_, ?_, ?_, fun _ => ?_, ?_, ?_⟩
  · intro j hj
    rcases List.mem_cons.mp hj with rfl | hj
    · exact waits
    · exact List.mem_of_mem_filter (rest.mem j hj)
  · calc t.orderedBy s.freeIndex s.runner.queued
        = (t.orderedBy (issueStep i u).freeIndex (issueStep i u).runner.queued).orderedBy s.freeIndex s.runner.queued := rfl
      _ = granted.foldl (fun v i => issueStep i v) (issueStep i s) := by rw [rest.issued, orderedBy_issue, same]
  · rw [rest.left, List.filter_filter]
    refine List.filter_congr fun j _ => ?_
    by_cases e : j = i <;> simp [e, apart]
  · have := rest.room
    rw [entries, limit] at this
    rw [List.length_cons]
    rcases granted with _ | ⟨j, granted⟩
    · exact room
    · have := this (List.cons_ne_nil j granted)
      omega
  · rintro ⟨j, hj, out⟩
    have := rest.full ⟨j, List.mem_filter.mpr ⟨hj, by simpa using fun e : j = i => out (e ▸ List.mem_cons_self)⟩,
      fun h => out (List.mem_cons_of_mem i h)⟩
    rw [entries, limit] at this
    rw [List.length_cons]
    omega
  · intro x y before after split first lt granted_y
    by_cases ey : i = y
    · subst ey
      exact absurd lt (chooseQueued_order chosen split first)
    by_cases ex : i = x
    · subst ex
      rw [List.idxOf_cons_eq _ rfl, List.idxOf_cons_ne _ ey]
      exact Nat.succ_pos _
    have hy : y ∈ granted := (List.mem_cons.mp granted_y).resolve_left fun e => ey e.symm
    rw [List.idxOf_cons_ne _ ex, List.idxOf_cons_ne _ ey]
    refine Nat.succ_lt_succ (rest.order x y (before.filter (· != i)) (after.filter (· != i)) ?_
      (fun h => first (List.mem_of_mem_filter h)) lt hy)
    rw [split, List.filter_append, List.filter_cons_of_pos (by simpa using fun e : x = i => ex e.symm)]

/-- The grant to as many steps as wait, or fewer. -/
theorem granted_grantTo (n : Nat) (waiting : List (Fin 64)) (s : State) (enough : waiting.length ≤ n) :
    ∃ granted, (grantTo n waiting s).Granted s waiting granted := by
  induction n generalizing waiting s with
  | zero => exact ⟨[], granted_nil (.inl (List.length_eq_zero_iff.mp (Nat.le_zero.mp enough)))⟩
  | succ n ih =>
    unfold grantTo
    split
    · next room =>
      split
      · next i u chosen =>
        have fewer : (waiting.filter (· != i)).length < waiting.length :=
          List.length_filter_lt_length_iff_exists.mpr ⟨i, (chooseQueued_cases chosen).1, by simp⟩
        obtain ⟨granted, rest⟩ := ih (waiting.filter (· != i)) (issueStep i u) (by omega)
        exact ⟨i :: granted, granted_cons room chosen rest⟩
      · next none => exact ⟨[], granted_nil (.inl (chooseQueued_none none))⟩
    · next full => exact ⟨[], granted_nil (.inr (not_lt.mp full))⟩

end Step

section Slots
variable (s : State)

theorem isQueued_iff (i : Fin 64) : s.isQueued i = true ↔ s.runner.steps[i].state = .queued := beq_iff_eq

/-- The steps that wait for a slot are the QUEUED ones. -/
theorem mem_waiting (i : Fin 64) : i ∈ s.waiting ↔ s.runner.steps[i].state = .queued := by
  rw [← isQueued_iff]
  unfold State.waiting
  by_cases h : i ∈ s.runner.queued <;> simp [h]

theorem granted_grantSlots : ∃ granted, (grantSlots s).Granted s s.waiting granted := granted_grantTo _ _ s le_rfl

/-- Of two steps that became QUEUED in one event the lower waits first. -/
theorem waiting_of_new {i j : Fin 64} (hi : s.runner.steps[i].state = .queued) (lt : i < j)
    (newI : i ∉ s.runner.queued) (newJ : j ∉ s.runner.queued) :
    ∃ before after, s.waiting = before ++ i :: after ∧ j ∉ before := by
  obtain ⟨pre, post, split⟩ := List.append_of_mem (List.mem_finRange i)
  have sorted : (pre ++ i :: post).Pairwise (· < ·) := split ▸ List.pairwise_lt_finRange 64
  have low : ∀ p ∈ pre, p < i := fun p hp => (List.pairwise_append.mp sorted).2.2 p hp i List.mem_cons_self
  have new : (s.isQueued i && !s.runner.queued.contains i) = true := by simp [(isQueued_iff s i).mpr hi, newI]
  refine ⟨s.runner.queued.filter s.isQueued ++ pre.filter fun i => s.isQueued i && !s.runner.queued.contains i,
    post.filter fun i => s.isQueued i && !s.runner.queued.contains i, ?_, ?_⟩
  · unfold State.waiting
    rw [split, List.filter_append, List.filter_cons_of_pos (by exact new), ← List.append_assoc]
  · intro hj
    rcases List.mem_append.mp hj with hj | hj
    · exact newJ (List.mem_of_mem_filter hj)
    · exact lt_asymm lt (low j (List.mem_of_mem_filter hj))

/-- A step that became QUEUED in an earlier event waits before those that became QUEUED later. -/
theorem waiting_of_earlier {i j : Fin 64} {earlier later : List (Fin 64)} (hi : s.runner.steps[i].state = .queued)
    (split : s.runner.queued = earlier ++ i :: later) (hj : j ∉ earlier) :
    ∃ before after, s.waiting = before ++ i :: after ∧ j ∉ before := by
  refine ⟨earlier.filter s.isQueued, later.filter s.isQueued ++
    (List.finRange 64).filter fun i => s.isQueued i && !s.runner.queued.contains i, ?_, fun h => hj (List.mem_of_mem_filter h)⟩
  have parts : s.runner.queued.filter s.isQueued = earlier.filter s.isQueued ++ i :: later.filter s.isQueued := by
    rw [split, List.filter_append, List.filter_cons_of_pos ((isQueued_iff s i).mpr hi)]
  unfold State.waiting
  rw [parts, List.append_assoc, List.cons_append]

end Slots

theorem run_issued (granted : List (Fin 64)) (s : State) :
    (granted.foldl (fun v i => issueStep i v) s).runner.run = s.runner.run := by
  induction granted generalizing s with
  | nil => rfl
  | cons i granted ih => exact ih (issueStep i s)

theorem run_grantSlots (s : State) : (grantSlots s).runner.run = s.runner.run := by
  obtain ⟨granted, given⟩ := granted_grantSlots s
  have same := congrArg (fun u : State => u.runner.run) given.issued
  rw [run_issued] at same
  exact same

/-- A slot goes to a QUEUED step alone: the others keep their records. -/
theorem steps_issued (granted : List (Fin 64)) (s : State) (i : Fin 64) (h : i ∉ granted) :
    (granted.foldl (fun v i => issueStep i v) s).runner.steps[i] = s.runner.steps[i] := by
  induction granted generalizing s with
  | nil => rfl
  | cons j granted ih =>
    obtain ⟨ne, out⟩ := not_or.mp fun e => h (List.mem_cons.mpr e)
    rw [List.foldl_cons, ih (issueStep j s) out]
    exact Vector.getElem_set_ne j.isLt i.isLt fun e => ne (Fin.ext e.symm)

theorem steps_grantSlots (s : State) {i : Fin 64} (h : s.runner.steps[i].state ≠ .queued) :
    (grantSlots s).runner.steps[i] = s.runner.steps[i] := by
  obtain ⟨granted, given⟩ := granted_grantSlots s
  have same := congrArg (fun u : State => u.runner.steps[i]) given.issued
  rw [steps_issued granted s i fun hi => h ((mem_waiting s i).mp (given.mem i hi))] at same
  exact same

end Sys2Proof.Machine
end

section
/-! SUPPORT. A settling by its cases (R96, R105 to R109), and how its consequences, grants and hand-overs read. -/

namespace Sys2Proof.Machine

/-! ### The steps of a list that failed with a policy -/

section Failed
variable (s : State)

theorem failedWith_iff (p : Policy) (i : Fin 64) : s.failedWith p i = true ↔
    s.runner.steps[i].state = .failed ∧ (s.stepCfg i).policy = p := by
  unfold State.failedWith State.stepAt
  rw [Bool.and_eq_true, beq_iff_eq, beq_iff_eq]

theorem failedWith_eq_false (p : Policy) (i : Fin 64) : s.failedWith p i = false ↔
    ¬(s.runner.steps[i].state = .failed ∧ (s.stepCfg i).policy = p) := by
  rw [← failedWith_iff, Bool.not_eq_true]

theorem escalates_iff (l : List (Fin 64)) : s.escalates l = true ↔ s.runner.run.plan = some .l1 ∧
    ∃ j ∈ l, s.runner.steps[j].state = .failed ∧ (s.stepCfg j).policy = .escalate := by
  unfold State.escalates
  rw [Bool.and_eq_true, beq_iff_eq, List.any_eq_true]
  simp only [failedWith_iff]

theorem allTerminal_iff : s.allTerminal = true ↔
    ∀ i : Fin 64, i.val < s.runner.run.stepCount → s.runner.steps[i].state.terminal = true := by
  unfold State.allTerminal
  simp only [List.all_eq_true, List.mem_finRange, forall_const, Bool.or_eq_true, decide_eq_true_eq]
  exact forall_congr' fun i => ⟨fun h lt => h.resolve_left (not_le.mpr lt), fun h => (le_or_gt _ _).imp_right h⟩

end Failed

/-! ### The cases of a settling -/

section Settle
variable {just : List (Fin 64)} {s : State}

theorem runIsOn_iff : s.runIsOn = true ↔ s.runner.run.status = .running := beq_iff_eq

theorem settle_of_no_run (h : s.runner.run.status ≠ .running) : settle just s = (s, .nothing) :=
  if_neg fun on => h (runIsOn_iff.mp on)

/-- The steps after a halt: none waits any more (R107). -/
def State.stopped (s : State) : Vector Step 64 :=
  s.runner.steps.map fun r => if r.state.terminal then r else ⟨.notRun, s.now, none, none⟩

theorem stopped_of_terminal {i : Fin 64} (h : s.runner.steps[i].state.terminal = true) : s.stopped[i] = s.runner.steps[i] := by
  have h' : s.runner.steps[i.val].state.terminal = true := h
  simp [State.stopped, h']

theorem terminal_stopped (i : Fin 64) : s.stopped[i].state.terminal = true := by
  simp only [State.stopped, Fin.getElem_fin, Vector.getElem_map]
  split
  · next h => exact h
  · rfl

theorem failed_endRun (st : RunStatus) (u : State) : (endRun st u).runner.run.failed = u.runner.run.failed := rfl

theorem failed_stopped (u : State) : (retireAll (stopSteps u)).runner.run.failed = u.runner.run.failed := rfl

theorem steps_endRun (st : RunStatus) (u : State) : (endRun st u).runner.steps = u.runner.steps := rfl

theorem steps_stopped (u : State) : (retireAll (stopSteps u)).runner.steps = u.stopped := rfl

/-- A failure with HALT ends the run (R105, R107). -/
theorem settle_of_halt (on : s.runner.run.status = .running) {h : Fin 64} (halt : lowest (s.failedWith .halt) just = some h) :
    settle just s =
      (endRun .halted (retireAll (stopSteps (follow (just.filter (· < h)) s))),
        ⟨s.escalates (just.filter (· < h)), some ⟨s.runner.run.failed, true⟩⟩) := by
  unfold settle
  rw [if_pos (runIsOn_iff.mpr on), halt]
  dsimp only
  rw [failed_endRun, failed_stopped, run_follow]

/-- Without one the free slots are granted, and a run whose steps are all terminal is complete (R96, R103, R109). -/
theorem settle_of_no_halt (on : s.runner.run.status = .running) (goes : lowest (s.failedWith .halt) just = none) :
    settle just s =
      if (grantSlots (follow just s)).allTerminal then
        (endRun .complete (grantSlots (follow just s)), ⟨s.escalates just, some ⟨s.runner.run.failed, false⟩⟩)
      else (grantSlots (follow just s), ⟨s.escalates just, none⟩) := by
  unfold settle
  rw [if_pos (runIsOn_iff.mpr on), goes]
  dsimp only
  rw [failed_endRun, run_grantSlots, run_follow]

/-- Consequences and grants leave a terminal step as it is. -/
theorem terminal_step_stays (just : List (Fin 64)) {i : Fin 64} (h : s.runner.steps[i].state.terminal = true) :
    (follow just s).runner.steps[i] = s.runner.steps[i] ∧
    (grantSlots (follow just s)).runner.steps[i] = s.runner.steps[i] := by
  have followed : (follow just s).runner.steps[i] = s.runner.steps[i] :=
    follow_of_not_blocked just s fun blocked => by rw [blocked] at h; cases h
  have idle : (follow just s).runner.steps[i].state ≠ .queued := fun queued => by
    rw [followed] at queued
    rw [queued] at h
    cases h
  exact ⟨followed, (steps_grantSlots _ idle).trans followed⟩

theorem steps_settle_of_halt (on : s.runner.run.status = .running) {h : Fin 64} (halt : lowest (s.failedWith .halt) just = some h) :
    (settle just s).1.runner.steps = (follow (just.filter (· < h)) s).stopped := by
  rw [settle_of_halt on halt]
  dsimp only
  rw [steps_endRun, steps_stopped]

theorem steps_settle_of_no_halt (on : s.runner.run.status = .running) (goes : lowest (s.failedWith .halt) just = none) :
    (settle just s).1.runner.steps = (grantSlots (follow just s)).runner.steps := by
  rw [settle_of_no_halt on goes]
  generalize grantSlots (follow just s) = u
  split <;> rfl

/-- A settling leaves a terminal step as it is. -/
theorem terminal_step_stays_settle {i : Fin 64} (h : s.runner.steps[i].state.terminal = true) :
    (settle just s).1.runner.steps[i] = s.runner.steps[i] := by
  by_cases on : s.runner.run.status = .running
  · cases halt : lowest (s.failedWith .halt) just with
    | none =>
      obtain ⟨-, granted⟩ := terminal_step_stays just h
      rw [steps_settle_of_no_halt on halt]
      exact granted
    | some k =>
      obtain ⟨followed, -⟩ := terminal_step_stays (just.filter (· < k)) h
      have ended : (follow (just.filter (· < k)) s).runner.steps[i].state.terminal = true := by rw [followed]; exact h
      rw [steps_settle_of_halt on halt]
      exact (stopped_of_terminal ended).trans followed
  · rw [settle_of_no_run on]

end Settle

/-! ### The hand-overs -/

/-- A report and a rise of ESCALATION are taken in either order (R96; logs 4, 38, 44). -/
theorem takeHandOver_both (r : Report) (s : State) :
    takeHandOver ⟨true, some r⟩ s = latch srcEscalation (takeCompletion r (drawOrder s).2) ∨
    takeHandOver ⟨true, some r⟩ s = riseThenReport r (drawOrder s).2 := by
  unfold takeHandOver
  dsimp only
  split
  · exact .inr rfl
  · exact .inl rfl

/-! ### What the obligation says of each part -/

section Parts
variable (just : List (Fin 64)) (s : State)

theorem halt_of_lowest {h : Fin 64} (mem : h ∈ just) (own : s.runner.steps[h].state = .failed ∧ (s.stepCfg h).policy = .halt)
    (first : ∀ j ∈ just, j < h → ¬(s.runner.steps[j].state = .failed ∧ (s.stepCfg j).policy = .halt)) :
    lowest (s.failedWith .halt) just = some h :=
  lowest_eq_some.mpr ⟨⟨mem, (failedWith_iff s _ h).mpr own⟩, fun j hj lt => (failedWith_eq_false s _ j).mpr (first j hj lt)⟩

theorem no_halt_of_none (none : ∀ h ∈ just, ¬(s.runner.steps[h].state = .failed ∧ (s.stepCfg h).policy = .halt)) :
    lowest (s.failedWith .halt) just = .none :=
  lowest_eq_none.mpr fun j hj => (failedWith_eq_false s _ j).mpr (none j hj)

/-- The state that a HALT leaves, written over the state before the settling. -/
theorem halted_eq (before : List (Fin 64)) : endRun .halted (retireAll (stopSteps (follow before s))) = { s with
    runner.run.status := .halted, runner.run.finish := some s.now
    runner.steps := (follow before s).runner.steps.map fun r => if r.state.terminal then r else ⟨.notRun, s.now, none, none⟩
    runner.queued := [], runner.outstanding := []
    runner.injection := s.runner.injection.filter fun f => !(s.runner.outstanding.map Entry.tag).contains f.tag } := by
  have same := follow_eq before s
  generalize follow before s = u at same
  rw [same]
  rfl

end Parts

/-! ### One step in the pass over the consequences -/

section Consequences
variable {u : State} {i : Fin 64}

theorem examined_of_unsatisfiable (h : ∃ p ∈ (u.stepCfg i).prereqs, u.unsatisfiable p = true) :
    u.examined i = ⟨.notRun, u.now, none, none⟩ := if_pos (List.any_eq_true.mpr h)

theorem not_any_unsatisfiable (h : ∀ p ∈ (u.stepCfg i).prereqs, ¬u.unsatisfiable p = true) :
    ¬(u.stepCfg i).prereqs.any u.unsatisfiable = true := fun any =>
  let ⟨p, hp, un⟩ := List.any_eq_true.mp any
  h p hp un

theorem examined_of_waiting (h : ∀ p ∈ (u.stepCfg i).prereqs, ¬u.unsatisfiable p = true)
    (waits : ∃ p ∈ (u.stepCfg i).prereqs, ¬u.satisfied p = true) : u.examined i = u.runner.steps[i] := by
  obtain ⟨p, hp, un⟩ := waits
  unfold State.examined
  rw [if_neg (not_any_unsatisfiable h), if_neg fun all => un (List.all_eq_true.mp all p hp)]

theorem not_unsatisfiable_of_satisfied {p : Fin 64} (h : u.satisfied p = true) : ¬u.unsatisfiable p = true := by
  rw [satisfied_iff] at h
  rw [unsatisfiable_iff]
  rcases h with h | h | h | ⟨h, keeps⟩
  iterate 3 rw [h]; simp
  rw [h]
  rcases keeps with keeps | keeps <;> simp [keeps]

theorem examined_of_satisfied (h : ∀ p ∈ (u.stepCfg i).prereqs, u.satisfied p = true) : u.examined i =
    if (u.stepCfg i).dwell = 0 then ⟨u.checkResult (u.stepCfg i), u.now, none, none⟩
    else ⟨.waitingDwell, u.now, some (u.stepCfg i).dwell, none⟩ := by
  unfold State.examined
  rw [if_neg (not_any_unsatisfiable fun p hp => not_unsatisfiable_of_satisfied (h p hp)), if_pos (List.all_eq_true.mpr h)]

end Consequences

end Sys2Proof.Machine
end

section
/-! PROOF. O50: a settling leaves terminal steps as they are; what it follows, grants, ends and hands over. -/

namespace Sys2Proof.Machine

section Pass
variable (just : List (Fin 64)) (s : State) (i : Fin 64)

/-- The state that the pass examines place `i` in differs from the one before the pass in the lower steps alone. -/
theorem follow_examines : ∃ before : State,
    before = { s with runner.steps := before.runner.steps } ∧
    (∀ p : Fin 64, before.runner.steps[p].state =
      if p < i then (follow just s).runner.steps[p].state else s.runner.steps[p].state) ∧
    before.runner.steps[i] = s.runner.steps[i] ∧
    (s.runner.steps[i].state = .blocked →
      let reached := (s.stepCfg i).prereqs = [] ∨ ∃ p ∈ (s.stepCfg i).prereqs,
        p ∈ just ∨ p < i ∧ s.runner.steps[p].state = .blocked ∧ (follow just s).runner.steps[p].state.terminal = true
      (reached → (follow just s).runner.steps[i] = before.examined i) ∧
      (¬reached → (follow just s).runner.steps[i] = s.runner.steps[i])) := by
  obtain ⟨before, listed, same, records, inList, final⟩ := follow_at just s i
  have own : before.runner.steps[i] = s.runner.steps[i] := by rw [records, if_neg (lt_irrefl i)]
  have cfg : before.stepCfg i = s.stepCfg i := by rw [same]; rfl
  refine ⟨before, same, fun p => ?_, own, fun blocked => ?_⟩
  · rw [records p]
    split <;> rfl
  have reads : before.follows listed i ↔ (s.stepCfg i).prereqs = [] ∨ ∃ p ∈ (s.stepCfg i).prereqs, p ∈ just ∨
      p < i ∧ s.runner.steps[p].state = .blocked ∧ (follow just s).runner.steps[p].state.terminal = true := by
    simp only [State.follows, own, blocked, true_and, cfg, inList]
  refine ⟨fun reached => ?_, fun still => ?_⟩
  · rw [final, followAt_of_follows before (reads.mpr reached)]
    simp
  · rw [final, followAt_of_not_follows before fun h => still (reads.mp h), own]

end Pass

theorem now_of_noRunner {s t : State} (h : t.noRunner = s.noRunner) : t.now = s.now := (congrArg State.now h : _)

/-- Settles O50, by the cases of a settling, place by place of its pass and grant by grant. -/
theorem terminalStepsStayThroughSettling : Obligations.TerminalStepsStayThroughSettling := by
  unfold Obligations.TerminalStepsStayThroughSettling
  refine ⟨fun just s i => terminal_step_stays_settle, ?_, ?_, ?_, fun f s => rfl, ?_, fun i s => ⟨latch_of_set, latch_of_clear⟩⟩
  · intro just s
    dsimp only
    refine ⟨settle_of_no_run, fun on => ⟨fun h mem own first => ?_, fun goes => ?_⟩⟩
    · have e := settle_of_halt on (halt_of_lowest just s mem own first)
      rw [halted_eq] at e
      rw [e]
      refine ⟨rfl, ?_, rfl⟩
      rw [escalates_iff]
      simp only [List.mem_filter, decide_eq_true_eq, and_assoc]
    · have e := settle_of_no_halt on (no_halt_of_none just s goes)
      have count : (grantSlots (follow just s)).runner.run.stepCount = s.runner.run.stepCount := by
        rw [run_grantSlots, run_follow]
      have all := allTerminal_iff (grantSlots (follow just s))
      have esc := escalates_iff s just
      rw [count] at all
      rw [e]
      have now := now_of_noRunner ((noRunner_grantSlots _).trans (noRunner_follow just s))
      generalize grantSlots (follow just s) = u at all now
      refine ⟨?_, fun ended => ?_, fun j lt goesOn => ?_⟩
      · split <;> exact esc
      · rw [if_pos (all.mpr ended)]
        exact ⟨by rw [← now]; rfl, rfl⟩
      · rw [if_neg fun h => Bool.noConfusion (goesOn.symm.trans (all.mp h j lt))]
        exact ⟨rfl, rfl⟩
  · intro just s
    refine ⟨follow_eq just s, fun i => ?_⟩
    obtain ⟨before, same, states, own, examines⟩ := follow_examines just s i
    have cfg (p : Fin 64) : before.stepCfg p = s.stepCfg p := by rw [same]; rfl
    have result : before.checkResult (s.stepCfg i) = s.checkResult (s.stepCfg i) := by rw [same]; rfl
    have now : before.now = s.now := by rw [same]
    have un (p : Fin 64) := unsatisfiable_iff (u := before) p
    have sat (p : Fin 64) := satisfied_iff (u := before) p
    simp only [states, cfg] at un sat
    refine ⟨follow_of_not_blocked just s, fun blocked => ?_⟩
    obtain ⟨reached, still⟩ := examines blocked
    refine ⟨fun some out => still (not_or.mpr ⟨some, fun ⟨p, hp, ended⟩ => out p hp ended⟩), fun ended => ?_⟩
    rw [reached ended]
    refine ⟨fun ⟨p, hp, h⟩ => ?_, fun h ⟨p, hp, waits⟩ => ?_, fun h => ?_⟩
    · rw [examined_of_unsatisfiable ⟨p, cfg i ▸ hp, (un p).mpr h⟩, now]
    · rw [← own]
      exact examined_of_waiting (fun p hp h' => h p (cfg i ▸ hp) ((un p).mp h')) ⟨p, cfg i ▸ hp, fun h' => waits ((sat p).mp h')⟩
    · rw [examined_of_satisfied fun p hp => (sat p).mpr (h p (cfg i ▸ hp)), cfg, result, now]
  · intro s
    obtain ⟨granted, given⟩ := granted_grantSlots s
    refine ⟨granted, given.nodup, fun i hi => (mem_waiting s i).mp (given.mem i hi), given.issued, fun i => ?_, given.room,
      fun i queued out => given.full ⟨i, (mem_waiting s i).mpr queued, out⟩, fun i j hi hj lt hg => ⟨fun newI newJ => ?_,
      fun earlier later split first => ?_⟩⟩
    · rw [given.left]
      simp [mem_waiting]
    · obtain ⟨before, after, order, apart⟩ := waiting_of_new s hi lt newI newJ
      exact given.order i j before after order apart lt hg
    · obtain ⟨before, after, order, apart⟩ := waiting_of_earlier s hi split first
      exact given.order i j before after order apart lt hg
  · intro r s
    exact ⟨rfl, rfl, rfl, takeHandOver_both r s⟩

end Sys2Proof.Machine
end

section
/-! SUPPORT. The site controller's transitions told exactly: notices counted, records changed, the start of a plan, a shutdown's start and end (R69, R70, R74, R75, R85, R95, R147, R148, R176). -/

namespace Sys2Proof.Machine

/-! ### Notices (R85, R176) -/

/-- From `s` on, `n` notices have been raised, whatever the last one says. -/
structure State.Raised (t s : State) (n : Nat) : Prop where
  untouched : n = 0 → t.router.notice = s.router.notice
  filled : 0 < n → t.router.notice ≠ none
  replaced : t.router.count.noticesReplaced = s.replacedBy n

section Notices
variable {s t u : State} {n : Nat}

theorem State.Raised.refl (s : State) : s.Raised s 0 := ⟨fun _ => rfl, nofun, rfl⟩

theorem State.Raised.same (h : t.Raised s n) (router : u.router = t.router) : u.Raised s n :=
  ⟨router ▸ h.untouched, router ▸ h.filled, router ▸ h.replaced⟩

theorem raised_of_router (router : u.router = s.router) : u.Raised s 0 := (State.Raised.refl s).same router

theorem replacedBy_congr (router : u.router = s.router) (n : Nat) : u.replacedBy n = s.replacedBy n := by
  match n with
  | 0 | 1 => unfold State.replacedBy; rw [router]
  | n + 2 => unfold State.replacedBy; rw [replacedBy_congr router (n + 1)]

/-- The count starts anew from any state with that port router. -/
theorem State.Raised.since (h : t.Raised u n) (router : u.router = s.router) : t.Raised s n :=
  ⟨router ▸ h.untouched, h.filled, h.replaced.trans (replacedBy_congr router n)⟩

/-- One more notice. -/
theorem State.Raised.raise (h : t.Raised s n) (closed : Option TripRecord) : (raiseNotice closed t).Raised s (n + 1) := by
  refine ⟨fun e => absurd e (Nat.succ_ne_zero n), fun _ => nofun, ?_⟩
  have counted : (raiseNotice closed t).router.count.noticesReplaced =
      if t.router.notice.isSome then bump t.router.count.noticesReplaced else t.router.count.noticesReplaced := rfl
  rw [counted, h.replaced]
  cases n with
  | zero =>
    rw [h.untouched rfl]
    show (if s.router.notice.isSome then bump s.router.count.noticesReplaced else s.router.count.noticesReplaced) =
      if s.router.notice = none then s.router.count.noticesReplaced else bump s.router.count.noticesReplaced
    cases s.router.notice <;> rfl
  | succ n => rw [if_pos (Option.isSome_iff_ne_none.mpr (h.filled (Nat.succ_pos n)))]; rfl

/-- The notice in the slot shows the state that raised it. -/
theorem State.Raised.notified (h : t.Raised s n) : (raiseNotice none t).Notified s (n + 1) (raiseNotice none t).currentRecord :=
  ⟨rfl, (h.raise none).replaced⟩

theorem State.Raised.notified_current (h : t.Raised s n) {x : Option TripRecord} (current : t.currentRecord = x) :
    (raiseNotice none t).Notified s (n + 1) x := current ▸ h.notified

/-- A notice shows no more of a record than its cause and its outcome. -/
theorem noticeOf_congr {r x : Option TripRecord} (cause : r.bind TripRecord.cause = x.bind TripRecord.cause)
    (outcome : r.map TripRecord.outcome = x.map TripRecord.outcome) : s.noticeOf r = s.noticeOf x := by
  have code : r.map (fun y => y.outcome.code) = x.map fun y => y.outcome.code := by
    have mapped := congrArg (Option.map ShutdownOutcome.code) outcome
    rwa [Option.map_map, Option.map_map] at mapped
  unfold State.noticeOf
  dsimp only
  rw [cause, code]

theorem noticeFrame_eq (t : State) (closed : Option TripRecord) : noticeFrame t closed = t.noticeOf (closed.or t.currentRecord) := by
  cases closed <;> rfl

/-- The notice of a transition that closed a record, or none, and shows this cause and outcome. -/
theorem State.Raised.notified_closed (h : t.Raised s n) {closed x : Option TripRecord}
    (cause : (closed.or t.currentRecord).bind TripRecord.cause = x.bind TripRecord.cause)
    (outcome : (closed.or t.currentRecord).map TripRecord.outcome = x.map TripRecord.outcome) :
    (raiseNotice closed t).Notified s (n + 1) x := by
  refine ⟨?_, (h.raise closed).replaced⟩
  have frame : (raiseNotice closed t).router.notice = some (noticeFrame t closed) := rfl
  have own : (raiseNotice closed t).noticeOf x = t.noticeOf x := rfl
  rw [frame, own, noticeFrame_eq, noticeOf_congr cause outcome]

/-- A notice stays in its slot while the site's state, level, hold reason and trip number stay. -/
theorem State.Notified.same {r : Option TripRecord} (h : t.Notified s n r) (router : u.router = t.router)
    (frame : u.noticeOf r = t.noticeOf r) : u.Notified s n r :=
  ⟨by rw [router, frame]; exact h.slot, by rw [router]; exact h.replaced⟩

theorem State.Notified.since {r : Option TripRecord} (h : t.Notified u n r) (router : u.router = s.router) : t.Notified s n r :=
  ⟨h.slot, h.replaced.trans (replacedBy_congr router n)⟩

end Notices

/-! ### A record changed (R147, R148) -/

section Records
variable {s t : State}

theorem router_of_noRecords (h : t.noRecords = s.noRecords) : t.router = s.router := (congrArg State.router h : _)
theorem runner_of_noRecords (h : t.noRecords = s.noRecords) : t.runner = s.runner := (congrArg State.runner h : _)
theorem mgmt_of_noRecords (h : t.noRecords = s.noRecords) : t.mgmt = s.mgmt := (congrArg State.mgmt h : _)

theorem store_of_noRunner (h : t.noRunner = s.noRunner) : t.store = s.store := (congrArg State.store h : _)
theorem router_of_noRunner (h : t.noRunner = s.noRunner) : t.router = s.router := (congrArg State.router h : _)

/-- A record as it stands in the ring after its change. -/
def TripRecord.written (r : TripRecord) (seq : Word32) : TripRecord := ({ r with seq := seq } : TripRecord).withCrc

theorem ring_changeRecord (i : Fin 16) (r : TripRecord) (s : State) :
    (changeRecord i r s).store.ring = s.store.ring.set i (.record (r.written (s.store.writeSeq + 1))) := changeRecord_ring i r s

theorem writeSeq_takeUp (p : PlanStore) : p.takeUp.writeSeq = p.writeSeq := by
  unfold PlanStore.takeUp
  repeat' split
  all_goals rfl

theorem writeSeq_changeRecord (i : Fin 16) (r : TripRecord) (s : State) :
    (changeRecord i r s).store.writeSeq = s.store.writeSeq + 1 := by
  unfold changeRecord requestWrite
  dsimp only
  split
  · rw [writeSeq_takeUp]
  · rfl

theorem currentRecord_of_slot {i : Fin 16} {r : TripRecord} (record : s.site.record = some i) (slot : s.store.ring[i] = .record r) :
    s.currentRecord = some r := by
  unfold State.currentRecord
  rw [record]
  dsimp only
  rw [slot]
  rfl

theorem currentRecord_of_none (record : s.site.record = none) : s.currentRecord = none := by
  unfold State.currentRecord
  rw [record]

theorem updateRecord_of_slot {i : Fin 16} {r : TripRecord} (record : s.site.record = some i) (slot : s.store.ring[i] = .record r)
    (f : TripRecord → TripRecord) : updateRecord f s = changeRecord i (f r) s := by
  unfold updateRecord
  rw [record, currentRecord_of_slot record slot]

theorem updateRecord_of_none (record : s.site.record = none) (f : TripRecord → TripRecord) : updateRecord f s = s := by
  unfold updateRecord
  rw [record]

/-- The slot of R148. -/
theorem opensIn_openingSlot (ring : Vector Slot 16) : OpensIn ring (openingSlot ring) := by
  unfold openingSlot
  cases low : lowestDamaged ring with
  | some i =>
    obtain ⟨damaged, first⟩ := find?_finRange_eq_some.mp low
    exact .inl ⟨eq_of_beq damaged, fun j lt e => absurd (first j lt) (by rw [e]; decide)⟩
  | none =>
    have sound (j : Fin 16) : ring[j] ≠ .damaged := fun e => by
      have some := (lowestDamaged_isSome ring).mpr ⟨j, e⟩
      rw [low] at some
      cases some
    refine .inr ⟨sound, ?_⟩
    dsimp only
    cases high : highestSlot (fun _ => true) ring with
    | some i =>
      refine .inl ?_
      rw [show slotAfter i - 1 = i from add_sub_cancel_right i 1]
      exact (highestSlot_some _ ring).mp high
    | none =>
      refine .inr ⟨fun j => ?_, rfl⟩
      have unheld := (highestSlot_none _ ring).mp high j
      cases slot : ring[j] with
      | blank => rfl
      | damaged => exact absurd slot (sound j)
      | record r => exact Bool.noConfusion (unheld r (by rw [slot]; rfl))

end Records

/-! ### The start of a plan (R95) -/

section Start
variable (p : PlanId) (s : State)

/-- A plan's start leaves its run on, or complete with no failure where every step ends at once. -/
theorem startPlan_outcome : (startPlan p s).1.runner.run.plan = some p ∧
    ((startPlan p s).2 = none ∧ (startPlan p s).1.runner.run.status = .running ∨
      (startPlan p s).2 = some ⟨0, false⟩ ∧ (startPlan p s).1.runner.run.status = .complete) := by
  unfold startPlan
  dsimp only
  generalize ready : setUpRun p (abandonRun s) = u
  have run : u.runner.run.plan = some p ∧ u.runner.run.status = .running ∧ u.runner.run.failed = 0 := by
    rw [← ready]
    exact ⟨rfl, rfl, rfl⟩
  obtain ⟨plan, on, failed⟩ := run
  have granted : (grantSlots (follow [] u)).runner.run = u.runner.run := (run_grantSlots _).trans (run_follow [] u)
  rw [settle_of_no_halt on (lowest_eq_none.mpr fun i hi => absurd hi List.not_mem_nil)]
  generalize grantSlots (follow [] u) = v at granted
  split
  · refine ⟨?_, .inr ⟨?_, rfl⟩⟩
    · exact (congrArg Run.plan granted).trans plan
    · rw [failed]
  · refine ⟨?_, .inl ⟨rfl, ?_⟩⟩
    · exact (congrArg Run.plan granted).trans plan
    · exact (congrArg Run.status granted).trans on

end Start

end Sys2Proof.Machine
end

section
/-! SUPPORT. A shutdown's end, its start with its end where the plan is complete at once, and the record opened before it (R69 to R72, R74, R75, R81). -/

namespace Sys2Proof.Machine

section Ended
variable {i : Fin 16} {r : TripRecord} {s u : State} {n : Nat}

/-- A record with the outcome that a report gives it (R75). -/
def TripRecord.concluded (r : TripRecord) (report : Report) : TripRecord :=
  { r with outcome := if report.failed = 0 ∧ report.halted = false then .complete else .incomplete }

/-- The current record as the end of a shutdown writes it (R75). -/
def TripRecord.ended (r : TripRecord) (report : Report) (seq : Word32) : TripRecord := (r.concluded report).written seq

/-- What the end of a shutdown does (R75). -/
theorem shutdownEnded_effect (report : Report) (record : u.site.record = some i) (slot : u.store.ring[i] = .record r)
    (raised : u.Raised s n) : let t := shutdownEnded report u
    t.runner = u.runner ∧ t.besideAlert = u.besideAlert ∧
    t.site = { u.site with
      state := .safeHold
      hold := some (if report.failed = 0 ∧ report.halted = false then .shutdownComplete else .shutdownIncomplete) } ∧
    t.store.ring = u.store.ring.set i (.record (r.ended report (u.store.writeSeq + 1))) ∧
    t.store.writeSeq = u.store.writeSeq + 1 ∧ t.Notified s (n + 1) t.currentRecord := by
  intro t
  have same := noRecords_changeRecord i (r.concluded report) u
  have site := site_changeRecord i (r.concluded report) u
  have ring := ring_changeRecord i (r.concluded report) u
  have seq := writeSeq_changeRecord i (r.concluded report) u
  have whole : t = raiseNotice none (setSite .safeHold u.site.level
      (some (if report.failed = 0 ∧ report.halted = false then .shutdownComplete else .shutdownIncomplete))
      (changeRecord i (r.concluded report) u)) := by
    show shutdownEnded report u = _
    unfold shutdownEnded
    dsimp only
    rw [updateRecord_of_slot record slot, ← TripRecord.concluded, site]
  have alert := besideAlert_shutdownEnded report u
  generalize changeRecord i (r.concluded report) u = v at same site ring seq whole
  have router := router_of_noRecords same
  refine ⟨?_, alert, ?_, ?_, ?_, ?_⟩ <;> rw [whole]
  · exact (runner_of_noRecords same :)
  · rw [← site]
    rfl
  · exact ring
  · exact seq
  · exact State.Raised.notified (raised.same router)

end Ended

/-! ### A shutdown plan's start -/

/-- The site `t` that the start of a level's shutdown plan leaves from `u`, whose current record is `r` in slot `i`; `n` notices
were raised from `s` to `u` (R70 to R72, R74, R75, R81). -/
structure State.Shuts (t u s : State) (n level : Nat) (i : Fin 16) (r : TripRecord) : Prop where
  trip : t.site.trip = u.site.trip
  record : t.site.record = u.site.record
  incomplete : t.site.restartIncomplete = u.site.restartIncomplete
  atLevel : t.site.level = level
  pending : t.site.tripPending = (u.site.tripPending || level == 2)
  plan : t.runner.run.plan = some (if level = 2 then .l2 else .l1)
  others : ∀ j : Fin 16, j ≠ i → t.store.ring[j] = u.store.ring[j]
  running : t.runner.run.status = .running → t.site.state = .shutting ∧ t.site.hold = none ∧
    t.store.ring[i] = .record r ∧ t.Notified s (n + 1) t.currentRecord
  ended : t.runner.run.status ≠ .running → t.runner.run.status = .complete ∧ t.site.state = .safeHold ∧
    t.site.hold = some .shutdownComplete ∧ (∃ seq, t.store.ring[i] = .record (r.ended ⟨0, false⟩ seq)) ∧
    t.Notified s (n + 2) t.currentRecord

section Shutting
variable {i : Fin 16} {r : TripRecord} {s u : State} {n : Nat}

theorem tripPending_markTripPending (level : Nat) (u : State) :
    (markTripPending level u).site = { u.site with tripPending := u.site.tripPending || level == 2 } := by
  unfold markTripPending
  split
  · next two =>
    rw [beq_iff_eq.mpr two, Bool.or_true]
  · next other =>
    rw [beq_eq_false_iff_ne.mpr other, Bool.or_false]

theorem markTripPending_beside (level : Nat) (u : State) : (markTripPending level u).runner = u.runner ∧
    (markTripPending level u).store = u.store ∧ (markTripPending level u).router = u.router := by
  unfold markTripPending
  split <;> exact ⟨rfl, rfl, rfl⟩

theorem shuts_enterShutting (level : Nat) (record : u.site.record = some i) (slot : u.store.ring[i] = .record r)
    (raised : u.Raised s n) : (enterShutting level u).Shuts u s n level i r := by
  obtain ⟨plan, report⟩ := startPlan_outcome (shutdownPlan level) u
  have same := noRunner_startPlan (shutdownPlan level) u
  unfold enterShutting
  dsimp only
  generalize (startPlan (shutdownPlan level) u).1 = v at plan report same
  generalize (startPlan (shutdownPlan level) u).2 = handed at report
  have site := site_of_noRunner same
  have store := store_of_noRunner same
  have router := router_of_noRunner same
  obtain ⟨runner', store', router'⟩ := markTripPending_beside level (setSite .shutting level none v)
  have site' := tripPending_markTripPending level (setSite .shutting level none v)
  generalize markTripPending level (setSite .shutting level none v) = w at runner' store' router' site'
  have raised' : w.Raised s n := raised.same (router'.trans router)
  have storeW : w.store = u.store := store'.trans store
  have siteW : w.site = { u.site with
      state := .shutting, level := level, hold := none, tripPending := u.site.tripPending || level == 2 } := by
    rw [site', ← site]
    rfl
  have runnerW : w.runner = v.runner := runner'
  rcases report with ⟨rfl, status⟩ | ⟨rfl, status⟩
  · dsimp only
    refine ⟨?_, ?_, ?_, ?_, ?_, ?_, fun j _ => ?_, fun _ => ⟨?_, ?_, ?_, raised'.notified⟩, fun off => absurd ?_ off⟩
    · exact (congrArg Site.trip siteW :)
    · exact (congrArg Site.record siteW :)
    · exact (congrArg Site.restartIncomplete siteW :)
    · exact congrArg Site.level siteW
    · exact congrArg Site.tripPending siteW
    · exact (congrArg (fun x => x.run.plan) runnerW).trans plan
    · exact congrArg (fun x : PlanStore => x.ring[j]) storeW
    · exact congrArg Site.state siteW
    · exact congrArg Site.hold siteW
    · exact (congrArg (fun x : PlanStore => x.ring[i]) storeW).trans slot
    · exact (congrArg (fun x => x.run.status) runnerW).trans status
  · dsimp only
    obtain ⟨runnerT, -, siteT, ringT, -, notified⟩ := shutdownEnded_effect (u := raiseNotice none w) (i := i) (r := r) (s := s)
      ⟨0, false⟩ ((congrArg Site.record siteW).trans record) ((congrArg (fun x : PlanStore => x.ring[i]) storeW).trans slot)
      (raised'.raise none)
    generalize shutdownEnded ⟨0, false⟩ (raiseNotice none w) = t at runnerT siteT ringT notified
    have base : (raiseNotice none w).site = w.site := rfl
    have baseStore : (raiseNotice none w).store = w.store := rfl
    have baseRunner : (raiseNotice none w).runner = w.runner := rfl
    rw [base, siteW] at siteT
    rw [baseStore, storeW] at ringT
    rw [baseRunner, runnerW] at runnerT
    have done : t.runner.run.status = .complete := (congrArg (fun x => x.run.status) runnerT).trans status
    refine ⟨?_, ?_, ?_, ?_, ?_, ?_, fun j ne => ?_, fun on => ?_, fun _ => ⟨done, ?_, ?_, ?_, notified⟩⟩
    · rw [siteT]
    · rw [siteT]
    · rw [siteT]
    · rw [siteT]
    · rw [siteT]
    · exact (congrArg (fun x => x.run.plan) runnerT).trans plan
    · rw [ringT]
      exact Vector.getElem_set_ne i.isLt j.isLt fun e => ne (Fin.ext e.symm)
    · rw [done] at on
      cases on
    · rw [siteT]
    · rw [siteT]
      rfl
    · exact ⟨_, by rw [ringT]; exact Vector.getElem_set_self i.isLt⟩

end Shutting

/-! ### A trip record opened (R69, R148) -/

section Opened
variable (level : Nat) (s : State)

/-- The record that a trip opens. -/
def State.newRecord : TripRecord :=
  (⟨0, nextTrip s.site.trip, s.mgmt.siteTime, s.site.cause, level, false, s.largestPeak, .running, .isOpen, 0, 0⟩ :
    TripRecord).written (s.store.writeSeq + 1)

theorem openRecord_effect : let u := openRecord level s
    u.site = { s.site with trip := nextTrip s.site.trip, record := some (openingSlot s.store.ring) } ∧
    u.store.ring = s.store.ring.set (openingSlot s.store.ring) (.record (s.newRecord level)) ∧ u.router = s.router := by
  refine ⟨?_, ?_, router_of_noRecords (noRecords_openRecord level s)⟩
  · unfold openRecord
    dsimp only
    rw [site_changeRecord]
  · unfold openRecord
    dsimp only
    rw [ring_changeRecord]
    rfl

/-- A trip's record is opened and its shutdown plan started (R70, R81). -/
theorem shuts_opened {u : State} {n : Nat} (raised : s.Raised u n) :
    (enterShutting level (openRecord level s)).Shuts (openRecord level s) u n level (openingSlot s.store.ring)
      (s.newRecord level) := by
  obtain ⟨site, ring, router⟩ := openRecord_effect level s
  refine shuts_enterShutting level (by rw [site]) ?_ (raised.same router)
  rw [ring]
  exact Vector.getElem_set_self _

end Opened

end Sys2Proof.Machine
end

section
/-! PROOF. O52 and O53: rises of the request level in ARMED, in a level-1 shutdown or hold, and in a restart; the end of a shutdown. -/

namespace Sys2Proof.Machine

section Slot
variable {t u s : State} {n level : Nat} {i : Fin 16} {r : TripRecord}

/-- The record that a shutdown's start leaves: as it was handed to it, but COMPLETE where the plan was complete at once. -/
theorem State.Shuts.slot (h : t.Shuts u s n level i r) (checked : r.crc = crc16 r.fields) : ∃ x, t.store.ring[i] = .record x ∧
    (x.trip = r.trip ∧ x.cause = r.cause ∧ x.level = r.level ∧ x.escalated = r.escalated ∧ x.opened = r.opened ∧
      x.peakH = r.peakH ∧ x.closure = r.closure ∧ x.closed = r.closed) ∧ x.crc = crc16 x.fields ∧
    x.outcome = if t.runner.run.status = .running then r.outcome else .complete := by
  by_cases on : t.runner.run.status = .running
  · obtain ⟨-, -, slot, -⟩ := h.running on
    exact ⟨r, slot, ⟨rfl, rfl, rfl, rfl, rfl, rfl, rfl, rfl⟩, checked, (if_pos on).symm⟩
  · obtain ⟨-, -, -, ⟨seq, slot⟩, -⟩ := h.ended on
    exact ⟨_, slot, ⟨rfl, rfl, rfl, rfl, rfl, rfl, rfl, rfl⟩, rfl, (if_neg on).symm⟩

end Slot

section Rise
variable {level : Nat} {cause : Option (Fin 24)} {s : State}

/-- The state in which a rise is acted on (R65, R73). -/
def State.copiedRequest (s : State) (level : Nat) (cause : Option (Fin 24)) : State :=
  { s with site.requestLevel := level, site.cause := cause }

theorem takeRequest_of_rise (rises : s.site.requestLevel < level) :
    takeRequest level cause s = takeRise level (s.copiedRequest level cause) := if_pos rises

theorem takeRequest_armed (st : s.site.state = .armed) (rises : s.site.requestLevel < level) :
    takeRequest level cause s = tripSite level (s.copiedRequest level cause) := by
  have st' : (s.copiedRequest level cause).site.state = .armed := st
  rw [takeRequest_of_rise rises]
  unfold takeRise
  rw [st']

theorem takeRequest_escalates (st : s.site.state = .shutting) (one : s.site.level = 1) (rises : s.site.requestLevel < 2) :
    takeRequest 2 cause s = escalate (s.copiedRequest 2 cause) := by
  have st' : (s.copiedRequest 2 cause).site.state = .shutting := st
  have one' : (s.copiedRequest 2 cause).site.level = 1 := one
  rw [takeRequest_of_rise rises]
  unfold takeRise
  rw [st']
  exact if_pos ⟨one', rfl⟩

theorem takeRequest_held (st : s.site.state = .safeHold) (one : s.site.level = 1) (rises : s.site.requestLevel < 2) :
    takeRequest 2 cause s = fastFromHold (s.copiedRequest 2 cause) := by
  have st' : (s.copiedRequest 2 cause).site.state = .safeHold := st
  have one' : (s.copiedRequest 2 cause).site.level = 1 := one
  rw [takeRequest_of_rise rises]
  unfold takeRise
  rw [st']
  exact if_pos ⟨one', rfl⟩

theorem takeRequest_restarting (st : s.site.state = .restarting) (rises : s.site.requestLevel < level) :
    takeRequest level cause s = abortByRise level (s.copiedRequest level cause) := by
  have st' : (s.copiedRequest level cause).site.state = .restarting := st
  rw [takeRequest_of_rise rises]
  unfold takeRise
  rw [st']

theorem flags_takeRequest (level : Nat) (cause : Option (Fin 24)) (s : State) :
    (takeRequest level cause s).trig.flags = s.trig.flags ∧ (takeRequest level cause s).trig.tripOut = s.trig.tripOut :=
  ⟨(congrArg Trigger.flags (besideAlert_takeRequest level cause s) :),
    (congrArg Trigger.tripOut (besideAlert_takeRequest level cause s) :)⟩

end Rise

/-- What a trip out of a state in which `n` notices have been raised comes to: the next trip's record opened in the ring, and its
level's plan started under it (R69, R70, R81). -/
theorem trips_opened {level n : Nat} {v s : State} (raised : v.Raised s n) :
    let t := tripSite level v
    let slot := openingSlot v.store.ring
    t.Shuts (openRecord level v) s n level slot (v.newRecord level) ∧ t.site.trip = nextTrip v.site.trip ∧
    t.site.record = some slot ∧ t.site.tripPending = (v.site.tripPending || level == 2) ∧
    t.site.restartIncomplete = v.site.restartIncomplete ∧
    ∀ j : Fin 16, j ≠ slot → t.store.ring[j] = v.store.ring[j] := by
  have shuts : (tripSite level v).Shuts _ _ _ _ _ _ := shuts_opened level v raised
  obtain ⟨site, ring, -⟩ := openRecord_effect level v
  refine ⟨shuts, ?_, ?_, ?_, ?_, fun j ne => ?_⟩
  · rw [shuts.trip, site]
  · rw [shuts.record, site]
  · rw [shuts.pending, site]
  · rw [shuts.incomplete, site]
  · rw [shuts.others j ne, ring]
    exact Vector.getElem_set_ne (openingSlot v.store.ring).isLt j.isLt fun e => ne (Fin.ext e.symm)

/-- Settles O52, by the effects of the trip and of the shutdown's end. -/
theorem riseInArmedTripsTheSite : Obligations.RiseInArmedTripsTheSite := by
  unfold Obligations.RiseInArmedTripsTheSite
  refine ⟨fun level cause s st rises _ => ?_, fun report i r s st record slot => ?_⟩
  · have raised : (s.copiedRequest level cause).Raised s 0 := raised_of_router rfl
    obtain ⟨shuts, trip, record, pending, -, others⟩ := trips_opened (level := level) raised
    obtain ⟨x, slot, ⟨xtrip, xcause, xlevel, xesc, xopened, xpeak, xclosure, xclosed⟩, crc, outcome⟩ := shuts.slot rfl
    have fixed := fixed_takeRequest level cause s
    obtain ⟨flags, -⟩ := flags_takeRequest level cause s
    dsimp only
    rw [takeRequest_armed st rises] at fixed flags ⊢
    generalize tripSite level (s.copiedRequest level cause) = t at *
    refine ⟨fixed, flags, trip, record, shuts.atLevel, opensIn_openingSlot _, fun on => ?_, fun off => ?_, pending, shuts.plan,
      others, x, slot, xtrip, xcause, xlevel, xesc, xopened, xpeak, xclosure, xclosed, crc, outcome⟩
    · obtain ⟨state, hold, -, notified⟩ := shuts.running on
      exact ⟨state, hold, notified⟩
    · obtain ⟨done, state, hold, -, notified⟩ := shuts.ended off
      exact ⟨done, state, hold, notified⟩
  · obtain ⟨runner, alert, site, ring, seq, notified⟩ := shutdownEnded_effect report record slot (State.Raised.refl s)
    have fixed := fixed_takeCompletion report s
    have ends : takeCompletion report s = shutdownEnded report s := by
      unfold takeCompletion
      rw [st]
    dsimp only
    rw [ends] at fixed ⊢
    generalize shutdownEnded report s = t at *
    refine ⟨fixed, runner, ?_, ?_, ?_, seq, notified⟩
    · have beside := congrArg (fun x : Trigger => { x with alertOut := t.trig.alertOut }) alert
      exact beside
    · rw [site]
    · rw [ring]
      rfl

/-! ### Escalation and supersession -/

section Escalation
variable {i : Fin 16} {r : TripRecord} {w s : State}

/-- The current record as an escalation writes it (R71, R72). -/
def TripRecord.escalatedTo2 (r : TripRecord) : TripRecord := { r with level := 2, escalated := true, outcome := .running }

/-- The level-2 shutdown that goes on under the same trip (R71, R72). -/
theorem shuts_escalated {n : Nat} (record : w.site.record = some i) (slot : w.store.ring[i] = .record r) (raised : w.Raised s n) :
    let t := enterShutting 2 (escalateRecord w)
    t.Shuts (escalateRecord w) s n 2 i (r.escalatedTo2.written (w.store.writeSeq + 1)) ∧
    t.site.trip = w.site.trip ∧ t.site.record = some i ∧ t.site.tripPending = true := by
  have whole : escalateRecord w = changeRecord i r.escalatedTo2 w := updateRecord_of_slot record slot _
  have site : (escalateRecord w).site = w.site := by rw [whole, site_changeRecord]
  have router : (escalateRecord w).router = w.router := by rw [whole, router_of_noRecords (noRecords_changeRecord ..)]
  have written : (escalateRecord w).store.ring[i] = .record (r.escalatedTo2.written (w.store.writeSeq + 1)) := by
    rw [whole, ring_changeRecord]
    exact Vector.getElem_set_self i.isLt
  have shuts := shuts_enterShutting 2 (by rw [site, record]) written (raised.same router)
  refine ⟨shuts, ?_, ?_, ?_⟩
  · rw [shuts.trip, site]
  · rw [shuts.record, site, record]
  · rw [shuts.pending]
    exact Bool.or_true _

/-- A rise to 2 in a level-1 shutdown or hold starts the L2 plan on a state that differs in the run alone (R71, R72). -/
theorem takeRequest_level1 {cause : Option (Fin 24)} (st : s.site.state = .shutting ∨ s.site.state = .safeHold)
    (one : s.site.level = 1) (rises : s.site.requestLevel < 2) : ∃ w, w.noRunner = (s.copiedRequest 2 cause).noRunner ∧
      takeRequest 2 cause s = enterShutting 2 (escalateRecord w) := by
  rcases st with st | st
  · exact ⟨_, noRunner_abandonRun _, takeRequest_escalates st one rises⟩
  · exact ⟨_, rfl, takeRequest_held st one rises⟩

/-- A closed record as it stands in the ring (R79, R81). -/
def TripRecord.closedAs (r : TripRecord) (c : Closure) (time : Word32) : TripRecord := { r with closure := c, closed := time }

/-- The ring image `ring` after the current record of `s`, if there is one, has been closed (R79, R81). -/
def State.ClosesTo (s : State) (c : Closure) (ring : Vector Slot 16) : Prop :=
  s.site.record = none ∧ ring = s.store.ring ∨ ∃ (i : Fin 16) (r : TripRecord), s.site.record = some i ∧
    s.store.ring[i] = .record r ∧
    ring = s.store.ring.set i (.record ((r.closedAs c s.mgmt.siteTime).written (s.store.writeSeq + 1)))

theorem closeRecord_effect {c : Closure} {ring : Vector Slot 16} (h : s.ClosesTo c ring) :
    (closeRecord c s).store.ring = ring ∧ (closeRecord c s).site = s.site := by
  refine ⟨?_, site_updateRecord _ s⟩
  rcases h with ⟨none, e⟩ | ⟨i, r, record, slot, e⟩
  · rw [closeRecord, updateRecord_of_none none, e]
  · rw [closeRecord, updateRecord_of_slot record slot, ring_changeRecord, e]
    rfl

theorem noRecords_closeRecord (c : Closure) (s : State) : (closeRecord c s).noRecords = s.noRecords := noRecords_updateRecord ..

/-- A restart aborted by a rise is a trip out of the state with its record closed (R81). -/
theorem takeRequest_supersedes {level : Nat} {cause : Option (Fin 24)} {ring : Vector Slot 16} (st : s.site.state = .restarting)
    (rises : s.site.requestLevel < level) (closes : s.ClosesTo .superseded ring) : ∃ w,
      takeRequest level cause s = tripSite level w ∧ w.store.ring = ring ∧
      w.site = { s.site with requestLevel := level, cause := cause } ∧ w.router = s.router ∧ w.mgmt = s.mgmt := by
  have same := noRunner_abandonRun (s.copiedRequest level cause)
  have aborts : takeRequest level cause s = tripSite level (closeRecord .superseded (abandonRun (s.copiedRequest level cause))) :=
    takeRequest_restarting st rises
  have site := site_of_noRunner same
  have store := store_of_noRunner same
  have mgmt : (abandonRun (s.copiedRequest level cause)).mgmt = s.mgmt := (congrArg State.mgmt same :)
  have router := router_of_noRunner same
  generalize abandonRun (s.copiedRequest level cause) = v at aborts site store mgmt router
  have closes' : v.ClosesTo .superseded ring := by
    unfold State.ClosesTo
    rw [site, store, mgmt]
    exact closes
  obtain ⟨ring', site'⟩ := closeRecord_effect closes'
  have beside := noRecords_closeRecord .superseded v
  exact ⟨_, aborts, ring', site'.trans site, (router_of_noRecords beside).trans router, (mgmt_of_noRecords beside).trans mgmt⟩

end Escalation

/-- Settles O53, by the effects of the escalation and of the trip out of a restart. -/
theorem riseToTwoEscalatesUnderTheSameTrip : Obligations.RiseToTwoEscalatesUnderTheSameTrip := by
  unfold Obligations.RiseToTwoEscalatesUnderTheSameTrip
  refine ⟨fun cause i r s st one rises record slot => ?_, fun level cause ring s st rises _ closes => ?_⟩
  · obtain ⟨w, same, e⟩ := takeRequest_level1 (cause := cause) st one rises
    have site := site_of_noRunner same
    have store := store_of_noRunner same
    obtain ⟨shuts, trip, current, pending⟩ := shuts_escalated (w := w) (i := i) (r := r) (s := s) (by rw [site]; exact record)
      (by rw [store]; exact slot) (raised_of_router (router_of_noRunner same :))
    obtain ⟨x, slot, ⟨xtrip, xcause, xlevel, xesc, xopened, xpeak, xclosure, xclosed⟩, crc, outcome⟩ := shuts.slot rfl
    have fixed := fixed_takeRequest 2 cause s
    obtain ⟨flags, -⟩ := flags_takeRequest 2 cause s
    rw [site] at trip
    dsimp only
    rw [e] at fixed flags ⊢
    generalize enterShutting 2 (escalateRecord w) = t at *
    refine ⟨fixed, flags, trip, current, shuts.atLevel, pending, fun on => ?_, fun off => ?_, shuts.plan,
      x, slot, xtrip, xlevel, xesc, xcause, xclosure, xopened, xpeak, xclosed, crc, outcome⟩
    · obtain ⟨state, hold, -, notified⟩ := shuts.running on
      exact ⟨state, hold, notified⟩
    · obtain ⟨done, state, hold, -, notified⟩ := shuts.ended off
      exact ⟨done, state, hold, notified⟩
  · obtain ⟨w, e, ringW, site, router, mgmt⟩ := takeRequest_supersedes (cause := cause) st rises closes
    have raised : w.Raised s 0 := raised_of_router router
    obtain ⟨shuts, trip, record, pending, -, others⟩ := trips_opened (level := level) raised
    obtain ⟨x, slot, ⟨xtrip, xcause, xlevel, xesc, xopened, -, xclosure, -⟩, -, -⟩ := shuts.slot rfl
    have newTrip : (w.newRecord level).trip = nextTrip s.site.trip := (congrArg (fun x : Site => nextTrip x.trip) site :)
    have newCause : (w.newRecord level).cause = cause := (congrArg Site.cause site :)
    have newOpened : (w.newRecord level).opened = s.mgmt.siteTime := congrArg Mgmt.siteTime mgmt
    have fixed := fixed_takeRequest level cause s
    obtain ⟨flags, tripOut⟩ := flags_takeRequest level cause s
    rw [ringW] at shuts record others slot
    rw [site] at trip pending
    dsimp only
    rw [e] at fixed flags tripOut ⊢
    generalize tripSite level w = t at *
    refine ⟨fixed, flags, tripOut, trip, record, shuts.atLevel, pending, opensIn_openingSlot _, fun on => ?_, fun off => ?_,
      shuts.plan, others, x, slot, xtrip.trans newTrip, xcause.trans newCause, xlevel, xesc, xopened.trans newOpened, xclosure⟩
    · obtain ⟨state, hold, -, notified⟩ := shuts.running on
      exact ⟨state, hold, notified⟩
    · obtain ⟨done, state, hold, -, notified⟩ := shuts.ended off
      exact ⟨done, state, hold, notified⟩

end Sys2Proof.Machine
end

section
/-! PROOF. O30: ABORT_RESTART. -/

namespace Sys2Proof.Machine

section Abort
variable {s : State}

/-- A run that is abandoned leaves no entry and no step that waits (R110). -/
theorem abandonRun_of_running (on : s.runner.run.status = .running) : (abandonRun s).runner.run.status = .abandoned ∧
    (abandonRun s).runner.outstanding = [] ∧ (abandonRun s).runner.steps = s.stopped := by
  unfold abandonRun
  rw [if_pos (runIsOn_iff.mpr on)]
  exact ⟨rfl, rfl, rfl⟩

theorem currentRecord_congr {t : State} (record : t.site.record = s.site.record)
    (slots : ∀ i, s.site.record = some i → t.store.ring[i] = s.store.ring[i]) : t.currentRecord = s.currentRecord := by
  unfold State.currentRecord
  rw [record]
  split
  · next i h => rw [slots i h]
  · rfl

/-- What the abandonment of a restart does (R82). -/
theorem holdAborted_effect (s : State) : let t := holdAborted s
    t.fixed = s.fixed ∧ t.runner = (abandonRun s).runner ∧ t.besideAlert = s.besideAlert ∧ t.store = s.store ∧
    t.site = { s.site with
      state := .safeHold, level := (s.currentRecord.map TripRecord.level).getD 2, hold := some .restartAborted } ∧
    t.Notified s 1 s.currentRecord := by
  intro t
  have same := noRunner_abandonRun s
  have site := site_of_noRunner same
  have store := store_of_noRunner same
  have alert : (abandonRun s).besideAlert = s.besideAlert := besideAlert_abandonRun s
  have current : (abandonRun s).currentRecord = s.currentRecord := currentRecord_congr (by rw [site]) fun i _ => by rw [store]
  have whole : t = raiseNotice none (setSite .safeHold ((s.currentRecord.map TripRecord.level).getD 2) (some .restartAborted)
      (abandonRun s)) := by
    rw [← current]
    rfl
  have fixed := fixed_abandonRun s
  have router := router_of_noRunner same
  generalize abandonRun s = u at same site store alert current whole fixed router ⊢
  refine ⟨?_, ?_, ?_, ?_, ?_, ?_⟩ <;> rw [whole]
  · exact fixed
  · rfl
  · exact alert
  · exact store
  · rw [← site]
    rfl
  · refine State.Raised.notified_current (t := setSite _ _ _ u) (raised_of_router ?_) current
    exact router

end Abort

/-- A response that joins its queue leaves the notice. -/
theorem notified_replied {t s : State} {n : Nat} {r : Option TripRecord} (h : t.Notified s n r) (src tag code : Byte)
    (st : Status) (data : List Byte) : (t.replied src tag code st data).Notified s n r := h.same rfl rfl

/-- Settles O30, by the effect of the abandonment. -/
theorem abortRestartHoldsTheSite : Obligations.AbortRestartHoldsTheSite := by
  unfold Obligations.AbortRestartHoldsTheSite
  intro src tag s₀
  have performed (ready : s₀.caughtUp.OpenTo) : exec (.abortRestart src tag) s₀ =
      .next (reqAbortRestart ⟨src, tag, 0x21⟩ s₀.caughtUp.asked) :=
    exec_request (r := .abortRestart) rfl ready rfl (by simp [Req.payload])
  generalize s₀.caughtUp = s at performed ⊢
  intro _ ready
  refine ⟨fun other => ?_, fun restarting => ?_⟩
  · rw [performed ready, reqAbortRestart, if_neg (show ¬s.asked.site.state = .restarting from other)]
    rfl
  · have accepted : exec (.abortRestart src tag) s₀ = .next ((holdAborted s.asked).replied src tag 0x21 .ok []) := by
      rw [performed ready, reqAbortRestart, if_pos (show s.asked.site.state = .restarting from restarting)]
      rfl
    obtain ⟨fixed, runner, alert, store, site, notified⟩ := holdAborted_effect s.asked
    have notified' : (holdAborted s.asked).Notified s 1 s.currentRecord := ⟨notified.slot, notified.replaced⟩
    generalize holdAborted s.asked = t at *
    refine ⟨_, accepted, ?_, site, (congrArg Trigger.tripOut alert :),
      (congrArg Trigger.flags alert :), store,
      notified_replied notified' .., fun on => ?_⟩
    · rw [fixed_replied, fixed_replied, fixed]
    · obtain ⟨status, outstanding, steps⟩ := abandonRun_of_running (s := s.asked) on
      rw [← runner] at status outstanding steps
      refine ⟨status, outstanding, fun i => ?_⟩
      show t.runner.steps[i].state.terminal = true
      rw [steps]
      exact terminal_stopped i

end Sys2Proof.Machine
end

section
/-! PROOF. O29: AUTHORIZE_RESTART, and how a restart ends. -/

namespace Sys2Proof.Machine

/-! ### The end of a restart (R79, R80) -/

section Completed
variable {u s : State} {n failed : Nat} {ring : Vector Slot 16}

/-- Closing a record keeps the cause and the outcome that a notice shows of it. -/
theorem currentRecord_closed {c : Closure} (h : u.ClosesTo c ring) :
    (closeRecord c u).currentRecord.bind TripRecord.cause = u.currentRecord.bind TripRecord.cause ∧
    (closeRecord c u).currentRecord.map TripRecord.outcome = u.currentRecord.map TripRecord.outcome := by
  obtain ⟨ring', site⟩ := closeRecord_effect h
  rcases h with ⟨none, e⟩ | ⟨i, r, record, slot, e⟩
  · rw [currentRecord_of_none none, currentRecord_of_none (by rw [site]; exact none)]
    exact ⟨rfl, rfl⟩
  · have written : (closeRecord c u).store.ring[i] = .record ((r.closedAs c u.mgmt.siteTime).written (u.store.writeSeq + 1)) := by
      rw [ring', e]
      exact Vector.getElem_set_self i.isLt
    rw [currentRecord_of_slot record slot, currentRecord_of_slot (by rw [site]; exact record) written]
    exact ⟨rfl, rfl⟩

/-- Closing a record neither damages a slot nor repairs one. -/
theorem damaged_closed {c : Closure} (h : u.ClosesTo c ring) (k : Fin 16) : ring[k] = .damaged ↔ u.store.ring[k] = .damaged := by
  rcases h with ⟨-, rfl⟩ | ⟨i, r, -, slot, rfl⟩
  · rfl
  · by_cases e : i = k
    · subst e
      rw [slot]
      simp
    · rw [show (u.store.ring.set i _)[k] = u.store.ring[k] from
        Vector.getElem_set_ne i.isLt k.isLt fun same => e (Fin.ext same)]

theorem anyDamaged_congr {t : State} (h : ∀ k : Fin 16, t.store.ring[k] = .damaged ↔ s.store.ring[k] = .damaged) :
    t.anyDamaged = s.anyDamaged := by
  rw [Bool.eq_iff_iff, anyDamaged_iff, anyDamaged_iff]
  exact exists_congr h

/-- The state in which a completed restart has closed its record and left it (R65, R79). -/
def State.restarted (u : State) (failed : Nat) : State := leaveRecord failed (closeRecord (restartClosure failed) u)

/-- What the closing of a completed restart leaves. -/
theorem restarted_effect (closes : u.ClosesTo (restartClosure failed) ring) : let w := u.restarted failed
    w.store.ring = ring ∧ w.router = u.router ∧ w.runner = u.runner ∧ w.anyDamaged = u.anyDamaged ∧
    w.site = { u.site with record := none, restartIncomplete := u.site.restartIncomplete || decide (0 < failed) } := by
  obtain ⟨ring', site⟩ := closeRecord_effect closes
  have same := noRecords_closeRecord (restartClosure failed) u
  refine ⟨ring', router_of_noRecords same, runner_of_noRecords same, anyDamaged_congr fun k => ?_, ?_⟩
  · have image : (u.restarted failed).store.ring = ring := ring'
    rw [image]
    exact damaged_closed closes k
  · rw [← site]
    rfl

/-- How a completed restart ends: held where a slot is damaged, in ARMED where none is and no level is requested, and else past
the trip at once (R68, R79). `n` notices were raised from `s` to `u`. -/
structure State.EndsRestart (t u s : State) (n failed : Nat) (ring : Vector Slot 16) : Prop where
  incomplete : t.site.restartIncomplete = (u.site.restartIncomplete || decide (0 < failed))
  damaged : u.anyDamaged = true → t.Notified s (n + 1) u.currentRecord ∧ t.store.ring = ring ∧ t.runner = u.runner ∧
    t.site = { u.site with
      state := .safeHold, level := 2, hold := some .recordDamaged, record := none
      restartIncomplete := u.site.restartIncomplete || decide (0 < failed) }
  armed : u.anyDamaged = false → u.site.requestLevel = 0 → t.Notified s (n + 1) u.currentRecord ∧ t.store.ring = ring ∧
    t.runner = u.runner ∧ t.site = { u.site with
      state := .armed, level := 0, hold := none, record := none
      restartIncomplete := u.site.restartIncomplete || decide (0 < failed) }
  trips : u.anyDamaged = false → 0 < u.site.requestLevel → ∃ v r, t.Shuts v s (n + 1) u.site.requestLevel (openingSlot ring) r ∧
    t.site.trip = nextTrip u.site.trip ∧ t.site.record = some (openingSlot ring) ∧
    ∀ j : Fin 16, j ≠ openingSlot ring → t.store.ring[j] = ring[j]

theorem endsRestart_takeCompletion (st : u.site.state = .restarting) (closes : u.ClosesTo (restartClosure failed) ring)
    (raised : u.Raised s n) : (takeCompletion ⟨failed, false⟩ u).EndsRestart u s n failed ring := by
  obtain ⟨cause, outcome⟩ := currentRecord_closed closes
  obtain ⟨ringW, router, runner, sound, site⟩ := restarted_effect closes
  have whole : takeCompletion ⟨failed, false⟩ u =
      if (u.restarted failed).anyDamaged then
        raiseNotice (closeRecord (restartClosure failed) u).currentRecord (setSite .safeHold 2 (some .recordDamaged) (u.restarted failed))
      else enterArmed (closeRecord (restartClosure failed) u).currentRecord (u.restarted failed) := by
    unfold takeCompletion
    rw [st]
    rfl
  rw [whole, sound]
  generalize (closeRecord (restartClosure failed) u).currentRecord = closed at cause outcome
  generalize u.restarted failed = w at ringW router runner site
  have record : w.site.record = none := by rw [site]
  have left : { w with site.record := none } = w := by
    obtain ⟨_, _, _, _, _, _, _, _, _, _, _, own, _, _, _⟩ := w
    obtain ⟨_, _, _, _, r, _, _, _, _, _⟩ := own
    cases record
    rfl
  -- whatever the site enters, it has no current record, and its notice shows the closed one
  have shows (st : SiteState) (level : Nat) (hold : Option HoldReason) :
      (raiseNotice closed (setSite st level hold w)).Notified s (n + 1) u.currentRecord := by
    have none : (setSite st level hold w).currentRecord = none := currentRecord_of_none record
    refine State.Raised.notified_closed (t := setSite _ _ _ w) (raised.same ?_) ?_ ?_
    · exact router
    · rw [none, Option.or_none]
      exact cause
    · rw [none, Option.or_none]
      exact outcome
  cases damaged : u.anyDamaged with
  | true =>
    have no : u.anyDamaged ≠ false := by rw [damaged]; decide
    rw [if_pos rfl]
    refine ⟨?_, fun _ => ⟨shows .safeHold 2 (some .recordDamaged), ringW, runner, ?_⟩, fun h => absurd h no, fun h => absurd h no⟩
    · exact (congrArg Site.restartIncomplete site :)
    · show ({ w.site with state := .safeHold, level := 2, hold := some .recordDamaged } : Site) = _
      rw [site]
  | false =>
    have no : u.anyDamaged ≠ true := by rw [damaged]; decide
    rw [if_neg (by decide)]
    have enters : enterArmed closed w = if 0 < w.site.requestLevel then
        tripSite w.site.requestLevel (raiseNotice closed (setSite .armed 0 none w)) else raiseNotice closed (setSite .armed 0 none w) := by
      unfold enterArmed
      rw [left]
      rfl
    have request : w.site.requestLevel = u.site.requestLevel := by rw [site]
    rw [enters, request]
    by_cases rises : 0 < u.site.requestLevel
    · rw [if_pos rises]
      have armed : (raiseNotice closed (setSite .armed 0 none w)).Raised s (n + 1) :=
        State.Raised.raise (t := setSite .armed 0 none w) (raised.same router) closed
      obtain ⟨shuts, trip, record, -, incomplete, others⟩ := trips_opened (level := u.site.requestLevel) armed
      have ring' : (raiseNotice closed (setSite .armed 0 none w)).store.ring = ring := ringW
      rw [ring'] at shuts record others
      refine ⟨?_, fun h => absurd h no, fun _ none => absurd none rises.ne', fun _ _ => ⟨_, _, shuts, ?_, record, others⟩⟩
      · rw [incomplete]
        exact (congrArg Site.restartIncomplete site :)
      · rw [trip]
        exact (congrArg (fun x : Site => nextTrip x.trip) site :)
    · rw [if_neg rises]
      refine ⟨?_, fun h => absurd h no, fun _ _ => ⟨shows .armed 0 none, ringW, runner, ?_⟩, fun _ some => absurd some rises⟩
      · exact (congrArg Site.restartIncomplete site :)
      · show ({ w.site with state := .armed, level := 0, hold := none } : Site) = _
        rw [site]

end Completed

theorem trig_takeCompletion (report : Report) (s : State) : (takeCompletion report s).trig.flags = s.trig.flags ∧
    (takeCompletion report s).trig.requestLevel = s.trig.requestLevel ∧
    (takeCompletion report s).trig.cause = s.trig.cause ∧ (takeCompletion report s).trig.tripOut = s.trig.tripOut := by
  have same := besideAlert_of_steady (steady_takeCompletion s report)
  exact ⟨(congrArg Trigger.flags same :), (congrArg Trigger.requestLevel same :), (congrArg Trigger.cause same :),
    (congrArg Trigger.tripOut same :)⟩

/-- A restart that ends by HALT holds the site with everything else as it is (R80). -/
theorem restartHalted_effect {failed : Nat} {s : State} (st : s.site.state = .restarting) :
    let t := takeCompletion ⟨failed, true⟩ s
    t = restartHalted s ∧ t.Notified s 1 s.currentRecord := by
  have whole : takeCompletion ⟨failed, true⟩ s = restartHalted s := by
    unfold takeCompletion
    rw [st]
    rfl
  rw [whole]
  refine ⟨rfl, State.Raised.notified_current (t := setSite _ _ _ s) (raised_of_router ?_) ?_⟩ <;> rfl

/-! ### The start of a restart (R77) -/

section Start
variable {s : State}

/-- Flags, request, peaks, TRIP_OUT and the mark of an incomplete restart cleared (R77). -/
def State.clearedForRestart (s : State) : State :=
  { clearPeaks (clearFlags (fun _ => true) s) with trig.tripOut := false, site.restartIncomplete := false }

/-- What the clearing leaves; the site's copy of the request level is 0 where it agreed before. -/
theorem clearedForRestart_effect (copy : s.CopyAgrees) : let c := s.clearedForRestart
    c.fixed = ({ s with channels := s.channels.map fun x => { x with peakH := 0, peakU := 0 } } : State).fixed ∧
    (∀ i : Fin 24, c.trig.flags[i] = false) ∧ c.trig.requestLevel = 0 ∧ c.trig.cause = none ∧ c.trig.tripOut = false ∧
    c.router = s.router ∧ c.store = s.store ∧
    c.site = { s.site with restartIncomplete := false, requestLevel := 0, cause := c.site.cause } := by
  have agrees := copyAgrees_iff.mpr ((keeps_clearFlags (fun _ => true) s).copy (copyAgrees_iff.mp copy))
  have fixed := fixed_clearFlags (fun _ => true) s
  have channels := channels_clearFlags s fun _ => true
  obtain ⟨flags, level, cause, off, cleared⟩ := clearFlags_all s
  unfold State.clearedForRestart
  rw [cleared] at agrees fixed ⊢
  obtain rfl : level = 0 := agrees.level
  refine ⟨?_, off, rfl, rfl, rfl, rfl, rfl, rfl⟩
  have peaks := congrArg (fun u : State => { u with channels := s.channels.map fun x : Channel => { x with peakH := 0, peakU := 0 } }) fixed
  exact peaks

/-- The record that repairs a damaged slot (R77, R78). -/
def State.recovered (c : State) : TripRecord :=
  (⟨0, c.site.trip, c.mgmt.siteTime, none, 2, false, 0, .incomplete, .recovered, c.mgmt.siteTime, 0⟩ : TripRecord).written
    (c.store.writeSeq + 1)

theorem recoverSlot_effect (c : State) : let d := recoverSlot c
    d.site = c.site ∧ d.router = c.router ∧ d.trig = c.trig ∧
    (∀ k, lowestDamaged c.store.ring = some k → d.store.ring[k] = .record c.recovered) ∧
    ∀ j : Fin 16, lowestDamaged c.store.ring ≠ some j → d.store.ring[j] = c.store.ring[j] := by
  unfold recoverSlot
  cases low : lowestDamaged c.store.ring with
  | none => exact ⟨rfl, rfl, rfl, nofun, fun _ _ => rfl⟩
  | some k =>
    dsimp only
    refine ⟨site_changeRecord .., router_of_noRecords (noRecords_changeRecord ..), trig_changeRecord .., fun j hj => ?_,
      fun j ne => ?_⟩ <;> rw [ring_changeRecord]
    · cases hj
      exact Vector.getElem_set_self k.isLt
    · exact Vector.getElem_set_ne k.isLt j.isLt fun e => ne (congrArg some (Fin.ext e))

/-- The site RESTARTING, as the start of the restart plan leaves it before a report of its end is taken (R77, R79). -/
def State.restarting (c : State) : State :=
  let e := (startPlan .restart (recoverSlot c)).1
  raiseNotice none (setSite .restarting e.site.level none e)

theorem restarting_effect (c : State) : let f := c.restarting
    f.fixed = c.fixed ∧ f.besideAlert = c.besideAlert ∧ f.site = { c.site with state := .restarting, hold := none } ∧
    f.runner = (startPlan .restart (recoverSlot c)).1.runner ∧
    (∀ k, lowestDamaged c.store.ring = some k → f.store.ring[k] = .record c.recovered) ∧
    (∀ j : Fin 16, lowestDamaged c.store.ring ≠ some j → f.store.ring[j] = c.store.ring[j]) ∧ f.Raised c 1 ∧
    f.Notified c 1 f.currentRecord := by
  obtain ⟨site, router, trig, slot, others⟩ := recoverSlot_effect c
  have same := noRunner_startPlan .restart (recoverSlot c)
  have fixed := (fixed_startPlan .restart (recoverSlot c)).trans (fixed_recoverSlot c)
  unfold State.restarting
  generalize (startPlan .restart (recoverSlot c)).1 = e at same fixed
  generalize recoverSlot c = d at site router trig slot others same
  have siteE := (site_of_noRunner same).trans site
  have storeE := store_of_noRunner same
  have routerE := (router_of_noRunner same).trans router
  have trigE := (trig_of_noRunner same).trans trig
  refine ⟨fixed, (besideAlert_of_trig trigE :), ?_, rfl, fun k low => ?_, fun j ne => ?_, ?_, ?_⟩
  · rw [← siteE]
    rfl
  · exact (congrArg (fun x : PlanStore => x.ring[k]) storeE).trans (slot k low)
  · exact (congrArg (fun x : PlanStore => x.ring[j]) storeE).trans (others j ne)
  · exact State.Raised.raise (t := setSite _ _ _ e) (raised_of_router (routerE :)) none
  · exact State.Raised.notified (t := setSite _ _ _ e) (raised_of_router (routerE :))

/-- The restart goes on, or its report is taken in the same event (R77, R79). -/
theorem startRestart_cases (s : State) :
    (startPlan .restart (recoverSlot s.clearedForRestart)).2 = none ∧ startRestart s = s.clearedForRestart.restarting ∨
    ∃ r, (startPlan .restart (recoverSlot s.clearedForRestart)).2 = some r ∧
      startRestart s = takeCompletion r s.clearedForRestart.restarting := by
  unfold startRestart State.restarting
  dsimp only
  rw [← State.clearedForRestart]
  obtain ⟨e, report⟩ := startPlan .restart (recoverSlot s.clearedForRestart)
  cases report with
  | none => exact .inl ⟨rfl, rfl⟩
  | some r => exact .inr ⟨r, rfl, rfl⟩

/-- The current record of a sound ring is not in a damaged slot. -/
theorem record_apart_from_damaged (sound : s.RingSound) {i : Fin 16} (record : s.site.record = some i) :
    lowestDamaged s.store.ring ≠ some i ∧ ∃ r, s.store.ring[i] = .record r := by
  have isOpen := (sound.openIsCurrent i).mpr record
  cases slot : s.store.ring[i] with
  | record r =>
    refine ⟨fun low => ?_, r, rfl⟩
    have damaged := eq_of_beq (find?_finRange_eq_some.mp low).1
    rw [slot] at damaged
    cases damaged
  | blank => rw [slot] at isOpen; cases isOpen
  | damaged => rw [slot] at isOpen; cases isOpen

/-- What an accepted authorization starts (R77 to R79). -/
structure State.Restarts (t s : State) : Prop where
  fixed : t.fixed = ({ s with channels := s.channels.map fun c => { c with peakH := 0, peakU := 0 } } : State).fixed
  flags : ∀ i : Fin 24, t.trig.flags[i] = false
  request : t.trig.requestLevel = 0 ∧ t.trig.cause = none ∧ t.trig.tripOut = false
  incomplete : t.site.restartIncomplete = false
  trip : t.site.trip = s.site.trip
  plan : t.runner.run.plan = some .restart
  repaired : ∀ i, lowestDamaged s.store.ring = some i → ∃ r, t.store.ring[i] = .record r ∧ r.closure = .recovered ∧
    r.trip = s.site.trip ∧ r.level = 2 ∧ r.outcome = .incomplete ∧ r.cause = none ∧ r.crc = crc16 r.fields
  running : t.runner.run.status = .running → t.site.state = .restarting ∧ t.site.level = s.site.level ∧ t.site.hold = none ∧
    t.site.record = s.site.record ∧ t.Notified s 1 t.currentRecord
  ended : t.runner.run.status ≠ .running → t.runner.run.status = .complete ∧ t.site.record = none ∧
    (t.site.state = .armed ∨ t.site.state = .safeHold ∧ t.site.hold = some .recordDamaged) ∧ t.Notified s 2 s.currentRecord

/-- The site RESTARTING with the restart plan started, before a report of its end is taken. -/
structure State.Begins (f s : State) : Prop where
  fixed : f.fixed = ({ s with channels := s.channels.map fun c => { c with peakH := 0, peakU := 0 } } : State).fixed
  flags : ∀ i : Fin 24, f.trig.flags[i] = false
  request : f.trig.requestLevel = 0 ∧ f.trig.cause = none ∧ f.trig.tripOut = false
  site : f.site = { s.site with
    state := .restarting, hold := none, restartIncomplete := false, requestLevel := 0, cause := f.site.cause }
  plan : f.runner.run.plan = some .restart
  repaired : ∀ k, lowestDamaged s.store.ring = some k → ∃ r, f.store.ring[k] = .record r ∧ r.closure = .recovered ∧
    r.trip = s.site.trip ∧ r.level = 2 ∧ r.outcome = .incomplete ∧ r.cause = none ∧ r.crc = crc16 r.fields
  others : ∀ j : Fin 16, lowestDamaged s.store.ring ≠ some j → f.store.ring[j] = s.store.ring[j]
  raised : f.Raised s 1
  notified : f.Notified s 1 f.currentRecord
  current : f.currentRecord = s.currentRecord

theorem begins_restarting (copy : s.CopyAgrees) (sound : s.RingSound) : s.clearedForRestart.restarting.Begins s := by
  obtain ⟨fixedC, flagsC, ⟨requestC, causeC, outC, routerC, storeC, siteC⟩⟩ := clearedForRestart_effect copy
  obtain ⟨fixed, alert, site, runner, slot, others, raised, notified⟩ := restarting_effect s.clearedForRestart
  obtain ⟨plan, -⟩ := startPlan_outcome .restart (recoverSlot s.clearedForRestart)
  generalize s.clearedForRestart = c at *
  rw [← runner] at plan
  generalize c.restarting = f at *
  rw [storeC] at slot others
  have trips : c.recovered.trip = s.site.trip := (congrArg Site.trip siteC :)
  have flags : f.trig.flags = c.trig.flags := (congrArg Trigger.flags alert :)
  refine ⟨fixed.trans fixedC, fun i => flags ▸ flagsC i, ⟨?_, ?_, ?_⟩, ?_, plan, fun k low => ?_, others,
    raised.since routerC, notified.since routerC, ?_⟩
  · exact (congrArg Trigger.requestLevel alert :).trans requestC
  · exact (congrArg Trigger.cause alert :).trans causeC
  · exact (congrArg Trigger.tripOut alert :).trans outC
  · rw [site, siteC]
  · exact ⟨_, slot k low, rfl, trips, rfl, rfl, rfl, rfl⟩
  · refine currentRecord_congr ?_ fun i record => ?_
    · rw [site, siteC]
    · exact others i (record_apart_from_damaged sound record).1

theorem State.Begins.closes {f : State} (h : f.Begins s) (sound : s.RingSound) : ∃ ring, f.ClosesTo (restartClosure 0) ring ∧
    ∀ k, lowestDamaged s.store.ring = some k → ring[k] = f.store.ring[k] := by
  have record : f.site.record = s.site.record := by rw [h.site]
  cases current : s.site.record with
  | none => exact ⟨_, .inl ⟨record.trans current, rfl⟩, fun _ _ => rfl⟩
  | some i =>
    obtain ⟨apart, r, slot⟩ := record_apart_from_damaged sound current
    refine ⟨_, .inr ⟨i, r, record.trans current, (h.others i apart).trans slot, rfl⟩, fun k low => ?_⟩
    exact Vector.getElem_set_ne i.isLt k.isLt fun e => apart (low.trans (congrArg some (Fin.ext e.symm)))

/-- The restart goes on. -/
theorem State.Begins.restarts {f : State} (h : f.Begins s) (on : f.runner.run.status = .running) : f.Restarts s := by
  have site := h.site
  refine ⟨h.fixed, h.flags, h.request, ?_, ?_, h.plan, h.repaired, fun _ => ⟨?_, ?_, ?_, ?_, h.notified⟩, fun off => absurd on off⟩ <;>
    rw [site]

/-- The restart is done in the event that starts it. -/
theorem State.Begins.ends {f : State} (h : f.Begins s) (sound : s.RingSound) (done : f.runner.run.status = .complete) :
    (takeCompletion ⟨0, false⟩ f).Restarts s := by
  obtain ⟨ring, closes, kept⟩ := h.closes sound
  have site := h.site
  have fixed := fixed_takeCompletion ⟨0, false⟩ f
  obtain ⟨flags, level, cause, out⟩ := trig_takeCompletion ⟨0, false⟩ f
  have trip : f.site.trip = s.site.trip := by rw [site]
  have marked : (f.site.restartIncomplete || decide (0 < 0)) = false := by rw [site]; rfl
  have ends := endsRestart_takeCompletion (by rw [site]) closes h.raised
  generalize takeCompletion ⟨0, false⟩ f = t at *
  obtain ⟨incomplete, damaged, armed, -⟩ := ends
  obtain ⟨notified, image, runner, tripT, record, state⟩ : t.Notified s 2 f.currentRecord ∧ t.store.ring = ring ∧
      t.runner = f.runner ∧ t.site.trip = f.site.trip ∧ t.site.record = none ∧
      (t.site.state = .armed ∨ t.site.state = .safeHold ∧ t.site.hold = some .recordDamaged) := by
    cases any : f.anyDamaged with
    | true =>
      obtain ⟨notified, image, runner, siteT⟩ := damaged any
      refine ⟨notified, image, runner, ?_⟩
      rw [siteT]
      exact ⟨rfl, rfl, .inr ⟨rfl, rfl⟩⟩
    | false =>
      obtain ⟨notified, image, runner, siteT⟩ := armed any (by rw [site])
      refine ⟨notified, image, runner, ?_⟩
      rw [siteT]
      exact ⟨rfl, rfl, .inl rfl⟩
  have status : t.runner.run.status = .complete := by rw [runner, done]
  obtain ⟨levelF, causeF, outF⟩ := h.request
  refine ⟨fixed.trans h.fixed, fun i => flags ▸ h.flags i, ⟨level.trans levelF, cause.trans causeF, out.trans outF⟩,
    incomplete.trans marked, tripT.trans trip, by rw [runner, h.plan], fun k low => ?_, fun on => ?_,
    fun _ => ⟨status, record, state, h.current ▸ notified⟩⟩
  · rw [image, kept k low]
    exact h.repaired k low
  · rw [status] at on
    cases on

/-- An accepted authorization clears, repairs, and starts the restart (R77 to R79). -/
theorem restarts_startRestart (copy : s.CopyAgrees) (sound : s.RingSound) : (startRestart s).Restarts s := by
  have begins := begins_restarting copy sound
  obtain ⟨-, report⟩ := startPlan_outcome .restart (recoverSlot s.clearedForRestart)
  obtain ⟨-, -, -, runner, -⟩ := restarting_effect s.clearedForRestart
  rw [← runner] at report
  rcases startRestart_cases s with ⟨none, e⟩ | ⟨r, some, e⟩ <;> rw [e]
  · rcases report with ⟨-, status⟩ | ⟨reported, -⟩
    · exact begins.restarts status
    · rw [none] at reported
      cases reported
  · rcases report with ⟨reported, -⟩ | ⟨reported, status⟩ <;> rw [some] at reported <;> cases reported
    exact begins.ends sound status

end Start

/-- Settles O29, by the refusals in their order, what the start of the restart does, and how a restart ends. -/
theorem authorizeRestartIsRefusedInOrderOrStartsTheRestart : Obligations.AuthorizeRestartIsRefusedInOrderOrStartsTheRestart := by
  unfold Obligations.AuthorizeRestartIsRefusedInOrderOrStartsTheRestart
  refine ⟨fun src tag s₀ => ?_, fun failed s st => ⟨?_, fun ring closes => ?_⟩⟩
  · have performed (ready : s₀.caughtUp.OpenTo) : exec (.authorizeRestart src tag) s₀ =
        .next (reqAuthorizeRestart ⟨src, tag, 0x20⟩ s₀.caughtUp.asked) :=
      exec_request (r := .authorizeRestart) rfl ready rfl (by simp [Req.payload])
    generalize s₀.caughtUp = s at performed ⊢
    intro _ ready
    have state : s.asked.site.state = s.site.state := rfl
    have elapsed : s.asked.trig.quietElapsed = s.trig.quietElapsed := rfl
    have condition : s.asked.activeCondition = s.activeCondition := rfl
    have router : s.asked.router = s.router := rfl
    have refusals := performed ready
    unfold reqAuthorizeRestart at refusals
    rw [state, elapsed, condition] at refusals
    refine ⟨fun other => ?_, fun held early => ?_, fun held quiet active => ?_, fun copy sound held quiet idle => ?_⟩
    · rw [refusals, if_pos other]
      rfl
    · rw [refusals, if_neg (not_not.mpr held), if_pos early]
      rfl
    · rw [refusals, if_neg (not_not.mpr held), if_neg (by rw [quiet]; decide), if_pos active]
      rfl
    · rw [if_neg (not_not.mpr held), if_neg (by rw [quiet]; decide), if_neg (by rw [idle]; decide), answer_eq_replied] at refusals
      have asked := restarts_startRestart (s := s.asked) ⟨copy.level, copy.cause⟩
        ⟨sound.openIsCurrent, sound.armedClean, sound.outOfService⟩
      generalize startRestart s.asked = t at refusals asked
      have running := asked.running
      have ended := asked.ended
      refine ⟨_, refusals, ?_, asked.flags, asked.request.1, asked.request.2.1, asked.request.2.2, asked.incomplete, asked.trip,
        asked.plan, asked.repaired, fun on => ?_, fun off => ?_⟩
      · rw [fixed_replied, asked.fixed]
        rfl
      · obtain ⟨state, level, hold, record, notified⟩ := running on
        exact ⟨state, level, hold, record, notified_replied (notified.since router) ..⟩
      · obtain ⟨done, record, state, notified⟩ := ended off
        exact ⟨done, record, state, notified_replied (notified.since router) ..⟩
  · obtain ⟨e, notified⟩ := restartHalted_effect (failed := failed) st
    dsimp only
    rw [e] at notified ⊢
    exact ⟨rfl, rfl, rfl, rfl, rfl, notified⟩
  · have ends := endsRestart_takeCompletion st closes (State.Raised.refl s)
    obtain ⟨flags, -, -, out⟩ := trig_takeCompletion ⟨failed, false⟩ s
    refine ⟨fixed_takeCompletion _ s, flags, out, ends.incomplete, ends.damaged, ends.armed, fun sound rises => ?_⟩
    obtain ⟨v, r, shuts, trip, record, others⟩ := ends.trips sound rises
    refine ⟨trip, shuts.atLevel, record, opensIn_openingSlot ring, others, shuts.plan, fun on => ?_, fun off => ?_⟩
    · obtain ⟨state, -, -, notified⟩ := shuts.running on
      exact ⟨state, notified⟩
    · obtain ⟨-, state, -, -, notified⟩ := shuts.ended off
      exact ⟨state, notified⟩

end Sys2Proof.Machine
end

section
/-! SUPPORT. Each follow-up of an event by what it changes, and what is due no more once all have been taken (R84, R144, R163, R164, R178, R179, R184, R189; log 3). -/

namespace Sys2Proof.Machine

/-! ### Each follow-up where it is not due -/

section NotDue
variable {s : State}

theorem commandedResetFollows_of_not_due (h : s.mgmt.cmdReset ≠ .due) : commandedResetFollows s = s := if_neg fun due => h due.2

theorem activationFollows_of_not_due (h : s.activationDue = false) : activationFollows s = s :=
  if_neg (by rw [h, Bool.and_false]; decide)

theorem sResetFollows_of_not_due (h : s.sResetDue = false) : sResetFollows s = s := by
  unfold sResetFollows sResetTakesEffect
  rw [h]
  simp

theorem pResetFollows_of_not_due (h : s.pResetDue = false) : pResetFollows s = s := by
  unfold pResetFollows pResetTakesEffect
  rw [h]
  simp

theorem takeUpFollows_of_not_due (h : s.writeWaits = false) : takeUpFollows s = s := if_neg (by rw [h, Bool.and_false]; decide)

end NotDue

/-! ### What each changes -/

section Changes
variable (s : State)

theorem commandedReset_stops (addr rate : Fin 4) (h : s.isRunning = true) (due : s.mgmt.cmdReset = .due) :
    (commandedReset addr rate s).isRunning = false := by
  unfold commandedReset
  rw [if_pos ⟨h, due⟩]
  rfl

theorem link_of_activate : (activate s).link = s.link ∧ (activate s).mgmt = s.mgmt ∧ (activate s).phase = s.phase ∧
    (activate s).store.commit = s.store.commit ∧ (activate s).store.cond = s.store.cond ∧ (activate s).pending = s.pending := by
  cases h : s.store.awaiting[(3 : Fin 4)] with
  | false =>
    have fixed := fixed_activate_without h
    exact ⟨(link_of_fixed fixed :), (mgmt_of_fixed fixed :), (phase_of_fixed fixed :), (commit_of_fixed fixed :),
      (cond_of_fixed fixed :), (pending_of_fixed fixed :)⟩
  | true =>
    obtain ⟨zones, alert, -, fixed, -⟩ := activate_with h
    have same : ((reloadAwaiting s).restaged s.tables zones alert).judged.link = s.link ∧
        ((reloadAwaiting s).restaged s.tables zones alert).judged.mgmt = s.mgmt ∧
        ((reloadAwaiting s).restaged s.tables zones alert).judged.phase = s.phase ∧
        ((reloadAwaiting s).restaged s.tables zones alert).judged.pending = s.pending := by
      simp only [State.judged, State.restaged, routerTakesTables, reloadAwaiting, and_self]
    have store : ((reloadAwaiting s).restaged s.tables zones alert).judged.store.commit = s.store.commit ∧
        ((reloadAwaiting s).restaged s.tables zones alert).judged.store.cond = s.store.cond := by
      rw [store_judged, store_restaged]
      exact ⟨rfl, rfl⟩
    generalize ((reloadAwaiting s).restaged s.tables zones alert).judged = j at fixed same store
    obtain ⟨link, mgmt, phase, pending⟩ := same
    exact ⟨(link_of_fixed fixed).trans link, (mgmt_of_fixed fixed).trans mgmt, (phase_of_fixed fixed).trans phase,
      (commit_of_fixed fixed).trans store.1, (cond_of_fixed fixed).trans store.2, (pending_of_fixed fixed).trans pending⟩

theorem activationDue_of_not_pending {s : State} (h : s.site.activationPending = false) : s.activationDue = false := by
  unfold State.activationDue
  rw [h, Bool.false_and]

/-- The deferred activation leaves links and management unit, and none is due after it. -/
theorem activationFollows_effect (running : s.isRunning = true) : let t := activationFollows s
    t.link = s.link ∧ t.mgmt = s.mgmt ∧ t.phase = s.phase ∧ t.activationDue = false := by
  unfold activationFollows
  cases due : s.activationDue with
  | true =>
    rw [running]
    obtain ⟨link, mgmt, phase, -⟩ := link_of_activate s
    obtain ⟨-, -, -, -, -, -, pending⟩ := store_of_activate s
    exact ⟨link, mgmt, phase, activationDue_of_not_pending pending⟩
  | false =>
    rw [Bool.and_false, if_neg (by decide)]
    exact ⟨rfl, rfl, rfl, due⟩

/-- An S-port reset leaves itself not due, and changes link, router and management unit alone. -/
theorem sResetFollows_effect (running : s.isRunning = true) : ∃ link router mgmt,
    sResetFollows s = { s with link := link, router := router, mgmt := mgmt } ∧ mgmt.cmdReset = s.mgmt.cmdReset ∧
    (sResetFollows s).sResetDue = false := by
  unfold sResetFollows sResetTakesEffect
  rw [if_pos running]
  cases due : s.sResetDue with
  | true =>
    rw [if_pos rfl]
    exact ⟨_, _, _, rfl, rfl, rfl⟩
  | false =>
    rw [if_neg (by decide)]
    exact ⟨s.link, s.router, s.mgmt, rfl, rfl, due⟩

theorem pResetFollows_effect (running : s.isRunning = true) : ∃ link router,
    pResetFollows s = { s with link := link, router := router } ∧ link.sReset = s.link.sReset ∧
    (pResetFollows s).pResetDue = false := by
  unfold pResetFollows pResetTakesEffect
  rw [if_pos running]
  cases due : s.pResetDue with
  | true =>
    rw [if_pos rfl]
    exact ⟨_, _, rfl, rfl, rfl⟩
  | false =>
    rw [if_neg (by decide)]
    exact ⟨s.link, s.router, rfl, rfl, due⟩

/-- Held responses join the queue, until none is held or the queue is full. -/
theorem heldFollow_effect (running : s.isRunning = true) : ∃ responses held,
    heldFollow s = { s with mgmt.responses := responses, mgmt.held := held } ∧ (held = [] ∨ 4 ≤ responses.length) := by
  unfold heldFollow heldResponsesJoin
  rw [if_pos running]
  refine ⟨_, _, rfl, ?_⟩
  unfold responsePlaces
  by_cases few : s.mgmt.held.length ≤ 4 - s.mgmt.responses.length
  · exact .inl (List.drop_eq_nil_of_le few)
  · refine .inr ?_
    rw [List.length_append, List.length_take]
    omega

theorem heldJoins_eq_false : s.heldJoins = false ↔ s.mgmt.held = [] ∨ 4 ≤ s.mgmt.responses.length := by
  unfold State.heldJoins responsePlaces
  rw [Bool.and_eq_false_iff, Bool.not_eq_false', List.isEmpty_iff, decide_eq_false_iff_not, not_lt]

/-- The P-port arbiter changes its transmitter and what it sends, and nothing is ready for it then. -/
theorem pChooses_effect : ∃ pTx tripPending injection sToP, pChooses s = { s with
      link.pTx := pTx, site.tripPending := tripPending, runner.injection := injection, router.sToP := sToP } ∧
    (s.link.pTx ≠ none → pTx ≠ none) ∧ (pChooses s).pReady = false := by
  cases ready : s.pReady with
  | false => exact ⟨_, _, _, _, pChooses_of_not_ready ready, id, by rw [pChooses_of_not_ready ready]; exact ready⟩
  | true =>
    have may : s.pMayChoose = true := ((Bool.and_eq_true _ _).mp ready).1
    have busy : ∀ (u : State) (f : Frame) (src : PSource), (pSends f src u).pReady = false := fun u f src => by
      simp [State.pReady, State.pMayChoose, pSends]
    unfold pChooses
    rw [if_pos may]
    split
    · exact ⟨_, _, _, _, rfl, fun _ => nofun, busy ..⟩
    · next quiet =>
      split
      · exact ⟨_, _, _, _, rfl, fun _ => nofun, busy ..⟩
      · exact ⟨_, _, _, _, rfl, fun _ => nofun, busy ..⟩
      · next injection sToP => simp [State.pReady, injection, sToP, quiet] at ready

/-- The S-port arbiter changes its transmitter and what it sends, and nothing is ready for it then. -/
theorem sChooses_effect : ∃ sTx notice pToS responses, sChooses s = { s with
      link.sTx := sTx, router.notice := notice, router.pToS := pToS, mgmt.responses := responses } ∧
    (sTx ≠ none ∨ sChooses s = s) ∧ (sChooses s).sReady = false := by
  cases ready : s.sReady with
  | false => exact ⟨_, _, _, _, sChooses_of_not_ready ready, .inr (sChooses_of_not_ready ready),
      by rw [sChooses_of_not_ready ready]; exact ready⟩
  | true =>
    obtain ⟨may, some⟩ := (Bool.and_eq_true _ _).mp ready
    have busy : ∀ (u : State) (f : Frame) (m : ResponseMark), (sSends f m u).sReady = false := fun u f m => by
      simp [State.sReady, State.sMayChoose, sSends]
    unfold sChooses
    rw [if_pos may]
    split
    · exact ⟨_, _, _, _, rfl, .inl nofun, busy ..⟩
    · next responses =>
      rw [responses] at some
      split
      · next only => simp [only] at some
      · unfold sChoosesOther
        split
        · exact ⟨_, _, _, _, rfl, .inl nofun, busy ..⟩
        · exact ⟨_, _, _, _, rfl, .inl nofun, busy ..⟩
        · next notice pToS => simp [notice, pToS] at some

/-- After a taking up, a write is in progress or none waits. -/
theorem takeUp_writes (p : PlanStore) :
    (p.takeUp.writing.isNone && !(p.takeUp.recordWrites.isEmpty && p.takeUp.otherWrites.isEmpty)) = false := by
  unfold PlanStore.takeUp
  split
  · rfl
  · split <;> rfl
  · next records others => simp [records, others]

/-- The write queue changes the plan store alone, and no write waits for its taking up then. -/
theorem takeUpFollows_effect (running : s.isRunning = true) : ∃ store, takeUpFollows s = { s with store := store } ∧
    (takeUpFollows s).writeWaits = false := by
  unfold takeUpFollows
  cases due : s.writeWaits with
  | false =>
    rw [Bool.and_false, if_neg (by decide)]
    exact ⟨s.store, rfl, due⟩
  | true =>
    rw [running]
    refine ⟨_, rfl, ?_⟩
    exact takeUp_writes s.store

end Changes

end Sys2Proof.Machine
end

section
/-! SUPPORT. The follow-ups taken in their order: what is due no more after each, and the steps of an empty queue that take them one by one (log 3). -/

namespace Sys2Proof.Machine

/-! ### What is due no more -/

/-- In service, and no commanded reset is due. -/
structure State.Serving (s : State) : Prop where
  running : s.isRunning = true
  reset : s.mgmt.cmdReset ≠ .due

/-- And no activation. -/
structure State.Activated (s : State) : Prop extends s.Serving where
  activation : s.activationDue = false

/-- And no reset of the S-port. -/
structure State.SCleared (s : State) : Prop extends s.Activated where
  sReset : s.sResetDue = false

/-- And none of the P-port. -/
structure State.PortsCleared (s : State) : Prop extends s.SCleared where
  pReset : s.pResetDue = false

/-- And no held response joins. -/
structure State.Joined (s : State) : Prop extends s.PortsCleared where
  held : s.heldJoins = false

/-- And nothing is ready for the P-port. -/
structure State.PChosen (s : State) : Prop extends s.Joined where
  pReady : s.pReady = false

/-- And nothing is ready for the S-port. -/
structure State.SChosen (s : State) : Prop extends s.PChosen where
  sReady : s.sReady = false

theorem nothingFollows_iff {s : State} : s.nothingFollows = true ↔ s.mgmt.cmdReset ≠ .due ∧ s.activationDue = false ∧
    s.sResetDue = false ∧ s.pResetDue = false ∧ s.heldJoins = false ∧ s.pReady = false ∧ s.sReady = false ∧
    s.writeWaits = false := by
  simp only [State.nothingFollows, State.followUps, List.all_cons, List.all_nil, ifDue_isNone, Bool.and_eq_true,
    Bool.not_eq_true', beq_eq_false_iff_ne, and_true]

/-! ### After each follow-up -/

section Stages
variable {s : State}

theorem activated_activationFollows (h : s.Serving) : (activationFollows s).Activated := by
  obtain ⟨-, mgmt, phase, due⟩ := activationFollows_effect s h.running
  refine ⟨⟨?_, by rw [mgmt]; exact h.reset⟩, due⟩
  unfold State.isRunning
  rw [phase]
  exact h.running

theorem sCleared_sResetFollows (h : s.Activated) : (sResetFollows s).SCleared := by
  obtain ⟨link, router, mgmt, e, same, due⟩ := sResetFollows_effect s h.running
  rw [e] at due ⊢
  exact ⟨⟨⟨h.running, fun e => h.reset (same.symm.trans e)⟩, h.activation⟩, due⟩

theorem portsCleared_pResetFollows (h : s.SCleared) : (pResetFollows s).PortsCleared := by
  obtain ⟨link, router, e, same, due⟩ := pResetFollows_effect s h.running
  have sReset := h.sReset
  rw [e] at due ⊢
  refine ⟨⟨⟨⟨h.running, h.reset⟩, h.activation⟩, ?_⟩, due⟩
  unfold State.sResetDue at sReset ⊢
  rw [← sReset, ← same]

theorem joined_heldFollow (h : s.PortsCleared) : (heldFollow s).Joined := by
  obtain ⟨responses, held, e, full⟩ := heldFollow_effect s h.running
  rw [e]
  exact ⟨⟨⟨⟨⟨h.running, h.reset⟩, h.activation⟩, h.sReset⟩, h.pReset⟩, (heldJoins_eq_false _).mpr full⟩

theorem pChosen_pChooses (h : s.Joined) : (pChooses s).PChosen := by
  obtain ⟨pTx, tripPending, injection, sToP, e, busy, ready⟩ := pChooses_effect s
  have pReset := h.pReset
  rw [e] at ready ⊢
  refine ⟨⟨⟨⟨⟨⟨h.running, h.reset⟩, h.activation⟩, h.sReset⟩, ?_⟩, h.held⟩, ready⟩
  unfold State.pResetDue at pReset ⊢
  rw [Bool.and_eq_false_iff] at pReset ⊢
  exact pReset.imp_right fun some => Option.isNone_eq_false_iff.mpr
    (Option.isSome_iff_ne_none.mpr (busy (Option.isSome_iff_ne_none.mp (Option.isNone_eq_false_iff.mp some))))

/-- The S-port arbiter's choice may free a place for a held response; what joins then finds the transmitter busy. -/
theorem sChosen_sChooses (h : s.PChosen) : (sChooses s).PortsCleared ∧ (heldFollow (sChooses s)).SChosen := by
  obtain ⟨sTx, notice, pToS, responses, e, busy, ready⟩ := sChooses_effect s
  have cleared : (sChooses s).PortsCleared := by
    rw [e]
    exact ⟨⟨⟨⟨h.running, h.reset⟩, h.activation⟩, h.sReset⟩, h.pReset⟩
  refine ⟨cleared, ?_⟩
  rcases busy with busy | idle
  · obtain ⟨responses', held, e', full⟩ := heldFollow_effect (sChooses s) cleared.running
    have sends : (heldFollow (sChooses s)).sReady = false := by
      rw [e', e]
      cases sTx with
      | none => exact absurd rfl busy
      | some x => simp [State.sReady, State.sMayChoose]
    have joined := joined_heldFollow cleared
    have pReady : (heldFollow (sChooses s)).pReady = false := by
      rw [e', e]
      exact h.pReady
    exact ⟨⟨joined, pReady⟩, sends⟩
  · rw [idle] at ready ⊢
    rw [heldFollow_of_none_joins h.held]
    exact ⟨h, ready⟩

theorem nothingFollows_takeUpFollows (h : s.SChosen) : (takeUpFollows s).nothingFollows = true := by
  obtain ⟨store, e, waits⟩ := takeUpFollows_effect s h.running
  rw [e] at waits ⊢
  exact nothingFollows_iff.mpr ⟨h.reset, h.activation, h.sReset, h.pReset, h.held, h.pReady, h.sReady, waits⟩

end Stages

/-! ### All of them -/

section All
variable {s : State}

/-- A commanded reset ends the service: nothing follows it. -/
theorem caughtUp_of_reset (running : s.isRunning = true) (due : s.mgmt.cmdReset = .due) :
    s.caughtUp = commandedResetFollows s ∧ s.caughtUp.isRunning = false := by
  have stopped : (commandedResetFollows s).isRunning = false := commandedReset_stops s _ _ running due
  have e : s.caughtUp = commandedResetFollows s := by
    rw [caughtUp_eq]
    generalize commandedResetFollows s = u at stopped
    have still := followUpSteps_of_not_running stopped
    simp only [followUpSteps, List.mem_cons, List.not_mem_nil, or_false, forall_eq_or_imp, forall_eq] at still
    obtain ⟨-, h2, h3, h4, h5, h6, h7, -, h9⟩ := still
    rw [h2, h3, h4, h5, h6, h7, h5, h9]
  exact ⟨e, e ▸ stopped⟩

/-- In service without such a reset the other follow-ups are taken one after another. -/
theorem caughtUp_of_serving (h : s.Serving) : s.caughtUp = takeUpFollows (heldFollow (sChooses (pChooses (heldFollow
    (pResetFollows (sResetFollows (activationFollows s))))))) := by
  rw [caughtUp_eq, commandedResetFollows_of_not_due h.reset]

theorem serving_or (running : s.isRunning = true) : s.mgmt.cmdReset = .due ∨ s.Serving :=
  (em (s.mgmt.cmdReset = .due)).imp_right fun reset => ⟨running, reset⟩

theorem sChosen_of_serving (h : s.Serving) : (heldFollow (sChooses (pChooses (heldFollow
    (pResetFollows (sResetFollows (activationFollows s))))))).SChosen :=
  (sChosen_sChooses (pChosen_pChooses (joined_heldFollow (portsCleared_pResetFollows (sCleared_sResetFollows
    (activated_activationFollows h)))))).2

/-- In service, nothing follows once every follow-up has been taken. -/
theorem nothingFollows_caughtUp (running : s.caughtUp.isRunning = true) : s.caughtUp.nothingFollows = true := by
  cases on : s.isRunning with
  | false =>
    rw [caughtUp_of_not_running on] at running
    rw [on] at running
    cases running
  | true =>
    rcases serving_or on with due | serving
    · rw [(caughtUp_of_reset on due).2] at running
      cases running
    · rw [caughtUp_of_serving serving]
      exact nothingFollows_takeUpFollows (sChosen_of_serving serving)

theorem caughtUp_caughtUp (s : State) : s.caughtUp.caughtUp = s.caughtUp := by
  cases on : s.caughtUp.isRunning with
  | false => exact caughtUp_of_not_running on
  | true => exact caughtUp_of_nothingFollows (nothingFollows_caughtUp on)

/-- A command that is an event of its own does not care how much of what it finds taken has been taken. -/
theorem event_caughtUp (f : State → State) (s : State) : event f s = event f s.caughtUp := by
  rw [event_eq, event_eq, caughtUp_caughtUp]

/-- Every row but those that stand for what follows an event is an event of its own. -/
theorem exec_is_event {c : Instr} (h : followsEvent c = false) : ∃ f, ∀ s, exec c s = event f s := by
  cases c with
  | pSampleFrame | pWarningFrame | pReplyFrame | pStatusFrame | pOtherFrame => exact ⟨frameArrives .p _, exec_of_pFrameOf rfl⟩
  | sCommandFrame | sOtherFrame => exact ⟨frameArrives .s _, exec_of_sFrameOf rfl⟩
  | readStatus | readChannel | readZone | readNode | readStep | readOutstanding | readWarnings | readTripRecord
  | readCounters | readShadow | writeShadow | commit | setProtection | reloadProtection | authorizeRestart
  | abortRestart | forceTrip | clearTriggers | isolateZone | restoreZone | setTime | clearCounters | clearCause
  | resetPortS | resetPortP | resetPart => exact ⟨requestArrives _ _ _, exec_of_requestOf rfl⟩
  | commandedReset | deferredActivation | sPortResetEffect | pPortResetEffect | heldResponseJoin | pArbiterChoice
  | sArbiterChoice | nvWriteTakeUp => cases h
  | powerOnReset | resetPinAssert | resetPinRelease | startUpLoadComplete | lossOfPower | receiveCharacter
  | receiveGapExpiry | unknownRequest | pTransmissionEnd | sTransmissionEnd | staleTimerExpiry | onsetUntilExpiry
  | strongUntilExpiry | tripInDebouncedChange | utilityOkDebouncedChange | feedDwellExpiry | warningExpiry
  | quietTimerExpiry | dwellExpiry | replyDeadlineExpiry | readyTimeoutExpiry | settleExpiry | siteTimeSecond
  | rawInputLevelChange | recordWriteEnd | blockProgramEnd | protectionWriteEnd =>
    dsimp only [exec, execPowerOnReset, execResetPinAssert, execResetPinRelease, execStartUpLoadComplete, execLossOfPower,
      execReceiveCharacter, execReceiveGapExpiry, execUnknownRequest, execPTransmissionEnd, execSTransmissionEnd,
      execStaleTimerExpiry, execOnsetUntilExpiry, execStrongUntilExpiry, execTripInDebouncedChange,
      execUtilityOkDebouncedChange, execFeedDwellExpiry, execWarningExpiry, execQuietTimerExpiry, execDwellExpiry,
      execReplyDeadlineExpiry, execReadyTimeoutExpiry, execSettleExpiry, execSiteTimeSecond, execRawInputLevelChange,
      execRecordWriteEnd, execBlockProgramEnd, execProtectionWriteEnd]
    exact ⟨_, fun _ => rfl⟩

end All

end Sys2Proof.Machine
end

section
/-! PROOF. O40: port resets and held responses as they take effect, and what follows an event taken before the next. -/

namespace Sys2Proof.Machine

/-! ### The queue of commands -/

section Pending
variable (s : State)

theorem pending_followUp {f : State → State} (hf : f ∈ followUpSteps) : (f s).pending = s.pending := by
  simp only [followUpSteps, List.mem_cons, List.not_mem_nil, or_false] at hf
  rcases hf with rfl | rfl | rfl | rfl | rfl | rfl | rfl | rfl | rfl
  · unfold commandedResetFollows commandedReset
    split <;> rfl
  · unfold activationFollows
    obtain ⟨-, -, -, -, -, pending⟩ := link_of_activate s
    split
    · exact pending
    · rfl
  · unfold sResetFollows sResetTakesEffect
    split
    · split <;> rfl
    · rfl
  · unfold pResetFollows pResetTakesEffect
    split
    · split <;> rfl
    · rfl
  · unfold heldFollow
    split <;> rfl
  · obtain ⟨_, _, _, _, e, -⟩ := pChooses_effect s
    rw [e]
  · obtain ⟨_, _, _, _, e, -⟩ := sChooses_effect s
    rw [e]
  · unfold heldFollow
    split <;> rfl
  · unfold takeUpFollows
    split <;> rfl

theorem pending_caughtUpTo (k : Nat) : (s.caughtUpTo k).pending = s.pending := by
  have each : ∀ (fs : List (State → State)), (∀ f ∈ fs, f ∈ followUpSteps) → ∀ u : State,
      (fs.foldl (fun s f => f s) u).pending = u.pending := by
    intro fs
    induction fs with
    | nil => exact fun _ _ => rfl
    | cons f fs ih =>
      intro hfs u
      rw [List.foldl_cons, ih (fun g hg => hfs g (List.mem_cons_of_mem f hg)), pending_followUp u (hfs f List.mem_cons_self)]
  exact each _ (fun f hf => List.mem_of_mem_take hf) s

end Pending

/-! ### Steps on an empty queue -/

/-- Steps of the empty queue lead from `s` to `t`, which has an empty queue too. -/
def State.Reaches (s t : State) : Prop := t.pending = [] ∧ ∃ n, steps n s = .next t

section Reaches
variable {s t u : State}

theorem reaches_refl (h : s.pending = []) : s.Reaches s := ⟨h, 0, rfl⟩

theorem State.Reaches.trans (h : s.Reaches t) (k : t.Reaches u) : s.Reaches u := by
  obtain ⟨-, n, hn⟩ := h
  obtain ⟨empty, m, hm⟩ := k
  refine ⟨empty, n + m, ?_⟩
  induction n generalizing s with
  | zero =>
    cases hn
    rw [Nat.zero_add]
    exact hm
  | succ n ih =>
    rw [Nat.succ_add]
    unfold steps at hn ⊢
    cases first : step s with
    | next v =>
      rw [first] at hn
      exact ih hn
    | fault e => rw [first] at hn; cases hn
    | refused e => rw [first] at hn; cases hn

/-- A row that stands for what follows an event draws no free value for its being taken. -/
theorem afterDraw_of_follows {c : Instr} (follows : followsEvent c = true) (due : s.nextDue = some c) : s.afterDraw = s := by
  unfold State.afterDraw
  rw [due]
  split
  · next e =>
    cases e
    cases follows
  · rfl

/-- One event of the part's own. -/
theorem reaches_event (empty : s.pending = []) {c : Instr} (follows : followsEvent c = true) (due : s.nextDue = some c)
    (does : exec c s = .next t) (still : t.pending = s.pending) : s.Reaches t := by
  have draws := afterDraw_of_follows follows due
  refine ⟨still.trans empty, 1, ?_⟩
  have first : step s = .next t := by
    unfold step
    rw [empty]
    show idle s = _
    unfold idle
    rw [due, draws]
    exact does
  unfold steps
  rw [first]
  rfl

end Reaches

/-! ### Each follow-up as steps of the empty queue -/

section Each
variable {s : State}

/-- In service the first follow-up that is due comes before any timer. -/
theorem nextDue_of_running (running : s.isRunning = true) : s.nextDue = (s.followUps ++ s.timeouts).findSome? id := by
  unfold State.nextDue
  rw [phase_of_running running]

/-- A row that takes a follow-up `f` takes it as one step where it is due, after those before it, which are not. -/
theorem reaches_row {c : Instr} {k : Nat} {f : State → State} {due : Bool} (empty : s.pending = []) (hf : f ∈ followUpSteps)
    (follows : followsEvent c = true) (does : exec c s = .next (f (s.caughtUpTo k))) (caught : s.caughtUpTo k = s)
    (idle : due = false → f s = s) (next : due = true → s.nextDue = some c) : s.Reaches (f s) := by
  cases due with
  | false =>
    rw [idle rfl]
    exact reaches_refl empty
  | true =>
    rw [caught] at does
    exact reaches_event empty follows (next rfl) does (pending_followUp s hf)

theorem reaches_commandedResetFollows (empty : s.pending = []) (running : s.isRunning = true) :
    s.Reaches (commandedResetFollows s) := by
  refine reaches_row (k := 0) (c := .commandedReset s.mgmt.straps.addr s.mgmt.straps.rate) (due := s.mgmt.cmdReset == .due) empty
    (by simp [followUpSteps]) rfl rfl rfl (fun off => commandedResetFollows_of_not_due (beq_eq_false_iff_ne.mp off)) fun due => ?_
  rw [nextDue_of_running running]
  simp [State.followUps, ifDue, due]

theorem State.Serving.caught (h : s.Serving) : s.caughtUpTo 1 = s := commandedResetFollows_of_not_due h.reset

theorem reaches_activationFollows (empty : s.pending = []) (h : s.Serving) : s.Reaches (activationFollows s) := by
  refine reaches_row (c := .deferredActivation) (due := s.activationDue) empty (by simp [followUpSteps]) rfl rfl h.caught
    activationFollows_of_not_due fun due => ?_
  rw [nextDue_of_running h.running]
  simp [State.followUps, ifDue, due, h.reset]

theorem State.Activated.caught (h : s.Activated) : s.caughtUpTo 2 = s :=
  (congrArg activationFollows h.toServing.caught).trans (activationFollows_of_not_due h.activation)

theorem reaches_sResetFollows (empty : s.pending = []) (h : s.Activated) : s.Reaches (sResetFollows s) := by
  refine reaches_row (c := .sPortResetEffect) (due := s.sResetDue) empty (by simp [followUpSteps]) rfl rfl h.caught
    sResetFollows_of_not_due fun due => ?_
  rw [nextDue_of_running h.running]
  simp [State.followUps, ifDue, due, h.reset, h.activation]

theorem State.SCleared.caught (h : s.SCleared) : s.caughtUpTo 3 = s :=
  (congrArg sResetFollows h.toActivated.caught).trans (sResetFollows_of_not_due h.sReset)

theorem reaches_pResetFollows (empty : s.pending = []) (h : s.SCleared) : s.Reaches (pResetFollows s) := by
  refine reaches_row (c := .pPortResetEffect) (due := s.pResetDue) empty (by simp [followUpSteps]) rfl rfl h.caught
    pResetFollows_of_not_due fun due => ?_
  rw [nextDue_of_running h.running]
  simp [State.followUps, ifDue, due, h.reset, h.activation, h.sReset]

theorem State.PortsCleared.caught (h : s.PortsCleared) : s.caughtUpTo 4 = s :=
  (congrArg pResetFollows h.toSCleared.caught).trans (pResetFollows_of_not_due h.pReset)

/-- One held response joins (R184). -/
theorem heldJoin_of_place (running : s.isRunning = true) {r : Response} {rest : List Response} (held : s.mgmt.held = r :: rest)
    (place : s.mgmt.responses.length < 4) :
    heldJoin s = { s with mgmt.held := rest, mgmt.responses := s.mgmt.responses ++ [r] } := by
  unfold heldJoin heldResponseJoins
  rw [if_pos running, held]
  exact if_pos place

/-- Held responses join together as they do one by one. -/
theorem heldFollow_joined (running : s.isRunning = true) {r : Response} {rest : List Response} (held : s.mgmt.held = r :: rest)
    (place : s.mgmt.responses.length < 4) :
    heldFollow { s with mgmt.held := rest, mgmt.responses := s.mgmt.responses ++ [r] } = heldFollow s := by
  obtain ⟨places, free⟩ : ∃ places, 4 - s.mgmt.responses.length = places + 1 := ⟨_, (Nat.succ_pred_eq_of_pos (by omega)).symm⟩
  have fewer : 4 - (s.mgmt.responses ++ [r]).length = places := by
    rw [List.length_append, List.length_singleton]
    omega
  have running' : ({ s with mgmt.held := rest, mgmt.responses := s.mgmt.responses ++ [r] } : State).isRunning = true := running
  unfold heldFollow
  rw [if_pos running, if_pos running']
  unfold heldResponsesJoin responsePlaces
  dsimp only
  rw [fewer, free, held, List.take_succ_cons, List.drop_succ_cons, List.append_assoc, List.singleton_append]

theorem reaches_heldFollow (empty : s.pending = []) (h : s.PortsCleared) : s.Reaches (heldFollow s) := by
  induction held : s.mgmt.held generalizing s with
  | nil =>
    rw [heldFollow_of_none_joins ((heldJoins_eq_false s).mpr (.inl held))]
    exact reaches_refl empty
  | cons r rest ih =>
    by_cases place : s.mgmt.responses.length < 4
    · have joins : s.heldJoins = true := by simp [State.heldJoins, responsePlaces, held, place]
      have one : s.Reaches { s with mgmt.held := rest, mgmt.responses := s.mgmt.responses ++ [r] } := by
        refine reaches_event (c := .heldResponseJoin) empty rfl ?_ ?_ rfl
        · rw [nextDue_of_running h.running]
          simp [State.followUps, ifDue, joins, h.reset, h.activation, h.sReset, h.pReset]
        · rw [← heldJoin_of_place h.running held place]
          exact congrArg (fun u => Host.Outcome.next (heldJoin u)) h.caught
      have cleared : ({ s with mgmt.held := rest, mgmt.responses := s.mgmt.responses ++ [r] } : State).PortsCleared :=
        ⟨⟨⟨⟨h.running, h.reset⟩, h.activation⟩, h.sReset⟩, h.pReset⟩
      rw [← heldFollow_joined h.running held place]
      exact one.trans (ih empty cleared rfl)
    · rw [heldFollow_of_none_joins ((heldJoins_eq_false s).mpr (.inr (not_lt.mp place)))]
      exact reaches_refl empty

theorem State.Joined.caught (h : s.Joined) : s.caughtUpTo 5 = s :=
  (congrArg heldFollow h.toPortsCleared.caught).trans (heldFollow_of_none_joins h.held)

theorem reaches_pChooses (empty : s.pending = []) (h : s.Joined) : s.Reaches (pChooses s) := by
  refine reaches_row (c := .pArbiterChoice) (due := s.pReady) empty (by simp [followUpSteps]) rfl rfl h.caught
    pChooses_of_not_ready fun due => ?_
  rw [nextDue_of_running h.running]
  simp [State.followUps, ifDue, due, h.reset, h.activation, h.sReset, h.pReset, h.held]

theorem State.PChosen.caught (h : s.PChosen) : s.caughtUpTo 6 = s := by
  have last : s.caughtUpTo 6 = pChooses (s.caughtUpTo 5) := by
    simp only [State.caughtUpTo, followUpSteps, List.take, List.foldl]
  rw [last, h.toJoined.caught, pChooses_of_not_ready h.pReady]

theorem reaches_sChooses (empty : s.pending = []) (h : s.PChosen) : s.Reaches (sChooses s) := by
  refine reaches_row (c := .sArbiterChoice) (due := s.sReady) empty (by simp [followUpSteps]) rfl rfl h.caught
    sChooses_of_not_ready fun due => ?_
  rw [nextDue_of_running h.running]
  simp [State.followUps, ifDue, due, h.reset, h.activation, h.sReset, h.pReset, h.held, h.pReady]

theorem State.SChosen.caught (h : s.SChosen) : s.caughtUpTo 8 = s := by
  have last : s.caughtUpTo 8 = heldFollow (sChooses (s.caughtUpTo 6)) := by
    simp only [State.caughtUpTo, followUpSteps, List.take, List.foldl]
  rw [last, h.toPChosen.caught, sChooses_of_not_ready h.sReady, heldFollow_of_none_joins h.held]

theorem reaches_takeUpFollows (empty : s.pending = []) (h : s.SChosen) : s.Reaches (takeUpFollows s) := by
  refine reaches_row (c := .nvWriteTakeUp) (due := s.writeWaits) empty (by simp [followUpSteps]) rfl rfl h.caught
    takeUpFollows_of_not_due fun due => ?_
  rw [nextDue_of_running h.running]
  simp [State.followUps, ifDue, due, h.reset, h.activation, h.sReset, h.pReset, h.held, h.pReady, h.sReady]

end Each

/-- Steps of an empty queue take everything that follows (log 3). -/
theorem reaches_caughtUp {s : State} (empty : s.pending = []) : s.Reaches s.caughtUp := by
  cases on : s.isRunning with
  | false =>
    rw [caughtUp_of_not_running on]
    exact reaches_refl empty
  | true =>
    rcases serving_or on with due | serving
    · rw [(caughtUp_of_reset on due).1]
      exact reaches_commandedResetFollows empty on
    · have activated := activated_activationFollows serving
      have sCleared := sCleared_sResetFollows activated
      have portsCleared := portsCleared_pResetFollows sCleared
      have joined := joined_heldFollow portsCleared
      have pChosen := pChosen_pChooses joined
      obtain ⟨cleared, sChosen⟩ := sChosen_sChooses pChosen
      rw [caughtUp_of_serving serving]
      have h1 := reaches_activationFollows empty serving
      have h2 := h1.trans (reaches_sResetFollows h1.1 activated)
      have h3 := h2.trans (reaches_pResetFollows h2.1 sCleared)
      have h4 := h3.trans (reaches_heldFollow h3.1 portsCleared)
      have h5 := h4.trans (reaches_pChooses h4.1 joined)
      have h6 := h5.trans (reaches_sChooses h5.1 pChosen)
      have h7 := h6.trans (reaches_heldFollow h6.1 cleared)
      exact h7.trans (reaches_takeUpFollows h7.1 sChosen)

/-- Settles O40, by the rows' own definitions and by the stages of what follows. -/
theorem portResetsAndHeldResponsesTakeEffect : Obligations.PortResetsAndHeldResponsesTakeEffect := by
  unfold Obligations.PortResetsAndHeldResponsesTakeEffect
  refine ⟨fun s₀ => ?_, fun s₀ => ?_, fun s₀ => ?_, fun s => ⟨pending_caughtUpTo s 9, ?_, nothingFollows_caughtUp, fun c h => ?_,
    fun empty => (reaches_caughtUp empty).2⟩⟩
  · have row : exec .sPortResetEffect s₀ = .next (sResetFollows (s₀.caughtUpTo 2)) := rfl
    rw [row]
    generalize s₀.caughtUpTo 2 = s
    dsimp only
    intro running
    refine ⟨fun due none => ?_, fun pending => ?_⟩
    · have isDue : s.sResetDue = true := by simp [State.sResetDue, due, none]
      unfold sResetFollows sResetTakesEffect
      rw [if_pos running, if_pos isDue]
    · rw [sResetFollows_of_not_due (by simp [State.sResetDue, pending])]
  · have row : exec .pPortResetEffect s₀ = .next (pResetFollows (s₀.caughtUpTo 3)) := rfl
    rw [row]
    generalize s₀.caughtUpTo 3 = s
    dsimp only
    intro running due idle
    have isDue : s.pResetDue = true := by simp [State.pResetDue, due, idle]
    unfold pResetFollows pResetTakesEffect
    rw [if_pos running, if_pos isDue]
  · have row : exec .heldResponseJoin s₀ = .next (heldJoin (s₀.caughtUpTo 4)) := rfl
    rw [row]
    generalize s₀.caughtUpTo 4 = s
    dsimp only
    intro running r rest held place
    rw [heldJoin_of_place running held place]
  · rintro (off | still)
    · exact caughtUp_of_not_running off
    · exact caughtUp_of_nothingFollows still
  · obtain ⟨f, does⟩ := exec_is_event h
    rw [does, does, event_caughtUp]

end Sys2Proof.Machine
end

section
/-! PROOF. O55: BLOCK_PROGRAM_END. -/

namespace Sys2Proof.Machine

/-! ### The block written (R134, R141) -/

section Written
variable {b : Fin 4} {c : CommitRun} {s : State}

/-- The event of a block's write whose time is over. -/
theorem exec_blockProgramEnd {s₀ : State} (passes : Bool) (running : s₀.caughtUp.isRunning = true)
    (writing : s₀.caughtUp.store.writing = some ⟨.other (.block b), 0⟩) :
    exec (.blockProgramEnd passes) s₀ = .next (blockWritten b passes s₀.caughtUp) := by
  have ended : s₀.caughtUp.writeEnded = some (.other (.block b)) := by
    unfold State.writeEnded
    rw [writing]
    rfl
  have row : exec (.blockProgramEnd passes) s₀ = execBlockProgramEnd passes s₀ := rfl
  rw [row]
  unfold execBlockProgramEnd
  rw [event_eq, running, ended]

/-- `s` with the block written: no write in progress, the block's condition and content by the read-back. -/
def State.blockStored (s : State) (b : Fin 4) (c : CommitRun) (passes : Bool) : State :=
  { s with
    store.writing := none
    store.cond := s.store.cond.set b (if passes then .valid else .invalid)
    nv := s.nv.program b c.content passes }

theorem blockWritten_fails (commit : s.store.commit = some c) : blockWritten b false s = endCommit c .verifyFailed (u8 b.val)
    { s.blockStored b c false with store.otherWrites := s.store.otherWrites.filter fun w => !w.isBlock } := by
  unfold blockWritten State.programmed State.blockStored
  dsimp only
  rw [commit]
  rfl

theorem blockWritten_more (commit : s.store.commit = some c) (more : s.store.otherWrites.any OtherWrite.isBlock = true) :
    blockWritten b true s = s.blockStored b c true := by
  unfold blockWritten State.programmed State.blockStored
  dsimp only
  rw [commit, more]
  rfl

theorem blockWritten_last (commit : s.store.commit = some c) (last : s.store.otherWrites.any OtherWrite.isBlock = false) :
    blockWritten b true s = committed c (s.blockStored b c true) := by
  unfold blockWritten State.programmed State.blockStored
  dsimp only
  rw [commit, last]
  rfl

end Written

/-! ### The commit's end (R141, R184) -/

section Commit
variable {s : State}

/-- Where every held response has joined that can, a response joins the queue where it has a place. -/
theorem joinOrHold_eq (joined : s.heldJoins = false) (r : Response) : joinOrHold r s = { s with
    mgmt.responses := if s.mgmt.responses.length < 4 then s.mgmt.responses ++ [r] else s.mgmt.responses
    mgmt.held := if s.mgmt.responses.length < 4 then s.mgmt.held else s.mgmt.held ++ [r] } := by
  unfold joinOrHold State.placeFree responsePlaces joinResponse
  by_cases place : s.mgmt.responses.length < 4
  · have none : s.mgmt.held = [] := ((heldJoins_eq_false s).mp joined).resolve_right (not_le.mpr place)
    rw [if_pos place, if_pos place, if_pos (by simp [none, place])]
  · rw [if_neg place, if_neg place, if_neg (by simp [place])]

/-- `s` with its commit ended by a response. -/
def State.commitEnded (s : State) (r : Response) : State :=
  { s with
    store.commit := none
    mgmt.responses := if s.mgmt.responses.length < 4 then s.mgmt.responses ++ [r] else s.mgmt.responses
    mgmt.held := if s.mgmt.responses.length < 4 then s.mgmt.held else s.mgmt.held ++ [r] }

theorem endCommit_eq (joined : s.heldJoins = false) (c : CommitRun) (st : Status) (data : List Byte) :
    endCommit c st data s = s.commitEnded ⟨c.src, c.tag, 0x12, st, data, 0, .plain⟩ :=
  joinOrHold_eq (s := { s with store.commit := none }) joined _

/-- `s` with a commit ended by COMMITTED, its blocks awaiting activation. -/
def State.committedWith (s : State) (c : CommitRun) : State :=
  { s.commitEnded ⟨c.src, c.tag, 0x12, .committed, [], 0, .plain⟩ with
    store.awaiting := .ofFn fun k => s.store.awaiting[k] || c.named[k] }

theorem committed_eq (joined : s.heldJoins = false) (c : CommitRun) : committed c s =
    if s.atRest then activate (s.committedWith c) else { s.committedWith c with site.activationPending := true } := by
  unfold committed
  dsimp only
  rw [endCommit_eq joined]
  rfl

/-- At rest the activation leaves the commit's end as it is, and brings its blocks into use (R142). -/
theorem activate_committedWith (c : CommitRun) (s : State) : let u := s.committedWith c
    let t := activate u
    t.mgmt = u.mgmt ∧ t.store.commit = none ∧ t.store.cond = s.store.cond ∧ t.site.activationPending = false ∧
    t.store.awaiting = .replicate 4 false ∧
    (∀ p : PlanId, c.named[p.block] = true → t.store.work.plan p = s.nv.blocks.plan p) ∧
    (c.named[(3 : Fin 4)] = true → t.store.work.site = s.nv.blocks.site) := by
  obtain ⟨-, mgmt, -, commit, cond, -⟩ := link_of_activate (s.committedWith c)
  obtain ⟨work, -, awaiting, -, -, -, pending⟩ := store_of_activate (s.committedWith c)
  have waits (k : Fin 4) (named : c.named[k] = true) : (s.committedWith c).store.awaiting[k] = true := by
    show (Vector.ofFn fun k => s.store.awaiting[k] || c.named[k])[k] = true
    rw [Fin.getElem_fin, Vector.getElem_ofFn, named, Bool.or_true]
  have blocks : (s.committedWith c).nv.blocks = s.nv.blocks := rfl
  rw [work_reloadAwaiting, blocks] at work
  refine ⟨mgmt, commit, cond, pending, awaiting, fun p named => ?_, fun named => ?_⟩
  · rw [work, plan_copied, if_pos (waits _ named)]
  · rw [work, site_copied, if_pos (waits _ named)]

end Commit

/-- Settles O55, by the read-back and by whether the block is the commit's last. -/
theorem blockProgramEndEndsTheCommit : Obligations.BlockProgramEndEndsTheCommit := by
  unfold Obligations.BlockProgramEndEndsTheCommit
  intro b c s₀
  have does := exec_blockProgramEnd (b := b) (s₀ := s₀)
  have caught := nothingFollows_caughtUp (s := s₀)
  generalize s₀.caughtUp = s at does caught
  dsimp only
  intro running writing commit
  obtain ⟨-, -, -, -, joined, -⟩ := nothingFollows_iff.mp (caught running)
  have check := s.nv.program_passes b c.content
  refine ⟨?_, check false, check true, fun more => ?_, fun last => ⟨fun busy => ?_, fun rest => ?_⟩⟩
  · rw [does false running writing, blockWritten_fails commit, endCommit_eq]
    · rfl
    · exact joined
  · rw [does true running writing, blockWritten_more commit more]
    rfl
  · have goes : (s.blockStored b c true).atRest = false := busy
    rw [does true running writing, blockWritten_last commit last, committed_eq (s := s.blockStored b c true) joined, goes]
    rfl
  · have goes : (s.blockStored b c true).atRest = true := rest
    obtain ⟨mgmt, ended, cond, pending, awaiting, plans, site⟩ := activate_committedWith c (s.blockStored b c true)
    have valid : (s.blockStored b c true).store.cond[b] = .valid := Vector.getElem_set_self b.isLt
    rw [does true running writing, blockWritten_last commit last, committed_eq (s := s.blockStored b c true) joined, goes,
      if_pos rfl]
    refine ⟨rfl, congrArg Mgmt.responses mgmt, congrArg Mgmt.held mgmt, ended, ?_, pending, fun k => ?_, plans, site⟩
    · exact (congrArg (fun v : Vector BlockCond 4 => v[b]) cond).trans valid
    · exact (congrArg (fun v : Vector Bool 4 => v[k]) awaiting).trans (by simp)

end Sys2Proof.Machine
end

section
/-! SUPPORT. The executor's records and entries one by one: a step's new record, the checks of R100, the tag of R114, and what
one ended transmission does (R121); with them DWELL_EXPIRY and REPLY_DEADLINE_EXPIRY settled. -/

namespace Sys2Proof.Machine

/-! ### One step's record (R94) -/

section StepRecord
variable (i : Fin 64) (s : State)

theorem step_setStep (r : Step) : (setStep i r s).runner.steps[i] = r := Vector.getElem_set_self i.isLt

theorem step_moveStep (st : Lifecycle) (timer : Option Nat) :
    (moveStep i st timer s).runner.steps[i] = ⟨st, s.now, timer, none⟩ :=
  step_setStep i s _

end StepRecord

/-! ### An executor's event -/

section Event
variable {i : Fin 64} {s : State}

/-- The event depends on what is done to the state it finds. -/
theorem runEvent_congr {f g : State → State × HandOver} (h : f s = g s) : runEvent f s = runEvent g s := by
  unfold runEvent
  rw [h]

theorem stepDue_of_expired {st : Lifecycle} (on : s.runner.run.status = .running)
    (waits : s.runner.steps[i].state = st) (timer : s.runner.steps[i].timer = some 0) : s.stepDue st i = true := by
  unfold State.stepDue State.stepAt
  rw [runIsOn_iff.mpr on, waits, timer]
  simp

end Event

/-! ### The checks at a dwell's expiry (R100, R101) -/

section Checks
variable {c : StepCfg} {s : State}

theorem needsFeed_iff : s.needsFeed c = true ↔
    c.action = .transfer ∨ c.action = .energize ∧ (s.classOf c.address).fallback = false := by
  simp [State.needsFeed]

theorem checkResult_of_mark (mark : c.action = .mark) : s.checkResult c = .done := if_pos mark

theorem checkResult_of_out (target : c.action ≠ .mark)
    (out : (s.nodeCfg c.address).present = false ∨ s.nodeIsolated c.address = true) : s.checkResult c = .skipped := by
  have skips : (!(s.nodeCfg c.address).present || s.nodeIsolated c.address) = true := by simpa using out
  unfold State.checkResult
  rw [if_neg target, if_pos skips]

/-- A target that takes part is judged by its reported state, and then by the feed. -/
theorem checkResult_of_in (target : c.action ≠ .mark) (present : (s.nodeCfg c.address).present = true)
    (member : s.nodeIsolated c.address = false) : s.checkResult c =
      if (s.nodeRt c.address).reported = c.action.awaited then .already
      else if s.needsFeed c = true ∧ s.trig.feedStable = false then .waitingFeed else .queued := by
  unfold State.checkResult
  rw [if_neg target, present, member]
  simp

/-- A dwell's expiry is the checks' result as the step's record, and the settling with the step where it has ended (R99). -/
theorem dwellExpired_eq (i : Fin 64) (s : State) : dwellExpired i s =
    settle (if (s.checkResult (s.stepCfg i)).terminal then [i] else [])
      { s with runner.steps := s.runner.steps.set i ⟨s.checkResult (s.stepCfg i), s.now, none, none⟩ } := by
  have record : (runChecks i s).stepAt i = ⟨s.checkResult (s.stepCfg i), s.now, none, none⟩ := step_moveStep i s _ none
  unfold dwellExpired
  dsimp only
  rw [record]
  rfl

end Checks

/-- Settles O47: the dwell's end is the checks and the settling, and the checks' result goes by the target. -/
theorem dwellExpiryRunsTheChecksInOrder : Obligations.DwellExpiryRunsTheChecksInOrder := by
  unfold Obligations.DwellExpiryRunsTheChecksInOrder
  intro i s₀ s running on waits timer c
  have due : s.stepDue .waitingDwell i = true := stepDue_of_expired on waits timer
  have performed : exec (.dwellExpiry i) s₀ = .next (runEvent (dwellExpired i) s) :=
    whenDue_of_due (due := fun s => s.stepDue .waitingDwell i) running due
  clear_value s
  refine ⟨?_, fixed_dwellExpired i s, step_moveStep i s _ none, checkResult_of_mark, needsFeed_iff, fun target =>
    ⟨checkResult_of_out target, fun present member => ⟨fun arrived => ?_, fun away => ?_⟩⟩⟩
  · rw [performed]
    exact congrArg Host.Outcome.next (runEvent_congr (dwellExpired_eq i s))
  · rw [checkResult_of_in target present member, if_pos arrived]
  · rw [checkResult_of_in target present member, if_neg away]

/-! ### The first free tag (R114) -/

section Tag

/-- The search passes tags in use only, and ends early at a free one only. -/
theorem firstFreeTag_spec (used : List Byte) (n : Nat) (t : Byte) : ∃ k ≤ n,
    firstFreeTag used n t = t + BitVec.ofNat 8 k ∧ (∀ j < k, t + BitVec.ofNat 8 j ∈ used) ∧
      (k < n → firstFreeTag used n t ∉ used) := by
  induction n generalizing t with
  | zero => exact ⟨0, le_rfl, (BitVec.add_zero t).symm, nofun, nofun⟩
  | succ n ih =>
    unfold firstFreeTag
    split
    · next held =>
      obtain ⟨k, le, found, passed, free⟩ := ih (t + 1)
      have next (j : Nat) : t + 1 + BitVec.ofNat 8 j = t + BitVec.ofNat 8 (j + 1) := by
        rw [BitVec.add_assoc, Nat.add_comm j, BitVec.ofNat_add]
        rfl
      refine ⟨k + 1, Nat.succ_le_succ le, found.trans (next k), fun j hj => ?_, fun lt => free (Nat.lt_of_succ_lt_succ lt)⟩
      cases j with
      | zero => exact (BitVec.add_zero t).symm ▸ List.contains_iff_mem.mp held
      | succ j => exact next j ▸ passed j (Nat.lt_of_succ_lt_succ hj)
    · next free =>
      exact ⟨0, Nat.zero_le _, (BitVec.add_zero t).symm, nofun, fun _ held => free (List.contains_iff_mem.mpr held)⟩

/-- A list that holds the 256 tags from one on has 256 places or more. -/
theorem length_of_all_tags {used : List Byte} {t : Byte} (all : ∀ j < 256, t + BitVec.ofNat 8 j ∈ used) :
    256 ≤ used.length := by
  have distinct : ((List.range 256).map fun j => t + BitVec.ofNat 8 j).Nodup := by
    refine List.Nodup.map_on (fun j hj k hk same => ?_) List.nodup_range
    rw [List.mem_range] at hj hk
    have eq : BitVec.ofNat 8 j = BitVec.ofNat 8 k := (BitVec.add_right_inj t).mp same
    simpa [Nat.mod_eq_of_lt hj, Nat.mod_eq_of_lt hk] using congrArg BitVec.toNat eq
  have within : ((List.range 256).map fun j => t + BitVec.ofNat 8 j) ⊆ used := by
    intro x hx
    obtain ⟨j, hj, rfl⟩ := List.mem_map.mp hx
    exact all j (List.mem_range.mp hj)
  simpa using (distinct.subperm within).length_le

/-- With at most 255 entries a tag is free, and the next one is the first of those. -/
theorem nextTag_spec {s : State} (few : s.runner.outstanding.length ≤ 255) : ∃ k : Nat, k ≤ 255 ∧
    s.nextTag = s.runner.tagCounter + BitVec.ofNat 8 k ∧ (∀ e ∈ s.runner.outstanding, e.tag ≠ s.nextTag) ∧
    ∀ j < k, ∃ e ∈ s.runner.outstanding, e.tag = s.runner.tagCounter + BitVec.ofNat 8 j := by
  obtain ⟨k, le, found, passed, free⟩ :=
    firstFreeTag_spec (s.runner.outstanding.map Entry.tag) 256 s.runner.tagCounter
  have lt : k < 256 := by
    refine lt_of_le_of_ne le fun all => ?_
    subst all
    have many := length_of_all_tags passed
    rw [List.length_map] at many
    omega
  exact ⟨k, Nat.le_of_lt_succ lt, found, fun e he same => free lt (List.mem_map.mpr ⟨e, he, same⟩), fun j hj =>
    List.mem_map.mp (passed j hj)⟩

end Tag

/-! ### A transmission that ended without success (R105, R113, R115, R121) -/

section Retry
variable {i : Fin 64} {e : Entry} {s : State}

theorem feedIndication_iff {action : Action} {target : Nat} : s.feedIndication action target = true ↔
    (action = .energize ∨ action = .resume) ∧ (s.classOf target).fallback = true ∧ s.trig.feedStable = false := by
  simp [State.feedIndication, and_assoc]

theorem step_of_entryOf (own : s.entryOf i = some e) : e.step = i := by
  simpa using List.find?_some own

theorem now_dropEntry (i : Fin 64) (s : State) : (dropEntry i s).now = s.now := by
  unfold dropEntry
  split <;> rfl

theorem run_dropEntry (i : Fin 64) (s : State) : (dropEntry i s).runner.run = s.runner.run := by
  unfold dropEntry
  split <;> rfl

/-- A step holds no entry once its own is removed. -/
theorem outstanding_dropEntry (i : Fin 64) (s : State) : ∀ x ∈ (dropEntry i s).runner.outstanding, x.step ≠ i := by
  unfold dropEntry
  split
  · intro x hx
    simpa using (List.mem_filter.mp hx).2
  · next none =>
    intro x hx
    simpa using List.find?_eq_none.mp none x hx

/-- A failed step's record, its entry and the count of the run (R105). -/
theorem failStep_effect (i : Fin 64) (why : FailReason) (s : State) : let u := failStep i why s
    u.runner.steps[i] = ⟨.failed, s.now, none, some why⟩ ∧ (∀ x ∈ u.runner.outstanding, x.step ≠ i) ∧
    u.runner.run.failed = s.runner.run.failed + 1 := by
  refine ⟨?_, outstanding_dropEntry i s, ?_⟩
  · exact (step_setStep i (dropEntry i s) _).trans (by rw [now_dropEntry])
  · exact congrArg (fun r : Run => r.failed + 1) (run_dropEntry i s)

theorem retryOrFail_of_left (why : FailReason) (more : 0 < e.left) : retryOrFail e why s = (reissueEntry e s, []) :=
  if_pos more

theorem retryOrFail_of_none_left (why : FailReason) (last : e.left = 0) :
    retryOrFail e why s = (failStep e.step why s, [e.step]) :=
  if_neg (by omega)

theorem deadlineDue_of_expired (on : s.runner.run.status = .running) (own : s.entryOf i = some e)
    (waits : e.phase = .waitingReply) (late : e.deadline = some 0) : s.deadlineDue i = true := by
  unfold State.deadlineDue
  rw [own, runIsOn_iff.mpr on]
  simp [waits, late]

theorem deadlineExpired_of_entry (own : s.entryOf i = some e) :
    deadlineExpired i s = settle (retryOrFail e .noReply s).2 (retryOrFail e .noReply s).1 := by
  unfold deadlineExpired
  rw [own]

end Retry

/-- Settles O48, by whether a re-issue is left. -/
theorem deadlineExpiryReissuesOrFails : Obligations.DeadlineExpiryReissuesOrFails := by
  unfold Obligations.DeadlineExpiryReissuesOrFails
  refine ⟨?_, fun _ _ _ => feedIndication_iff, fun _ => nextTag_spec⟩
  intro i e s₀ s running on own waits late
  have due : s.deadlineDue i = true := deadlineDue_of_expired on own waits late
  have expired : exec (.replyDeadlineExpiry i) s₀ = .next (runEvent (deadlineExpired i) s) :=
    whenDue_of_due (due := fun s => s.deadlineDue i) running due
  have step : e.step = i := step_of_entryOf own
  clear_value s
  have performed (u : State) (just : List (Fin 64)) (ended : retryOrFail e .noReply s = (u, just)) :
      exec (.replyDeadlineExpiry i) s₀ = .next (runEvent (fun _ => settle just u) s) := by
    have same : deadlineExpired i s = settle just u := by rw [deadlineExpired_of_entry own, ended]
    rw [expired]
    exact congrArg Host.Outcome.next (runEvent_congr same)
  refine ⟨fun more => ?_, fun last => ?_⟩
  · have again := retryOrFail_of_left (s := s) .noReply more
    exact ⟨_, again, rfl, rfl, rfl, rfl, performed _ _ again⟩
  · have fails := retryOrFail_of_none_left (s := s) .noReply last
    rw [step] at fails
    obtain ⟨record, gone, counted⟩ := failStep_effect i .noReply s
    exact ⟨_, fails, congrArg Step.state record, congrArg Step.reason record, gone, counted, performed _ _ fails⟩

end Sys2Proof.Machine
end

section
/-! PROOF. O36, O38 and O49: what ends and what begins on the P-port, and the ready and settle timers. -/

namespace Sys2Proof.Machine

/-! ### The ready and settle timers (R125, R126) -/

/-- Settles O49: each expiry is due, and its step's new record is read back. -/
theorem readyAndSettleTimersEndTheStep : Obligations.ReadyAndSettleTimersEndTheStep := by
  unfold Obligations.ReadyAndSettleTimersEndTheStep
  intro i s₀ s running on timer
  refine ⟨fun waits => ?_, fun settles => ?_⟩
  · have due : s.stepDue .awaitingState i = true := stepDue_of_expired on waits timer
    obtain ⟨record, -, counted⟩ := failStep_effect i .notReady s
    exact ⟨whenDue_of_due (due := fun s => s.stepDue .awaitingState i) running due, record, counted⟩
  · have due : s.stepDue .settling i = true := stepDue_of_expired on settles timer
    exact ⟨whenDue_of_due (due := fun s => s.stepDue .settling i) running due, step_moveStep i s .done none⟩

/-! ### A P-port transmission's end (R117, R161) -/

section PEnd
variable {t : PSending} {s s₀ : State}

theorem exec_pTransmissionEnd (running : s₀.caughtUp.isRunning = true) :
    exec .pTransmissionEnd s₀ = .next (pEnds s₀.caughtUp) :=
  congrArg Host.Outcome.next (if_pos running)

/-- The end of a frame that the executor does not wait for. -/
theorem pEnds_of_other (sends : s.link.pTx = some t) (other : t.source = .trip ∨ t.source = .forwarded) :
    pEnds s = { s with link.pTx := none, link.pCount.sent := bump s.link.pCount.sent } := by
  unfold pEnds
  rw [sends]
  dsimp only
  rcases other with source | source <;> rw [source]

/-- The end of an injected frame, of which the executor hears. -/
theorem pEnds_of_injected {tag : Byte} (sends : s.link.pTx = some t) (source : t.source = .injected tag) :
    pEnds s = commandSent tag { s with link.pTx := none, link.pCount.sent := bump s.link.pCount.sent } := by
  unfold pEnds
  rw [sends]
  dsimp only
  rw [source]

end PEnd

/-- Settles O36, by what the frame on the line is. -/
theorem pTransmissionEndStartsTheDeadline : Obligations.PTransmissionEndStartsTheDeadline := by
  unfold Obligations.PTransmissionEndStartsTheDeadline
  intro t s₀
  have does := exec_pTransmissionEnd (s₀ := s₀)
  generalize s₀.caughtUp = s at does
  dsimp only
  intro running sends
  rw [does running]
  exact ⟨fun other => congrArg Host.Outcome.next (pEnds_of_other sends other),
    fun tag source => congrArg Host.Outcome.next (pEnds_of_injected sends source)⟩

/-! ### The P-port arbiter's choice (R177, R178) -/

section PChoice
variable {s : State}

theorem pMayChoose_iff : s.pMayChoose = true ↔ s.isRunning = true ∧ s.link.pTx = none := by
  simp [State.pMayChoose]

theorem pChooses_trip (may : s.pMayChoose = true) (trip : s.site.tripPending = true) :
    pChooses s = pSends s.tripFrame .trip { s with site.tripPending := false } := by
  unfold pChooses
  rw [if_pos may, if_pos trip]

theorem pChooses_command (may : s.pMayChoose = true) (trip : s.site.tripPending = false) {i : Injected}
    {rest : List Injected} (commands : s.runner.injection = i :: rest) :
    pChooses s = pSends (s.commandFrame i) (.injected i.tag) { s with runner.injection := rest } := by
  unfold pChooses
  rw [if_pos may, trip, if_neg Bool.false_ne_true, commands]

theorem pChooses_forwarded (may : s.pMayChoose = true) (trip : s.site.tripPending = false)
    (commands : s.runner.injection = []) {f : Frame} {rest : List Frame} (frames : s.router.sToP = f :: rest) :
    pChooses s = pSends f .forwarded { s with router.sToP := rest } := by
  unfold pChooses
  rw [if_pos may, trip, if_neg Bool.false_ne_true, commands, frames]

theorem pReady_eq_false (may : s.pMayChoose = true) : s.pReady = false ↔
    s.site.tripPending = false ∧ s.runner.injection = [] ∧ s.router.sToP = [] := by
  simp [State.pReady, may, and_assoc]

/-- Where only the arbiters' choices and what they free are left, the P-port's choice is the next thing that is taken. -/
theorem caughtUp_of_joined (h : s.Joined) : s.caughtUp = takeUpFollows (heldFollow (sChooses (pChooses s))) := by
  have last : s.caughtUp = takeUpFollows (heldFollow (sChooses (pChooses (s.caughtUpTo 5)))) := by
    simp only [State.caughtUp, State.caughtUpTo, followUpSteps, List.take, List.foldl]
  rw [last, h.caught]

/-- A frame for an idle P-port is found on its line by whatever comes next (R178). -/
theorem caughtUp_of_frame_sToP (running : s.isRunning = true) (still : s.nothingFollows = true) (idle : s.link.pTx = none)
    (f : Frame) : ({ s with router.sToP := [f] } : State).caughtUp =
      ({ s with link.pTx := some ⟨f.line, .forwarded⟩ } : State).caughtUp := by
  obtain ⟨reset, activation, sReset, pReset, held, pQuiet, -⟩ := nothingFollows_iff.mp still
  obtain ⟨trip, commands, frames⟩ := (pReady_eq_false (pMayChoose_iff.mpr ⟨running, idle⟩)).mp pQuiet
  have waits : ({ s with router.sToP := [f] } : State).Joined :=
    ⟨⟨⟨⟨⟨running, reset⟩, activation⟩, sReset⟩, pReset⟩, held⟩
  have sending : ({ s with link.pTx := some ⟨f.line, .forwarded⟩ } : State).Joined :=
    ⟨⟨⟨⟨⟨running, reset⟩, activation⟩, sReset⟩, Bool.and_false _⟩, held⟩
  have begins : pChooses { s with router.sToP := [f] } = { s with link.pTx := some ⟨f.line, .forwarded⟩ } := by
    rw [pChooses_forwarded (s := { s with router.sToP := [f] }) (pMayChoose_iff.mpr ⟨running, idle⟩) trip commands rfl,
      ← frames]
    rfl
  have goesOn : pChooses { s with link.pTx := some ⟨f.line, .forwarded⟩ } =
      { s with link.pTx := some ⟨f.line, .forwarded⟩ } :=
    pChooses_of_not_ready (by simp [State.pReady, State.pMayChoose])
  rw [caughtUp_of_joined waits, caughtUp_of_joined sending, begins, goesOn]

end PChoice

/-! ### Characters and bits on a line (R152 to R154, R161) -/

theorem map_value_markFirst (l : List Byte) : (markFirst l).map LineChar.value = l := by
  cases l with
  | nil => rfl
  | cons v rest => simp [markFirst, Function.comp_def]

theorem map_marker_markFirst (v : Byte) (rest : List Byte) :
    (markFirst (v :: rest)).map LineChar.marker = true :: .replicate rest.length false := by
  simp [markFirst, Function.comp_def, List.map_const']

/-- The bits of a character one by one, whatever its stop bit. -/
theorem charBits_eq (v : Byte) (marker stop : Bool) : charBits v marker stop = [false] ++
    [v.getLsbD 0, v.getLsbD 1, v.getLsbD 2, v.getLsbD 3, v.getLsbD 4, v.getLsbD 5, v.getLsbD 6, v.getLsbD 7] ++
    [marker, stop] := rfl

theorem txBits_of_line (s : State) :
    (s.link.pTx = none → s.txBits .p = [true]) ∧ (s.link.sTx = none → s.txBits .s = [true]) ∧
    (∀ x, s.link.pTx = some x → s.txBits .p = x.line.flatMap LineChar.bits) ∧
    (∀ x, s.link.sTx = some x → s.txBits .s = x.line.flatMap LineChar.bits) := by
  unfold State.txBits
  refine ⟨fun idle => ?_, fun idle => ?_, fun x sends => ?_, fun x sends => ?_⟩
  · rw [idle]; rfl
  · rw [idle]; rfl
  · rw [sends]; rfl
  · rw [sends]; rfl

/-- Settles O38: the choices by what is ready, and the line by the frame's characters and their bits. -/
theorem pArbiterServesTripThenCommandsThenForwarded : Obligations.PArbiterServesTripThenCommandsThenForwarded := by
  unfold Obligations.PArbiterServesTripThenCommandsThenForwarded
  refine ⟨fun s₀ => ?_, fun f => ⟨map_value_markFirst f.chars, ?_⟩, fun c f s own running still idle => ?_,
    fun c stop => ⟨charBits_eq c.value c.marker true, ?_⟩, txBits_of_line⟩
  · have row : exec .pArbiterChoice s₀ = .next (pChooses (s₀.caughtUpTo 5)) := rfl
    rw [row]
    generalize s₀.caughtUpTo 5 = s
    dsimp only
    intro running idle
    have may : s.pMayChoose = true := pMayChoose_iff.mpr ⟨running, idle⟩
    refine ⟨fun trip => ?_, fun trip i rest commands => ?_, fun trip commands f rest frames => ?_,
      fun trip commands none => ?_⟩
    · exact congrArg Host.Outcome.next (pChooses_trip may trip)
    · exact congrArg Host.Outcome.next (pChooses_command may trip commands)
    · exact congrArg Host.Outcome.next (pChooses_forwarded may trip commands frames)
    · rw [pChooses_of_not_ready ((pReady_eq_false may).mpr ⟨trip, commands, none⟩)]
  · refine (map_marker_markFirst f.dst _).trans ?_
    simp [checkChars]
  · obtain ⟨g, does⟩ := exec_is_event own
    rw [does, does, event_eq, event_eq, caughtUp_of_frame_sToP running still idle f]
  · rw [← charBits_eq, readChar_charBits]

end Sys2Proof.Machine
end

section
/-! SUPPORT. A step that an event of the executor moves out of its command: its record, its entry with its frame, and the count
of failed steps (R94, R105, R113). The results of commands and the state reports are read through it. -/

namespace Sys2Proof.Machine

/-! ### A step leaves its command (R105, R113, R119) -/

section Leaves
variable (s : State) (i : Fin 64)

/-- Step `i` has record `r`, holds no entry and no waiting frame, and is counted where it failed; with the step where it has
ended. -/
def State.leaves (r : Step) : State × List (Fin 64) :=
  ({ s with
      runner.steps := s.runner.steps.set i r
      runner.outstanding := s.runner.outstanding.filter fun x => x.step != i
      runner.injection := s.runner.injection.filter fun f => (s.entryOf i).all fun x => f.tag != x.tag
      runner.run.failed := if r.state = .failed then s.runner.run.failed + 1 else s.runner.run.failed },
    if r.state.terminal then [i] else [])

theorem dropEntry_eq : dropEntry i s = { s with
    runner.outstanding := s.runner.outstanding.filter fun x => x.step != i
    runner.injection := s.runner.injection.filter fun f => (s.entryOf i).all fun x => f.tag != x.tag } := by
  unfold dropEntry
  cases own : s.entryOf i with
  | some e => rfl
  | none =>
    have none : (s.runner.outstanding.filter fun x => x.step != i) = s.runner.outstanding :=
      List.filter_eq_self.mpr fun x hx => bne_iff_ne.mpr fun same =>
        List.find?_eq_none.mp own x hx (beq_iff_eq.mpr same)
    simp only [Option.all_none, List.filter_true, none]

/-- A step fails (R105). -/
theorem failStep_eq (why : FailReason) : (failStep i why s, [i]) = s.leaves i ⟨.failed, s.now, none, some why⟩ := by
  unfold failStep
  rw [dropEntry_eq]
  rfl

/-- The record of a step whose awaited state `st` was reported: SETTLING where a settle dwell applies (R119, R124). -/
def State.arrivedRecord (st : NodeState) : Step :=
  let dwell := (s.classOf (s.stepCfg i).address).settleDwell
  if st = .run ∧ 0 < dwell then ⟨.settling, s.now, some dwell, none⟩ else ⟨.done, s.now, none, none⟩

/-- The awaited state leaves the step DONE or, after RUN, SETTLING. -/
theorem state_arrivedRecord (st : NodeState) :
    (s.arrivedRecord i st).state = .done ∨ st = .run ∧ (s.arrivedRecord i st).state = .settling := by
  unfold State.arrivedRecord
  dsimp only
  split
  · next runs => exact .inr ⟨runs.1, rfl⟩
  · exact .inl rfl

theorem completeStep_eq : completeStep i s = s.leaves i (s.arrivedRecord i (s.stepCfg i).action.awaited) := by
  unfold completeStep State.arrivedRecord
  rw [dropEntry_eq]
  dsimp only
  split <;> rfl

/-- An acknowledged command leaves its step waiting for the state (R119). -/
theorem awaitStep_eq : (awaitStep i s, []) = s.leaves i ⟨.awaitingState, s.now,
    some (if (s.stepCfg i).action.awaited = .run then (s.classOf (s.stepCfg i).address).readyTimeout
      else (s.classOf (s.stepCfg i).address).parkTimeout), none⟩ := by
  unfold awaitStep
  rw [dropEntry_eq]
  rfl

variable {s i}

theorem step_leaves (r : Step) : (s.leaves i r).1.runner.steps[i] = r := Vector.getElem_set_self i.isLt

theorem step_leaves_of_ne (r : Step) {p : Fin 64} (ne : p ≠ i) : (s.leaves i r).1.runner.steps[p] = s.runner.steps[p] :=
  Vector.getElem_set_ne i.isLt p.isLt fun same => ne (Fin.ext same.symm)

theorem mem_injection_leaves (r : Step) {f : Injected} (hf : f ∈ s.runner.injection) :
    f ∈ (s.leaves i r).1.runner.injection ↔ ∀ x, s.entryOf i = some x → f.tag ≠ x.tag := by
  show f ∈ List.filter _ _ ↔ _
  cases s.entryOf i <;> simp [hf]

/-- What a step's leaving its command says of its record, its entry, its frame, the count and the steps that have ended. -/
theorem leaves_effect (s : State) (i : Fin 64) (r : Step) : let m := s.leaves i r
    m.1.runner.steps = s.runner.steps.set i r ∧
    m.1.runner.outstanding = (s.runner.outstanding.filter fun x => decide (x.step ≠ i)) ∧
    (∀ f ∈ s.runner.injection, (f ∈ m.1.runner.injection ↔ ∀ x, s.entryOf i = some x → f.tag ≠ x.tag)) ∧
    m.1.runner.run.failed = (if r.state = .failed then s.runner.run.failed + 1 else s.runner.run.failed) ∧
    m.2 = if r.state.terminal then [i] else [] := by
  refine ⟨rfl, List.filter_congr fun x _ => ?_, fun f hf => mem_injection_leaves r hf, rfl, rfl⟩
  by_cases own : x.step = i <;> simp [own]

end Leaves

/-! ### A matched reply (R119) -/

section Matched
variable {e : Entry} {st : NodeState} {result : Byte} {s : State}

theorem matchedReply_fault (fault : st = .fault) :
    matchedReply e st result s = s.leaves e.step ⟨.failed, s.now, none, some .fault⟩ := by
  unfold matchedReply
  rw [if_pos fault, failStep_eq]

theorem matchedReply_arrived (well : st ≠ .fault) (arrived : st = (s.stepCfg e.step).action.awaited) :
    matchedReply e st result s = s.leaves e.step (s.arrivedRecord e.step st) := by
  unfold matchedReply
  rw [if_neg well, if_pos arrived, completeStep_eq, ← arrived]

variable (well : st ≠ .fault) (away : st ≠ (s.stepCfg e.step).action.awaited)
include well away

theorem matchedReply_away : matchedReply e st result s =
    if result.toNat = 0 then (awaitStep e.step s, [])
    else if result.toNat = 2 then retryOrFail e .busy s
    else (failStep e.step .refused s, [e.step]) := by
  unfold matchedReply
  rw [if_neg well, if_neg away]

theorem matchedReply_acknowledged (acknowledged : result.toNat = 0) : matchedReply e st result s =
    s.leaves e.step ⟨.awaitingState, s.now, some (if (s.stepCfg e.step).action.awaited = .run
      then (s.classOf (s.stepCfg e.step).address).readyTimeout
      else (s.classOf (s.stepCfg e.step).address).parkTimeout), none⟩ := by
  rw [matchedReply_away well away, if_pos acknowledged, awaitStep_eq]

theorem matchedReply_busy (busy : result.toNat = 2) : matchedReply e st result s = retryOrFail e .busy s := by
  rw [matchedReply_away well away, if_neg (by omega), if_pos busy]

theorem matchedReply_busy_again (busy : result.toNat = 2) (more : 0 < e.left) :
    matchedReply e st result s = (reissueEntry e s, []) := by
  rw [matchedReply_busy well away busy, retryOrFail_of_left .busy more]

theorem matchedReply_busy_last (busy : result.toNat = 2) (last : e.left = 0) :
    matchedReply e st result s = s.leaves e.step ⟨.failed, s.now, none, some .busy⟩ := by
  rw [matchedReply_busy well away busy, retryOrFail_of_none_left .busy last, failStep_eq]

theorem matchedReply_refused (notDone : result.toNat ≠ 0) (notBusy : result.toNat ≠ 2) :
    matchedReply e st result s = s.leaves e.step ⟨.failed, s.now, none, some .refused⟩ := by
  rw [matchedReply_away well away, if_neg notDone, if_neg notBusy, failStep_eq]

end Matched

/-! ### A state report on one step (R123, R124) -/

section Report
variable (node : Nat) (st : NodeState) (but : Option (Fin 64)) (s : State) (i : Fin 64)

/-- The record that a state report gives a step in its path, where it changes it. -/
def State.reportedRecord : Option Step :=
  let x := s.runner.steps[i]
  if x.state = .issued ∨ x.state = .awaitingState then
    if st = .fault then some ⟨.failed, s.now, none, some .fault⟩
    else if st = (s.stepCfg i).action.awaited then some (s.arrivedRecord i st)
    else none
  else if x.state = .settling then
    if st = .run then none
    else some ⟨.failed, s.now, none, some (if st = .fault then .fault else .settleLost)⟩
  else none

theorem reportToStep_eq : reportToStep st i s = ((s.reportedRecord st i).map (s.leaves i)).getD (s, []) := by
  unfold reportToStep State.reportedRecord State.stepAt
  dsimp only
  cases s.runner.steps[i].state with
  | issued | awaitingState =>
    simp only [reduceCtorEq, or_false, or_true, if_true, failStep_eq, completeStep_eq]
    split_ifs with fault arrived
    · rfl
    · rw [← arrived]
      rfl
    · rfl
  | settling =>
    simp only [reduceCtorEq, or_self, if_true, if_false, failStep_eq]
    split_ifs <;> rfl
  | blocked | waitingDwell | waitingFeed | queued | done | already | skipped | failed | notRun => rfl

/-- A record that a report gives is of another state than the step's own. -/
theorem state_reportedRecord {r : Step} (h : s.reportedRecord st i = some r) : r.state ≠ s.runner.steps[i].state := by
  unfold State.reportedRecord at h
  dsimp only at h
  generalize s.runner.steps[i].state = x at h ⊢
  by_cases commanded : x = .issued ∨ x = .awaitingState
  · rw [if_pos commanded] at h
    split_ifs at h <;> cases h
    · rcases commanded with rfl | rfl <;> exact nofun
    · rcases state_arrivedRecord s i st with e | ⟨-, e⟩ <;> rcases commanded with rfl | rfl <;> rw [e] <;> exact nofun
  · rw [if_neg commanded] at h
    by_cases settles : x = .settling
    · subst settles
      rw [if_pos rfl] at h
      by_cases run : st = .run
      · rw [if_pos run] at h
        cases h
      · rw [if_neg run] at h
        cases h
        exact nofun
    · rw [if_neg settles] at h
      cases h

/-- The record that a state report of a node gives a step, where it changes it: the report is for the steps that target the
node but one. -/
def State.reportOn : Option Step :=
  if but = some i ∨ (s.stepCfg i).target ≠ some node then none else s.reportedRecord st i

variable {node st but s i} {just : List (Fin 64)} {r : Step}

theorem reportAt_of_not_on (off : s.runIsOn = false) : reportAt node st but (s, just) i = (s, just) :=
  if_neg fun h => Bool.noConfusion (off.symm.trans h.1)

theorem reportAt_of_none (h : s.reportOn node st but i = none) : reportAt node st but (s, just) i = (s, just) := by
  unfold reportAt
  dsimp only
  split_ifs with path
  · have none : s.reportedRecord st i = none := by
      rw [← h]
      exact (if_neg fun out => out.elim path.2.1 fun away => away path.2.2).symm
    simp [reportToStep_eq, none]
  · rfl

theorem reportAt_of_some (on : s.runIsOn = true) (h : s.reportOn node st but i = some r) :
    reportAt node st but (s, just) i = ((s.leaves i r).1, just ++ (s.leaves i r).2) := by
  unfold State.reportOn at h
  split_ifs at h with out
  obtain ⟨other, target⟩ := not_or.mp out
  unfold reportAt
  dsimp only
  rw [if_pos ⟨on, other, not_not.mp target⟩, reportToStep_eq, h]
  rfl

theorem state_reportOn (h : s.reportOn node st but i = some r) : r.state ≠ s.runner.steps[i].state := by
  unfold State.reportOn at h
  split_ifs at h
  exact state_reportedRecord st s i h

end Report

/-! ### A state report on all steps (R123, R124) -/

section Pass
variable {node : Nat} {st : NodeState} {but : Option (Fin 64)} {s : State} {just l : List (Fin 64)}
  {acc : State × List (Fin 64)} {i : Fin 64}

/-- `acc` is `s` with `just` once the steps of `l` have taken a report: what their records say, whose entries are left, which
have ended, and how many failed. -/
structure State.Reported (s : State) (node : Nat) (st : NodeState) (but : Option (Fin 64)) (just l : List (Fin 64))
    (acc : State × List (Fin 64)) : Prop where
  same : ∃ records entries frames failed, acc.1 = { s with
    runner.steps := records, runner.outstanding := entries, runner.injection := frames, runner.run.failed := failed }
  record : ∀ p : Fin 64, acc.1.runner.steps[p] =
    if p ∈ l then (s.reportOn node st but p).getD s.runner.steps[p] else s.runner.steps[p]
  entries : acc.1.runner.outstanding = s.runner.outstanding.filter fun e =>
    acc.1.runner.steps[e.step].state == s.runner.steps[e.step].state
  ended : ∀ p : Fin 64, p ∈ acc.2 ↔ p ∈ just ∨
    acc.1.runner.steps[p].state ≠ s.runner.steps[p].state ∧ acc.1.runner.steps[p].state.terminal = true
  failed : acc.1.runner.run.failed = s.runner.run.failed + l.countP fun p =>
    acc.1.runner.steps[p].state != s.runner.steps[p].state && acc.1.runner.steps[p].state == .failed

theorem reported_nil : s.Reported node st but just [] (s, just) where
  same := ⟨_, _, _, _, rfl⟩
  record _ := by simp
  entries := by simp
  ended _ := by simp
  failed := rfl

/-- A step that has not taken the report takes it as in the state that the report found. -/
theorem State.Reported.reportOn_eq (h : s.Reported node st but just l acc) (fresh : i ∉ l) :
    acc.1.reportOn node st but i = s.reportOn node st but i := by
  have own : acc.1.runner.steps[i] = s.runner.steps[i] := (h.record i).trans (if_neg fresh)
  obtain ⟨u, ended⟩ := acc
  obtain ⟨v, entries, frames, failed, rfl⟩ := h.same
  unfold State.reportOn State.reportedRecord
  dsimp only at own ⊢
  rw [own]
  rfl

theorem State.Reported.runIsOn_eq (h : s.Reported node st but just l acc) : acc.1.runIsOn = s.runIsOn := by
  obtain ⟨v, entries, frames, failed, e⟩ := h.same
  rw [e]
  rfl

/-- One more step that the report leaves as it is. -/
theorem State.Reported.snoc_of_none (h : s.Reported node st but just l acc) (fresh : i ∉ l)
    (none : s.reportOn node st but i = none) : s.Reported node st but just (l ++ [i]) acc where
  same := h.same
  record p := by
    rw [h.record p]
    by_cases e : p = i
    · subst e
      simp [fresh, none]
    · simp [e]
  entries := h.entries
  ended := h.ended
  failed := by
    have own : acc.1.runner.steps[i] = s.runner.steps[i] := (h.record i).trans (if_neg fresh)
    rw [h.failed, List.countP_append, List.countP_singleton, own]
    simp

/-- One more step that the report moves. -/
theorem State.Reported.snoc_of_some (h : s.Reported node st but just l acc) (fresh : i ∉ l) {r : Step}
    (moves : s.reportOn node st but i = some r) :
    s.Reported node st but just (l ++ [i]) ((acc.1.leaves i r).1, acc.2 ++ (acc.1.leaves i r).2) := by
  have own : acc.1.runner.steps[i] = s.runner.steps[i] := (h.record i).trans (if_neg fresh)
  have moved : r.state ≠ s.runner.steps[i].state := state_reportOn moves
  have now : (acc.1.leaves i r).1.runner.steps[i] = r := step_leaves r
  have others (p : Fin 64) (ne : p ≠ i) : (acc.1.leaves i r).1.runner.steps[p] = acc.1.runner.steps[p] :=
    step_leaves_of_ne r ne
  refine ⟨?_, fun p => ?_, ?_, fun p => ?_, ?_⟩
  · obtain ⟨v, entries, frames, failed, e⟩ := h.same
    rw [e]
    exact ⟨_, _, _, _, rfl⟩
  · by_cases e : p = i
    · subst e
      simp [now, moves]
    · rw [others p e, h.record p]
      simp [e]
  · show acc.1.runner.outstanding.filter _ = _
    rw [h.entries, List.filter_filter]
    refine List.filter_congr fun x _ => ?_
    by_cases e : x.step = i
    · subst e
      rw [bne_self_eq_false, Bool.false_and]
      exact (beq_eq_false_iff_ne.mpr (now.symm ▸ moved)).symm
    · rw [others x.step e, bne_iff_ne.mpr e, Bool.true_and]
  · show p ∈ acc.2 ++ (if r.state.terminal then [i] else []) ↔ _
    rw [List.mem_append, h.ended p]
    by_cases e : p = i
    · subst e
      rw [now, own]
      generalize s.runner.steps[p].state = x at moved
      cases r.state.terminal <;> simp [moved]
    · rw [others p e]
      cases r.state.terminal <;> simp [e]
  · have before : (l.countP fun p => (acc.1.leaves i r).1.runner.steps[p].state != s.runner.steps[p].state &&
        (acc.1.leaves i r).1.runner.steps[p].state == .failed) = l.countP fun p =>
        acc.1.runner.steps[p].state != s.runner.steps[p].state && acc.1.runner.steps[p].state == .failed :=
      List.countP_congr fun p hp => by rw [others p fun e => fresh (e ▸ hp)]
    rw [List.countP_append, List.countP_singleton, before, now, ← Nat.add_assoc, ← h.failed]
    show (if r.state = .failed then acc.1.runner.run.failed + 1 else acc.1.runner.run.failed) = _
    generalize s.runner.steps[i].state = x at moved
    by_cases fails : r.state = .failed
    · rw [fails] at moved ⊢
      simp [moved]
    · simp [fails]

theorem reported_foldl (on : s.runIsOn = true) (l : List (Fin 64)) (nodup : l.Nodup) :
    s.Reported node st but just l (l.foldl (reportAt node st but) (s, just)) := by
  induction l using List.reverseRecOn with
  | nil => exact reported_nil
  | append_singleton l i ih =>
    obtain ⟨hl, -, apart⟩ := List.nodup_append.mp nodup
    have fresh : i ∉ l := fun hi => apart i hi i List.mem_cons_self rfl
    have h := ih hl
    rw [List.foldl_append, List.foldl_cons, List.foldl_nil]
    generalize l.foldl (reportAt node st but) (s, just) = acc at h
    have takes := h.reportOn_eq fresh
    cases moves : s.reportOn node st but i with
    | none =>
      rw [reportAt_of_none (takes.trans moves)]
      exact h.snoc_of_none fresh moves
    | some r =>
      rw [reportAt_of_some (h.runIsOn_eq.trans on) (takes.trans moves)]
      exact h.snoc_of_some fresh moves

/-- With a run on, a state report is taken by every step. -/
theorem reported_stateReport (on : s.runIsOn = true) :
    s.Reported node st but just (List.finRange 64) (stateReport node st but s just) :=
  reported_foldl on _ (List.nodup_finRange 64)

theorem stateReport_of_not_on (off : s.runIsOn = false) : stateReport node st but s just = (s, just) :=
  List.foldl_fixed' (fun _ => reportAt_of_not_on off) _

end Pass

/-! ### A reply to the part (R118) -/

section Reply
variable {src tag result : Byte} {st : NodeState} {s : State} {e : Entry}

theorem matchOf_some (h : s.matchOf src tag = some e) :
    e ∈ s.runner.outstanding ∧ e.target = src.toNat ∧ e.tag = tag ∧ e.phase = .waitingReply := by
  have found := List.find?_some h
  simp only [Bool.and_eq_true, beq_iff_eq] at found
  obtain ⟨⟨target, own⟩, waits⟩ := found
  exact ⟨List.mem_of_find?_eq_some h, target, own, waits⟩

theorem matchOf_none (h : s.matchOf src tag = none) :
    ∀ e ∈ s.runner.outstanding, e.target = src.toNat → e.tag = tag → e.phase ≠ .waitingReply := by
  intro e he target own waits
  exact List.find?_eq_none.mp h e he (by simp [target, own, waits])

/-- A reply's effect once it is matched or a stray: the report of a present source, and the settling. -/
def State.replySettled (s : State) (src : Byte) (st : NodeState) (but : Option (Fin 64)) (v : State × List (Fin 64)) :
    State × HandOver :=
  let w := if (s.nodeCfg src.toNat).present then stateReport src.toNat st but v.1 v.2 else v
  settle w.2 w.1

theorem takeReply_matched (h : s.matchOf src tag = some e) :
    takeReply src tag result st s = s.replySettled src st (some e.step) (matchedReply e st result s) := by
  unfold takeReply
  rw [h]
  rfl

theorem takeReply_stray (h : s.matchOf src tag = none) : takeReply src tag result st s =
    s.replySettled src st none ({ s with runner.strays := bump s.runner.strays }, []) := by
  unfold takeReply
  rw [h]
  rfl

theorem takeReport_eq (src : Byte) (st : NodeState) (s : State) : takeReport src st s =
    settle (stateReport src.toNat st none s []).2 (stateReport src.toNat st none s []).1 := by
  unfold takeReport
  generalize stateReport src.toNat st none s [] = r
  rfl

end Reply

end Sys2Proof.Machine
end

section
/-! PROOF. O51: a reply is matched or a stray, judged by the node state it carries and then its result; and what state reports
do. -/

namespace Sys2Proof.Machine

/-- The record of a step that a state report comes to, by the state that the step is in (R123, R124). -/
theorem reportOn_getD {node : Nat} {st : NodeState} {but : Option (Fin 64)} {s : State} (i : Fin 64) : let c := s.stepCfg i
    let x := s.runner.steps[i]
    let dwell := (s.classOf c.address).settleDwell
    (s.reportOn node st but i).getD x =
      if but = some i ∨ c.target ≠ some node then x
      else if x.state = .issued ∨ x.state = .awaitingState then
        if st = .fault then ⟨.failed, s.now, none, some .fault⟩
        else if st = c.action.awaited then
          if st = .run ∧ 0 < dwell then ⟨.settling, s.now, some dwell, none⟩ else ⟨.done, s.now, none, none⟩
        else x
      else if x.state = .settling then
        if st = .run then x
        else ⟨.failed, s.now, none, some (if st = .fault then .fault else .settleLost)⟩
      else x := by
  unfold State.reportOn State.reportedRecord State.arrivedRecord
  simp only [apply_ite (Option.getD · s.runner.steps[i]), Option.getD_none, Option.getD_some]

/-- Settles O51, by what the step's leaving its command does, the pass of a report over the steps, and the match. -/
theorem matchedReplyIsJudgedByStateThenResult : Obligations.MatchedReplyIsJudgedByStateThenResult := by
  unfold Obligations.MatchedReplyIsJudgedByStateThenResult
  refine ⟨fun e st result s => ?_, fun e st result s => ?_, fun node st but just s => ?_, fun src tag result st s => ?_⟩
  · intro awaited u
    have record {r : Step} (h : matchedReply e st result s = s.leaves e.step r) : u.runner.steps[e.step] = r :=
      (congrArg (fun m : State × List (Fin 64) => m.1.runner.steps[e.step]) h).trans (step_leaves r)
    refine ⟨fun fault => record (matchedReply_fault fault), fun well arrived => ?_, fun well away acknowledged => ?_,
      fun well away busy more => ?_, fun well away busy last => record (matchedReply_busy_last well away busy last),
      fun well away notDone notBusy => record (matchedReply_refused well away notDone notBusy)⟩
    · rw [record (matchedReply_arrived well arrived), ← arrived]
      exact state_arrivedRecord s e.step st
    · rw [record (matchedReply_acknowledged well away acknowledged)]
    · exact congrArg (fun m : State × List (Fin 64) => m.1.runner.steps) (matchedReply_busy_again well away busy more)
  · intro c k m leaves
    have left {r : Step} (h : matchedReply e st result s = s.leaves e.step r) : leaves r := by
      have effect := leaves_effect s e.step r
      rw [← h] at effect
      exact effect
    refine ⟨fun fault => left (matchedReply_fault fault), fun well arrived => left (matchedReply_arrived well arrived),
      fun well away => ⟨fun acknowledged => left (matchedReply_acknowledged well away acknowledged), fun busy more => ?_,
        fun busy last => left (matchedReply_busy_last well away busy last),
        fun notDone notBusy => left (matchedReply_refused well away notDone notBusy)⟩⟩
    have again : m = (reissueEntry e s, []) := matchedReply_busy_again well away busy more
    rw [again]
    exact ⟨rfl, rfl, rfl, rfl⟩
  · have idle := stateReport_of_not_on (node := node) (st := st) (but := but) (s := s) (just := just)
    have taken := reported_stateReport (node := node) (st := st) (but := but) (s := s) (just := just)
    generalize stateReport node st but s just = r at idle taken
    refine ⟨fun off => idle (by simpa [State.runIsOn] using off), fun on => ?_⟩
    have reported := taken (runIsOn_iff.mpr on)
    refine ⟨fun i => ?_, reported.entries, reported.ended, reported.failed⟩
    have record := reported.record i
    rw [if_pos (List.mem_finRange i)] at record
    exact record.trans (reportOn_getD i)
  · dsimp only
    refine ⟨fun e found => ?_, fun none => ⟨matchOf_none none, takeReply_stray none⟩, takeReport_eq src st s⟩
    obtain ⟨listed, target, own, waits⟩ := matchOf_some found
    exact ⟨listed, target, own, waits, takeReply_matched found⟩

end Sys2Proof.Machine
end

section
/-! PROOF. O28: SET_PROTECTION and RELOAD_PROTECTION. -/

namespace Sys2Proof.Machine

/-! ### The request rows (R143, R182) -/

section Requests
variable {src tag : Byte} {s₀ : State}

theorem exec_setProtection (mask : Byte) (ho : s₀.caughtUp.OpenTo) : exec (.setProtection src tag mask) s₀ =
    .next (reqSetProtection ⟨src, tag, 0x13⟩ mask s₀.caughtUp.asked) :=
  exec_request (r := .setProtection mask) rfl ho rfl (by simp [Req.payload])

theorem exec_reloadProtection (ho : s₀.caughtUp.OpenTo) : exec (.reloadProtection src tag) s₀ =
    .next (reqReloadProtection ⟨src, tag, 0x14⟩ s₀.caughtUp.asked) :=
  exec_request (r := .reloadProtection) rfl ho rfl (by simp [Req.payload])

end Requests

/-! ### A set of blocks as an argument (R183) -/

theorem readBlockSet_none {mask : Byte} : readBlockSet mask = none ↔ 16 ≤ mask.toNat := by
  unfold readBlockSet
  split <;> simp <;> omega

/-! ### The waiting protection write (R143) -/

section Waiting
variable {set old : Vector Bool 4} {before after l : List OtherWrite}

theorem replaceProtection_first (none : before.any OtherWrite.isProtection = false) :
    replaceProtection set (before ++ .protection old :: after) = some (before ++ .protection set :: after) := by
  induction before with
  | nil => rfl
  | cons w before ih =>
    obtain ⟨other, rest⟩ := Bool.or_eq_false_iff.mp none
    cases w with
    | block b =>
      exact congrArg (Option.map (OtherWrite.block b :: ·)) (ih rest)
    | protection _ => cases other

theorem replaceProtection_none (none : l.any OtherWrite.isProtection = false) : replaceProtection set l = .none := by
  induction l with
  | nil => rfl
  | cons w l ih =>
    obtain ⟨other, rest⟩ := Bool.or_eq_false_iff.mp none
    cases w with
    | block b => exact congrArg (Option.map (OtherWrite.block b :: ·)) (ih rest)
    | protection _ => cases other

end Waiting

/-! ### What a word protects (R143) -/

theorem active_names (set : Vector Bool 4) (check : BitVec 16) :
    (ProtectionWord.names set check).active = if check = protectionCrc set then set else .replicate 4 true := rfl

/-- Settles O28, by what waits in the queue and what the word holds. -/
theorem protectionIsQueuedAndReloaded : Obligations.ProtectionIsQueuedAndReloaded := by
  unfold Obligations.ProtectionIsQueuedAndReloaded
  intro src tag mask s₀
  have sets := exec_setProtection (src := src) (tag := tag) (s₀ := s₀) mask
  have reloads := exec_reloadProtection (src := src) (tag := tag) (s₀ := s₀)
  generalize s₀.caughtUp = s at sets reloads
  dsimp only
  intro ho
  rw [sets ho, reloads ho]
  refine ⟨fun set read => ?_, fun beyond => ?_, fun busy => ?_, fun idle => ?_, ?_, ?_, fun set check word => ?_⟩
  · have queues : reqSetProtection ⟨src, tag, 0x13⟩ mask s.asked =
        (queueProtection set s.asked).replied src tag 0x13 .ok [] := by
      unfold reqSetProtection
      rw [read]
      rfl
    rw [queues]
    unfold queueProtection
    refine ⟨fun before after old waits none => ?_, fun none => ?_⟩
    · have replaced := replaceProtection_first (set := set) (old := old) (after := after) none
      have same : s.asked.store.otherWrites = before ++ .protection old :: after := waits
      rw [same, replaced]
      rfl
    · have same : replaceProtection set s.asked.store.otherWrites = .none := replaceProtection_none none
      rw [same]
      rfl
  · unfold reqSetProtection
    rw [readBlockSet_none.mpr beyond]
    rfl
  · exact congrArg _ (if_pos busy)
  · exact congrArg _ (if_neg (by rw [show s.asked.protectionBusy = false from idle]; decide))
  · intro blank b
    rw [blank]
    exact Vector.getElem_replicate ..
  · intro fails b
    rw [fails]
    exact Vector.getElem_replicate ..
  · rw [word, active_names]
    refine ⟨fun right => if_pos right, fun wrong b => ?_⟩
    have wrong : check ≠ protectionCrc set := wrong
    rw [if_neg wrong]
    exact Vector.getElem_replicate ..

end Sys2Proof.Machine
end

section
/-! PROOF. O4, O5 and O6: the resets and the loss of power. -/

namespace Sys2Proof.Machine

/-! ### The pins outside (8.10) -/

theorem pins_activate (s : State) : (activate s).pins = s.pins := by
  cases h : s.store.awaiting[(3 : Fin 4)] with
  | false => exact (pins_of_fixed (fixed_activate_without h) :)
  | true =>
    obtain ⟨zones, alert, -, fixed, -⟩ := activate_with h
    have same : ((reloadAwaiting s).restaged s.tables zones alert).judged.pins = s.pins := by
      simp only [State.judged, State.restaged, routerTakesTables, reloadAwaiting]
    generalize ((reloadAwaiting s).restaged s.tables zones alert).judged = j at fixed same
    exact (pins_of_fixed fixed).trans same

theorem pins_followUp {f : State → State} (hf : f ∈ followUpSteps) (s : State) : (f s).pins = s.pins := by
  simp only [followUpSteps, List.mem_cons, List.not_mem_nil, or_false] at hf
  rcases hf with rfl | rfl | rfl | rfl | rfl | rfl | rfl | rfl | rfl
  · unfold commandedResetFollows commandedReset
    split <;> rfl
  · unfold activationFollows
    split
    · exact pins_activate s
    · rfl
  · unfold sResetFollows sResetTakesEffect
    split
    · split <;> rfl
    · rfl
  · unfold pResetFollows pResetTakesEffect
    split
    · split <;> rfl
    · rfl
  · unfold heldFollow
    split <;> rfl
  · obtain ⟨_, _, _, _, e, -⟩ := pChooses_effect s
    rw [e]
  · obtain ⟨_, _, _, _, e, -⟩ := sChooses_effect s
    rw [e]
  · unfold heldFollow
    split <;> rfl
  · unfold takeUpFollows
    split <;> rfl

/-- What each of a list of operations leaves, all of them leave. -/
theorem foldl_leaves {α : Type} {g : State → α} {fs : List (State → State)} (h : ∀ f ∈ fs, ∀ s, g (f s) = g s) (s : State) :
    g (fs.foldl (fun s f => f s) s) = g s := by
  induction fs generalizing s with
  | nil => rfl
  | cons f fs ih =>
    rw [List.foldl_cons, ih (fun f' hf => h f' (List.mem_cons_of_mem f hf)), h f List.mem_cons_self]

theorem pins_caughtUp (s : State) : s.caughtUp.pins = s.pins :=
  foldl_leaves (fun _ hf => pins_followUp (List.mem_of_mem_take hf)) s

/-! ### What each reset keeps (10.5) -/

theorem volatileReset_partReset (phase : Phase) (s : State) : (partReset phase s).VolatileReset :=
  ⟨rfl, rfl, rfl, rfl, rfl, rfl, rfl, rfl, rfl, rfl, rfl, rfl, rfl, rfl⟩

theorem nv_partReset (phase : Phase) (s : State) : (partReset phase s).nv = interruptWrites s := rfl

/-- Phase, site time, causes, straps and the load's timer are no volatile items. -/
theorem State.VolatileReset.kept {t : State} (h : t.VolatileReset) (phase : Phase) (siteTime : Word32) (siteMs : Nat)
    (secondDue : Bool) (causes : Causes) (straps : Straps) (loadTimer : Nat) : ({ t with
      phase := phase
      mgmt := { t.mgmt with
        siteTime := siteTime, siteMs := siteMs, secondDue := secondDue, causes := causes, straps := straps
        loadTimer := loadTimer } } : State).VolatileReset :=
  ⟨h.now, h.link, h.router, h.channels, h.voter, h.trig, h.site, h.runner, h.store, h.cmdReset, h.responses, h.held,
    h.handled, h.discarded⟩

theorem exec_powerOnReset (addr rate : Fin 4) (s₀ : State) : exec (.powerOnReset addr rate) s₀ =
    .next (beginLoad addr rate { partReset .loading s₀.caughtUp with
      mgmt.siteTime := 0, mgmt.siteMs := 0, mgmt.secondDue := false, mgmt.causes := ⟨true, false, false⟩ }) := rfl

theorem exec_commandedReset {addr rate : Fin 4} {s : State} (running : s.phase = .running) (due : s.mgmt.cmdReset = .due) :
    exec (.commandedReset addr rate) s = .next (beginLoad addr rate
      { partReset .loading s with mgmt.causes := { s.mgmt.causes with commanded := true } }) :=
  congrArg Host.Outcome.next (if_pos ⟨beq_iff_eq.mpr running, due⟩)

/-- Settles O4: both are a part reset, after which the load begins. -/
theorem powerOnAndCommandedResetsRestoreResetValues : Obligations.PowerOnAndCommandedResetsRestoreResetValues := by
  unfold Obligations.PowerOnAndCommandedResetsRestoreResetValues
  intro addr rate s
  refine ⟨?_, fun running due => ?_⟩
  · have pins := pins_caughtUp s
    rw [exec_powerOnReset]
    generalize s.caughtUp = u at pins
    exact ⟨_, rfl, (volatileReset_partReset .loading u).kept .., rfl, rfl, rfl, rfl, rfl, rfl, pins⟩
  · exact ⟨_, exec_commandedReset running due, (volatileReset_partReset .loading s).kept .., rfl, rfl, rfl, rfl, rfl, rfl,
      rfl⟩

/-! ### The RESET pin (R188) -/

theorem exec_resetPinAssert {s₀ : State} (powered : s₀.caughtUp.phase = .running ∨ s₀.caughtUp.phase = .loading) :
    exec .resetPinAssert s₀ = .next { partReset .held s₀.caughtUp with
      mgmt.causes := { s₀.caughtUp.mgmt.causes with pin := true } } := by
  have row : exec .resetPinAssert s₀ = execResetPinAssert s₀ := rfl
  rw [row]
  unfold execResetPinAssert
  rw [event_eq]
  rcases powered with running | loading
  · rw [running]
  · rw [loading]

theorem exec_resetPinRelease {addr rate : Fin 4} {s₀ : State} (held : s₀.caughtUp.phase = .held) :
    exec (.resetPinRelease addr rate) s₀ = .next (beginLoad addr rate s₀.caughtUp) := by
  have row : exec (.resetPinRelease addr rate) s₀ = execResetPinRelease addr rate s₀ := rfl
  rw [row]
  unfold execResetPinRelease
  rw [event_eq, held]

/-- Settles O5: a part reset that holds, and the beginning of the load. -/
theorem pinResetHoldsThenLoads : Obligations.PinResetHoldsThenLoads := by
  unfold Obligations.PinResetHoldsThenLoads
  refine ⟨fun s₀ => ?_, fun addr rate s₀ => ?_⟩
  · dsimp only
    intro powered
    rw [exec_resetPinAssert powered]
    generalize s₀.caughtUp = u
    exact ⟨_, rfl, (volatileReset_partReset .held u).kept .., rfl, rfl, rfl, rfl, rfl, rfl, rfl⟩
  · exact exec_resetPinRelease

/-! ### Writes cut short (R146) -/

section Interrupted
variable (s : State)

theorem checks_interruptWrites (b : Fin 4) : (interruptWrites s).checks[b] =
    if s.store.cond[b] = .programming then none else s.nv.checks[b] := by
  have checks : (interruptWrites s).checks =
      .ofFn fun b => if s.store.cond[b] = .programming then none else s.nv.checks[b] := by
    unfold interruptWrites
    dsimp only
    split <;> rfl
  rw [checks]
  simp

variable {s}

theorem ring_interruptWrites {w : RecordWrite} {left : Nat} (writes : s.store.writing = some ⟨.record w, left⟩) :
    (interruptWrites s).ring = s.nv.ring.set w.slot .damaged := by
  unfold interruptWrites
  rw [writes]

theorem ring_interruptWrites_of_other (other : ∀ w left, s.store.writing ≠ some ⟨.record w, left⟩) :
    (interruptWrites s).ring = s.nv.ring := by
  unfold interruptWrites
  split
  · next writes => exact absurd writes (other _ _)
  · rfl
  · rfl

theorem protection_interruptWrites {set : Vector Bool 4} {left : Nat}
    (writes : s.store.writing = some ⟨.other (.protection set), left⟩) : (interruptWrites s).protection = .checkFails := by
  unfold interruptWrites
  rw [writes]

theorem protection_interruptWrites_of_other (other : ∀ set left, s.store.writing ≠ some ⟨.other (.protection set), left⟩) :
    (interruptWrites s).protection = s.nv.protection := by
  unfold interruptWrites
  split
  · rfl
  · next writes => exact absurd writes (other _ _)
  · rfl

/-- A block in PROGRAMMING loses its CRC, and is not valid at the next load. -/
theorem valid_interruptWrites {b : Fin 4} (programming : s.store.cond[b] = .programming) :
    (interruptWrites s).valid b = false := by
  have none := (checks_interruptWrites s b).trans (if_pos programming)
  unfold NonVolatile.valid
  rw [NonVolatile.passes_of_none none, Bool.false_and]

theorem passes_interruptWrites {b : Fin 4} (kept : s.store.cond[b] ≠ .programming) :
    (interruptWrites s).passes b = s.nv.passes b := by
  unfold NonVolatile.passes
  rw [checks_interruptWrites, if_neg kept, blocks_interruptWrites]

end Interrupted

/-- Settles O6, by what was being written. -/
theorem lossOfPowerCutsWritesShort : Obligations.LossOfPowerCutsWritesShort := by
  unfold Obligations.LossOfPowerCutsWritesShort
  intro s₀
  refine ⟨partReset .unpowered s₀.caughtUp, rfl, rfl, rfl, rfl, ?_⟩
  rw [nv_partReset]
  generalize s₀.caughtUp = s
  refine ⟨blocks_interruptWrites s, fun w left writes => ?_, ring_interruptWrites_of_other, fun b => valid_interruptWrites,
    fun b => passes_interruptWrites, fun set left => protection_interruptWrites, protection_interruptWrites_of_other⟩
  rw [ring_interruptWrites writes]
  refine ⟨Vector.getElem_set_self w.slot.isLt, fun j other => ?_⟩
  exact Vector.getElem_set_ne w.slot.isLt j.isLt fun same => other (Fin.ext same.symm)

end Sys2Proof.Machine
end

section
/-! PROOF. O54: the write queue. -/

namespace Sys2Proof.Machine

/-! ### A record write requested (R144, R145) -/

section Requested
variable (w : RecordWrite) {s : State}

theorem programming_some {p : PlanStore} {b : Fin 4} {left : Nat} (writes : p.writing = some ⟨.other (.block b), left⟩) :
    p.programming = some b := by
  unfold PlanStore.programming
  rw [writes]

theorem programming_none {p : PlanStore} (none : ∀ b left, p.writing ≠ some ⟨.other (.block b), left⟩) :
    p.programming = .none := by
  unfold PlanStore.programming
  split
  · next writes => exact absurd writes (none _ _)
  · rfl

/-- The queue takes up a waiting record write before anything else (R144). -/
theorem takeUp_record {p : PlanStore} {w : RecordWrite} {rest : List RecordWrite} (waits : p.recordWrites = w :: rest) :
    p.takeUp = { p with recordWrites := rest, writing := some ⟨.record w, 5⟩ } := by
  unfold PlanStore.takeUp
  rw [waits]
  rfl

theorem takeUp_block {p : PlanStore} {b : Fin 4} {rest : List OtherWrite} (none : p.recordWrites = [])
    (waits : p.otherWrites = .block b :: rest) : p.takeUp = { p with
      otherWrites := rest, writing := some ⟨.other (.block b), 25⟩, cond := p.cond.set b .programming } := by
  unfold PlanStore.takeUp
  rw [none, waits]
  rfl

theorem takeUp_protection {p : PlanStore} {set : Vector Bool 4} {rest : List OtherWrite} (none : p.recordWrites = [])
    (waits : p.otherWrites = .protection set :: rest) : p.takeUp = { p with
      otherWrites := rest, writing := some ⟨.other (.protection set), 5⟩ } := by
  unfold PlanStore.takeUp
  rw [none, waits]
  rfl

theorem requestWrite_suspends {b : Fin 4} {left : Nat} (writes : s.store.writing = some ⟨.other (.block b), left⟩)
    (none : s.store.recordWrites = []) : requestWrite w s = { s with
      store.writing := some ⟨.record w, 5⟩, store.otherWrites := .block b :: s.store.otherWrites
      store.suspensions := bump s.store.suspensions } := by
  unfold requestWrite
  dsimp only
  rw [programming_some (p := { s.store with recordWrites := mergeWrite w s.store.recordWrites }) writes, none]
  dsimp only
  rw [takeUp_record (w := w) (rest := []) rfl, ← none]

theorem requestWrite_joins (none : ∀ b left, s.store.writing ≠ some ⟨.other (.block b), left⟩) :
    requestWrite w s = { s with
      store.recordWrites := (s.store.recordWrites.filter fun x => decide (x.slot ≠ w.slot)) ++ [w] } := by
  have merged : mergeWrite w s.store.recordWrites =
      (s.store.recordWrites.filter fun x => decide (x.slot ≠ w.slot)) ++ [w] := by
    simp only [mergeWrite, bne, beq_eq_decide, decide_not, ne_eq]
  unfold requestWrite
  dsimp only
  rw [programming_none (p := { s.store with recordWrites := mergeWrite w s.store.recordWrites }) none, merged]

end Requested

/-! ### The events of the queue (R143, R144) -/

section Events
variable {s₀ : State}

theorem writeWaits_iff {s : State} : s.writeWaits = true ↔
    s.store.writing = none ∧ (s.store.recordWrites ≠ [] ∨ s.store.otherWrites ≠ []) := by
  simp [State.writeWaits]

theorem takeUpFollows_of_waits {s : State} (running : s.isRunning = true) (waits : s.writeWaits = true) :
    takeUpFollows s = { s with store := s.store.takeUp } :=
  if_pos (by rw [running, waits]; rfl)

theorem exec_nvWriteTakeUp (s₀ : State) : exec .nvWriteTakeUp s₀ = .next (takeUpFollows (s₀.caughtUpTo 8)) := rfl

theorem writeEnded_of_done {s : State} {item : WriteItem} (done : s.store.writing = some ⟨item, 0⟩) :
    s.writeEnded = some item := by
  unfold State.writeEnded
  rw [done]
  rfl

theorem exec_recordWriteEnd {w : RecordWrite} (running : s₀.caughtUp.isRunning = true)
    (done : s₀.caughtUp.store.writing = some ⟨.record w, 0⟩) :
    exec .recordWriteEnd s₀ = .next (recordWritten w s₀.caughtUp) := by
  have row : exec .recordWriteEnd s₀ = execRecordWriteEnd s₀ := rfl
  rw [row]
  unfold execRecordWriteEnd
  rw [event_eq, running, writeEnded_of_done done]

theorem exec_protectionWriteEnd {set : Vector Bool 4} (running : s₀.caughtUp.isRunning = true)
    (done : s₀.caughtUp.store.writing = some ⟨.other (.protection set), 0⟩) :
    exec .protectionWriteEnd s₀ = .next (protectionWritten set s₀.caughtUp) := by
  have row : exec .protectionWriteEnd s₀ = execProtectionWriteEnd s₀ := rfl
  rw [row]
  unfold execProtectionWriteEnd
  rw [event_eq, running, writeEnded_of_done done]

end Events

/-- Settles O54, by what is in progress and what waits. -/
theorem writeQueueTakesRecordWritesFirst : Obligations.WriteQueueTakesRecordWritesFirst := by
  unfold Obligations.WriteQueueTakesRecordWritesFirst
  refine ⟨fun s => ⟨fun w b left => requestWrite_suspends w, fun w => requestWrite_joins w⟩, fun s₀ => ?_, fun s₀ => ?_⟩
  · rw [exec_nvWriteTakeUp]
    generalize s₀.caughtUpTo 8 = s
    dsimp only
    intro running
    have takes (idle : s.store.writing = none) (waits : s.store.recordWrites ≠ [] ∨ s.store.otherWrites ≠ []) :=
      takeUpFollows_of_waits running (writeWaits_iff.mpr ⟨idle, waits⟩)
    refine ⟨fun idle w rest waits => ?_, fun idle none b rest waits => ?_, fun idle none set rest waits => ?_⟩
    · rw [takes idle (.inl (by simp [waits])), takeUp_record waits]
    · rw [takes idle (.inr (by simp [waits])), takeUp_block none waits]
    · rw [takes idle (.inr (by simp [waits])), takeUp_protection none waits]
  · dsimp only
    exact fun running => ⟨fun w => exec_recordWriteEnd running, fun set => exec_protectionWriteEnd running⟩

end Sys2Proof.Machine
end

section
/-! SUPPORT. The records of a block one by one: what a record written from its characters replaces, and what a run of records
written to consecutive indices does (R134, R137). -/

namespace Sys2Proof.Machine

/-- The kind of a record (R134). -/
def AnyRecord.kind : AnyRecord → RecordKind
  | .header _ _ => .header
  | .step _ => .step
  | .node _ => .node
  | .channel _ => .channel
  | .zone _ => .zone
  | .cls _ => .cls
  | .source _ => .source
  | .filter _ => .filter
  | .site _ => .site

theorem kind_of_readRecord {k : RecordKind} {c : List Byte} {x : AnyRecord × Bool} (read : readRecord k c = some x) :
    x.1.kind = k := by
  cases k with
  | header | step | node | channel | zone | cls | source | filter | site =>
    obtain ⟨y, -, rfl⟩ := Option.map_eq_some_iff.mp read
    rfl

/-- The kinds of a plan block's records (R134). -/
theorem belongs_plan {k : RecordKind} {p : PlanId} : k.belongs p.block.val = true ↔ k = .header ∨ k = .step := by
  cases k <;> cases p <;> decide

theorem belongs_tables {k : RecordKind} : k.belongs (3 : Fin 4).val = true ↔ k ≠ .header ∧ k ≠ .step := by
  cases k <;> decide

/-- The places of a vector after one of them has been replaced. -/
theorem map_places_putAt {α β : Type} {n i : Nat} (h : i < n) (v : Vector α n) (x : α) (f : α → β) (j : Nat) :
    ((putAt v i x).toList[j]?).map f = if j = i then some (f x) else (v.toList[j]?).map f := by
  have places : (putAt v i x).toList = v.toList.set i x := by
    unfold putAt
    rw [dif_pos h]
    exact Vector.toList_set h
  rw [places, List.getElem?_set, Vector.length_toList]
  by_cases same : i = j
  · rw [if_pos same, if_pos h, if_pos same.symm]
    rfl
  · rw [if_neg same, if_neg fun e => same e.symm]

/-- A kind with one record has it at index 0. -/
theorem only_place {r : AnyRecord} (old : Option AnyRecord) (j : Nat) :
    (if j = 0 then some r else none) = if j = 0 then some r else if j = 0 then old else none := by
  split <;> rfl

/-! ### A plan block -/

/-- The record of a kind at an index of a plan (R87). -/
def Plan.recordOf (p : Plan) : RecordKind → Nat → Option AnyRecord
  | .header, i => if i = 0 then some (.header p.stepCount p.slotLimit) else none
  | .step, i => (p.steps.toList[i]?).map .step
  | _, _ => none

/-- A plan with a record put in its place. -/
def Plan.put (p : Plan) (i : Nat) : AnyRecord → Plan
  | .header n l => { p with stepCount := n, slotLimit := l }
  | .step x => { p with steps := putAt p.steps i x }
  | _ => p

section Plan
variable (p : Plan) {i : Nat} {r : AnyRecord} {k : RecordKind}

theorem Plan.writeRecord_eq (own : k = .header ∨ k = .step) (c : List Byte) :
    p.writeRecord k i c = (readRecord k c).map fun x => (p.put i x.1, x.2) := by
  rcases own with rfl | rfl
  · simp only [readRecord, Option.map_map]
    rfl
  · simp only [readRecord, Option.map_map]
    rfl

theorem Plan.recordOf_put_self (own : r.kind = .header ∨ r.kind = .step) (has : r.kind.hasIndex i = true) (j : Nat) :
    (p.put i r).recordOf r.kind j = if j = i then some r else p.recordOf r.kind j := by
  cases r with
  | header n l =>
    obtain rfl : i = 0 := beq_iff_eq.mp has
    exact only_place (some (.header p.stepCount p.slotLimit)) j
  | step x => exact map_places_putAt (of_decide_eq_true has) ..
  | node | channel | zone | cls | source | filter | site => rcases own with own | own <;> cases own

theorem Plan.recordOf_put_of_ne (other : k ≠ r.kind) : (p.put i r).recordOf k = p.recordOf k := by
  cases r with
  | header => cases k with | header => exact absurd rfl other | _ => rfl
  | step => cases k with | step => exact absurd rfl other | _ => rfl
  | _ => rfl

end Plan

/-! ### Block 3 -/

/-- The record of a kind at an index of the site tables (R134). -/
def SiteTables.recordOf (t : SiteTables) : RecordKind → Nat → Option AnyRecord
  | .node, i => if i = 0 then none else (t.nodes.toList[i - 1]?).map .node
  | .channel, i => (t.channels.toList[i]?).map .channel
  | .zone, i => (t.zones.toList[i]?).map .zone
  | .cls, i => (t.classes.toList[i]?).map .cls
  | .source, i => (t.sources.toList[i]?).map .source
  | .filter, i => (t.filter.toList[i]?).map .filter
  | .site, i => if i = 0 then some (.site t.site) else none
  | _, _ => none

/-- The site tables with a record put in its place. -/
def SiteTables.put (t : SiteTables) (i : Nat) : AnyRecord → SiteTables
  | .node x => { t with nodes := putAt t.nodes (i - 1) x }
  | .channel x => { t with channels := putAt t.channels i x }
  | .zone x => { t with zones := putAt t.zones i x }
  | .cls x => { t with classes := putAt t.classes i x }
  | .source x => { t with sources := putAt t.sources i x }
  | .filter x => { t with filter := putAt t.filter i x }
  | .site x => { t with site := x }
  | _ => t

section Tables
variable (t : SiteTables) {i : Nat} {r : AnyRecord} {k : RecordKind}

theorem SiteTables.writeRecord_eq (own : k ≠ .header ∧ k ≠ .step) (c : List Byte) :
    t.writeRecord k i c = (readRecord k c).map fun x => (t.put i x.1, x.2) := by
  cases k with
  | header => exact absurd rfl own.1
  | step => exact absurd rfl own.2
  | node | channel | zone | cls | source | filter | site =>
    simp only [readRecord, Option.map_map]
    rfl

/-- Node `n` stands at place `n - 1` (R165). -/
theorem recordOf_put_node (has : RecordKind.node.hasIndex i = true) (x : NodeCfg) (j : Nat) :
    (t.put i (.node x)).recordOf .node j = if j = i then some (.node x) else t.recordOf .node j := by
  obtain ⟨low, high⟩ : 1 ≤ i ∧ i ≤ 119 := by simpa [RecordKind.hasIndex] using has
  have put := map_places_putAt (show i - 1 < 119 by omega) t.nodes x AnyRecord.node (j - 1)
  unfold SiteTables.recordOf
  dsimp only
  by_cases zero : j = 0
  · rw [if_pos zero, if_pos zero, if_neg (by omega)]
  · rw [if_neg zero, if_neg zero]
    exact put.trans (if_congr (by omega) rfl rfl)

theorem SiteTables.recordOf_put_self (own : r.kind ≠ .header ∧ r.kind ≠ .step) (has : r.kind.hasIndex i = true) (j : Nat) :
    (t.put i r).recordOf r.kind j = if j = i then some r else t.recordOf r.kind j := by
  cases r with
  | header => exact absurd rfl own.1
  | step => exact absurd rfl own.2
  | node x => exact recordOf_put_node t has x j
  | channel | zone | cls | source | filter => exact map_places_putAt (of_decide_eq_true has) ..
  | site x =>
    obtain rfl : i = 0 := beq_iff_eq.mp has
    exact only_place (some (.site t.site)) j

theorem SiteTables.recordOf_put_of_ne (other : k ≠ r.kind) : (t.put i r).recordOf k = t.recordOf k := by
  cases r with
  | header | step => rfl
  | node => cases k with | node => exact absurd rfl other | _ => rfl
  | channel => cases k with | channel => exact absurd rfl other | _ => rfl
  | zone => cases k with | zone => exact absurd rfl other | _ => rfl
  | cls => cases k with | cls => exact absurd rfl other | _ => rfl
  | source => cases k with | source => exact absurd rfl other | _ => rfl
  | filter => cases k with | filter => exact absurd rfl other | _ => rfl
  | site => cases k with | site => exact absurd rfl other | _ => rfl

end Tables

/-! ### Any block -/

/-- The blocks with a record put in its place of block `b`. -/
def Blocks.put (bs : Blocks) (b : Fin 4) (i : Nat) (r : AnyRecord) : Blocks :=
  match planIn b with
  | some p => bs.setPlan p ((bs.plan p).put i r)
  | none => { bs with site := bs.site.put i r }

section Blocks
variable (bs : Blocks) {i : Nat} {r : AnyRecord} {k : RecordKind} {b : Fin 4}

theorem recordIn_plan (p : PlanId) (k : RecordKind) (i : Nat) : recordIn bs p.block k i = (bs.plan p).recordOf k i := by
  unfold recordIn
  rw [planIn_block]
  cases k <;> rfl

theorem recordIn_three (k : RecordKind) (i : Nat) : recordIn bs 3 k i = bs.site.recordOf k i := by
  cases k <;> rfl

theorem plan_setPlan (p q : PlanId) (x : Plan) : (bs.setPlan p x).plan q = if q = p then x else bs.plan q := by
  cases p <;> cases q <;> rfl

theorem put_plan (p : PlanId) : bs.put p.block i r = bs.setPlan p ((bs.plan p).put i r) := by
  unfold Blocks.put
  rw [planIn_block]

theorem put_three : bs.put 3 i r = { bs with site := bs.site.put i r } := rfl

/-- A block is that of a plan, or block 3 (R87). -/
theorem plan_or_three (b : Fin 4) : (∃ p : PlanId, b = p.block) ∨ b = 3 := by
  cases h : planIn b with
  | some p => exact .inl ⟨p, block_of_planIn h⟩
  | none => exact .inr (three_of_planIn h)

theorem block_inj {p q : PlanId} (h : p.block = q.block) : p = q :=
  Option.some.inj ((planIn_block p).symm.trans ((congrArg planIn h).trans (planIn_block q)))

/-- A record written is the one its characters spell, put in its place. -/
theorem Blocks.writeRecord_eq (fits : k.belongs b.val = true) (c : List Byte) :
    bs.writeRecord b k i c = (readRecord k c).map fun x => (bs.put b i x.1, x.2) := by
  unfold Blocks.writeRecord
  rcases plan_or_three b with ⟨p, rfl⟩ | rfl
  · simp only [planIn_block, put_plan, Plan.writeRecord_eq _ (belongs_plan.mp fits), Option.map_map]
    rfl
  · have tables := bs.site.writeRecord_eq (i := i) (belongs_tables.mp fits) c
    simp only [planIn, put_three, tables, Option.map_map]
    rfl

/-- Of the records of all blocks, a record put in its place is the only one that changes (R137). -/
theorem recordIn_put (fits : r.kind.belongs b.val = true) (has : r.kind.hasIndex i = true) (b' : Fin 4) (k : RecordKind)
    (j : Nat) : recordIn (bs.put b i r) b' k j = if b' = b ∧ k = r.kind ∧ j = i then some r else recordIn bs b' k j := by
  rcases plan_or_three b with ⟨p, rfl⟩ | rfl <;> rcases plan_or_three b' with ⟨q, rfl⟩ | rfl
  · rw [put_plan, recordIn_plan, recordIn_plan, plan_setPlan]
    by_cases same : q = p
    · subst same
      rw [if_pos rfl]
      by_cases own : k = r.kind
      · subst own
        rw [Plan.recordOf_put_self _ (belongs_plan.mp fits) has]
        exact if_congr (by simp) rfl rfl
      · rw [Plan.recordOf_put_of_ne _ own, if_neg fun h => own h.2.1]
    · rw [if_neg same, if_neg fun h => same (block_inj h.1)]
  · rw [put_plan, recordIn_three, recordIn_three, site_setPlan, if_neg fun h => block_ne_three p h.1.symm]
  · rw [put_three, recordIn_plan, recordIn_plan, if_neg fun h => block_ne_three q h.1]
    cases q <;> rfl
  · rw [put_three, recordIn_three, recordIn_three]
    by_cases own : k = r.kind
    · subst own
      refine (SiteTables.recordOf_put_self _ (belongs_tables.mp fits) has j).trans (if_congr (by simp) rfl rfl)
    · rw [if_neg fun h => own h.2.1]
      exact congrFun (SiteTables.recordOf_put_of_ne _ own) j

end Blocks

end Sys2Proof.Machine
end

section
/-! PROOF. O25: WRITE_SHADOW. -/

namespace Sys2Proof.Machine

/-! ### Records written one after another (R137) -/

/-- `n` records of kind `k` from index `first` of block `b` on are those that `read` gives, and every other record is that of
`old`. -/
def Blocks.Holds (new old : Blocks) (b : Fin 4) (k : RecordKind) (first n : Nat) (read : Nat → Option (AnyRecord × Bool)) :
    Prop :=
  (∀ j < n, recordIn new b k (first + j) = (read j).map Prod.fst) ∧
  ∀ (b' : Fin 4) (k' : RecordKind) (i : Nat), (b' = b → k' = k → i < first ∨ first + n ≤ i) →
    recordIn new b' k' i = recordIn old b' k' i

section Records
variable {b : Fin 4} {k : RecordKind}

theorem recordIn_put_self {bs : Blocks} {i : Nat} {r : AnyRecord} (fits : r.kind.belongs b.val = true)
    (has : r.kind.hasIndex i = true) : recordIn (bs.put b i r) b r.kind i = some r := by
  rw [recordIn_put _ fits has, if_pos ⟨rfl, rfl, rfl⟩]

theorem recordIn_put_of_ne {bs : Blocks} {i j : Nat} {r : AnyRecord} {b' : Fin 4} {k' : RecordKind}
    (fits : r.kind.belongs b.val = true) (has : r.kind.hasIndex i = true) (other : b' = b → k' = r.kind → j ≠ i) :
    recordIn (bs.put b i r) b' k' j = recordIn bs b' k' j := by
  rw [recordIn_put _ fits has, if_neg fun h => other h.1 h.2.1 h.2.2]

/-- One record put first, and then the others behind it. -/
theorem Blocks.Holds.cons {new bs : Blocks} {first n : Nat} {read : Nat → Option (AnyRecord × Bool)} {r : AnyRecord} {c : Bool}
    (rest : new.Holds (bs.put b first r) b r.kind (first + 1) n fun j => read (j + 1)) (front : read 0 = some (r, c))
    (fits : r.kind.belongs b.val = true) (has : r.kind.hasIndex first = true) : new.Holds bs b r.kind first (n + 1) read := by
  obtain ⟨written, kept⟩ := rest
  refine ⟨Nat.forall_lt_succ_left.mpr ⟨?_, fun j within => ?_⟩, fun b' k' i outside => ?_⟩
  · rw [front, Nat.add_zero, kept b r.kind first fun _ _ => .inl (Nat.lt_succ_self first), recordIn_put_self fits has]
    rfl
  · rw [← written j within, Nat.add_right_comm]
    rfl
  · rw [kept b' k' i fun hb hk => by have := outside hb hk; omega]
    exact recordIn_put_of_ne fits has fun hb hk => by have := outside hb hk; omega

/-- `n` records are written where each can be read; each then stands at its index as its characters spell it (R137). -/
theorem writeRecords_spec (n : Nat) : ∀ {bs : Blocks} {first : Nat} {chars : List Byte}, k.belongs b.val = true →
    (∀ j < n, k.hasIndex (first + j) = true) →
    let read := fun j : Nat => readRecord k ((chars.drop (j * k.size)).take k.size)
    (bs.writeRecords b k first n chars = none ↔ ∃ j < n, read j = none) ∧
    ∀ new wasClamped, bs.writeRecords b k first n chars = some (new, wasClamped) →
      new.Holds bs b k first n read ∧ (wasClamped = true ↔ ∃ j < n, (read j).map Prod.snd = some true) := by
  induction n with
  | zero =>
    intro bs first chars fits has read
    refine ⟨by simp [Blocks.writeRecords], fun new wasClamped written => ?_⟩
    cases written
    exact ⟨⟨nofun, fun _ _ _ _ => rfl⟩, by simp⟩
  | succ n ih =>
    intro bs first chars fits has read
    obtain ⟨hasFirst, hasRest⟩ := Nat.forall_lt_succ_left.mp has
    have shift (j : Nat) : ((chars.drop k.size).drop (j * k.size)).take k.size = (chars.drop ((j + 1) * k.size)).take k.size := by
      rw [List.drop_drop, Nat.succ_mul, Nat.add_comm]
    have front : readRecord k (chars.take k.size) = read 0 := by simp [read]
    unfold Blocks.writeRecords
    rw [Blocks.writeRecord_eq _ fits, front, Nat.exists_lt_succ_left, Nat.exists_lt_succ_left]
    cases first0 : read 0 with
    | none => exact ⟨by simp, nofun⟩
    | some x =>
      obtain ⟨r, c⟩ := x
      obtain rfl : r.kind = k := kind_of_readRecord first0
      obtain ⟨none_iff, written⟩ := ih (bs := bs.put b first r) (first := first + 1) (chars := chars.drop r.kind.size) fits
        fun j within => by rw [Nat.add_right_comm]; exact hasRest j within
      simp only [shift] at none_iff written
      refine ⟨by simpa using none_iff, fun new wasClamped all => ?_⟩
      obtain ⟨⟨rest, c'⟩, some, e⟩ := Option.map_eq_some_iff.mp all
      cases e
      obtain ⟨holds, clamps⟩ := written _ _ some
      exact ⟨holds.cons first0 fits hasFirst, by simp [clamps, read]⟩

end Records

/-! ### The place that a request names (R137) -/

theorem readPlace_some {block kind first count : Byte} {b : Fin 4} {k : RecordKind}
    (h : readPlace block kind first count = some (b, k)) :
    k.belongs b.val = true ∧ ∀ j < count.toNat, k.hasIndex (first.toNat + j) = true := by
  unfold readPlace at h
  split at h
  · split at h
    · next inside =>
      cases h
      exact ⟨inside.1, by simpa using inside.2⟩
    · cases h
  · cases h

/-! ### The request row (R137, R182, R183) -/

section Request
variable {src tag block kind first count : Byte} {records : List Byte} {s₀ : State}

theorem exec_writeShadow (ho : s₀.caughtUp.OpenTo) (fits : shadowLengthOk kind count records = true)
    (size : records.length ≤ 43) : exec (.writeShadow src tag block kind first count records) s₀ =
      .next (reqWriteShadow ⟨src, tag, 0x11⟩ block kind first count records s₀.caughtUp.asked) :=
  exec_request (r := .writeShadow block kind first count records) rfl ho fits (by simp [Req.payload]; omega)

theorem performPayload_unparsed {code : Byte} {args : List Byte} {s : State} (none : parseRequest code args = none) :
    performPayload src tag (code :: args) s = s.replied src tag code .badRequest [] := by
  unfold performPayload
  dsimp only
  rw [none]
  rfl

/-- Records whose length is not that of their count and kind make no request. -/
theorem exec_writeShadow_malformed (ho : s₀.caughtUp.OpenTo) (unfit : shadowLengthOk kind count records = false)
    (size : records.length ≤ 43) : exec (.writeShadow src tag block kind first count records) s₀ =
      .next (s₀.caughtUp.asked.replied src tag 0x11 .badRequest []) := by
  have none : parseRequest 0x11 (block :: kind :: first :: count :: records) = none :=
    if_neg (by rw [unfit]; decide)
  rw [exec_of_requestOf rfl,
    requestArrives_of_open ho src tag (.writeShadow block kind first count records) (by simp [Req.payload]; omega)]
  exact congrArg Host.Outcome.next (performPayload_unparsed none)

end Request

/-- Settles O25: the request by its checks in their order, and the records one by one. -/
theorem writeShadowReplacesRecordsOrRefuses : Obligations.WriteShadowReplacesRecordsOrRefuses := by
  unfold Obligations.WriteShadowReplacesRecordsOrRefuses
  refine ⟨fun src tag block kind first count records s₀ => ?_, fun block kind first count records bs b k place _ => ?_⟩
  · have does := exec_writeShadow (src := src) (tag := tag) (block := block) (kind := kind) (first := first) (count := count)
      (records := records) (s₀ := s₀)
    have refuses := exec_writeShadow_malformed (src := src) (tag := tag) (block := block) (kind := kind) (first := first)
      (count := count) (records := records) (s₀ := s₀)
    generalize s₀.caughtUp = s at does refuses
    dsimp only
    intro ho size
    refine ⟨fun unfit => refuses ho unfit size, fun fits none => ?_, fun b k fits place => ?_⟩
    · rw [does ho fits size]
      unfold reqWriteShadow
      rw [none]
      rfl
    · rw [does ho fits size]
      have same : s.asked.store = s.store := rfl
      unfold reqWriteShadow
      rw [place, same]
      dsimp only
      refine ⟨fun none => ?_, fun bs wasClamped written => ⟨fun busy => ?_, fun idle => ?_⟩⟩
      · rw [none]
        rfl
      · rw [written]
        exact congrArg _ (if_pos busy)
      · rw [written]
        exact congrArg _ (if_neg (by simp [idle]))
  · obtain ⟨fits, has⟩ := readPlace_some place
    obtain ⟨none_iff, written⟩ := writeRecords_spec count.toNat (bs := bs) (chars := records) fits has
    refine ⟨none_iff, fun new wasClamped all => ?_⟩
    obtain ⟨⟨held, kept⟩, clamps⟩ := written new wasClamped all
    exact ⟨held, clamps, kept⟩

end Sys2Proof.Machine
end

section
/-! SUPPORT. The first of the faults that a block shows: by record kind, by index, and for one record by the table (R139). -/

namespace Sys2Proof.Machine

/-! ### The order of the checks -/

theorem StoreFault.code_lt (f : StoreFault) : f.code < 12 := by cases f <;> decide

theorem RecordKind.code_lt (k : RecordKind) : k.code < 9 := by cases k <;> decide

section Order
variable {x y : Found}

theorem place_le_of_block (h : x.block < y.block) (index : x.index < 256) : x.place ≤ y.place := by
  have block : x.block.val < y.block.val := h
  have kind := x.kind.code_lt
  have fault := x.fault.code_lt
  unfold Found.place
  omega

theorem place_le_of_kind (block : x.block = y.block) (h : x.kind.code < y.kind.code) (index : x.index < 256) :
    x.place ≤ y.place := by
  have fault := x.fault.code_lt
  unfold Found.place
  rw [block]
  omega

theorem place_le_of_index (block : x.block = y.block) (kind : x.kind = y.kind) (h : x.index < y.index) :
    x.place ≤ y.place := by
  have fault := x.fault.code_lt
  unfold Found.place
  rw [block, kind]
  omega

end Order

/-! ### First faults put together -/

section First
variable {there later : Found → Prop} {a b : Option Found}

theorem FirstOf.congr (h : FirstOf there a) (same : ∀ x, there x ↔ later x) : FirstOf later a :=
  (funext fun x => propext (same x) : there = later) ▸ h

theorem firstOf_none (none : ∀ x, ¬there x) : FirstOf there .none := none

/-- The first of two searches, where all that the one can find comes before all that the other can. -/
theorem FirstOf.or (h : FirstOf there a) (h' : FirstOf later b) (order : ∀ x y, there x → later y → x.place ≤ y.place) :
    FirstOf (fun x => there x ∨ later x) (a.or b) := by
  cases a with
  | some x => exact ⟨.inl h.1, fun y hy => hy.elim (h.2 y) (order x y h.1)⟩
  | none =>
    cases b with
    | some x => exact ⟨.inr h'.1, fun y hy => hy.elim (fun hy => absurd hy (h y)) (h'.2 y)⟩
    | none => exact fun y hy => hy.elim (h y) (h' y)

theorem firstOf_findSome {α : Type} {there : α → Found → Prop} {f : α → Option Found} {l : List α}
    (each : ∀ a ∈ l, FirstOf (there a) (f a))
    (order : l.Pairwise fun a b => ∀ x y, there a x → there b y → x.place ≤ y.place) :
    FirstOf (fun x => ∃ a ∈ l, there a x) (l.findSome? f) := by
  induction l with
  | nil => exact firstOf_none fun x ⟨_, h, _⟩ => nomatch h
  | cons a l ih =>
    obtain ⟨before, rest⟩ := List.pairwise_cons.mp order
    have both := (each a List.mem_cons_self).or (ih (fun b hb => each b (List.mem_cons_of_mem a hb)) rest)
      fun x y hx ⟨b, hb, hy⟩ => before b hb x y hx hy
    have search : (a :: l).findSome? f = (f a).or (l.findSome? f) := by
      rw [List.findSome?_cons]
      cases f a <;> rfl
    rw [search]
    exact both.congr fun x => by rw [List.exists_mem_cons_iff]

theorem firstOf_finRange {n : Nat} {there : Fin n → Found → Prop} {f : Fin n → Option Found}
    (each : ∀ i, FirstOf (there i) (f i)) (order : ∀ i j, i < j → ∀ x y, there i x → there j y → x.place ≤ y.place) :
    FirstOf (fun x => ∃ i, there i x) ((List.finRange n).findSome? f) :=
  (firstOf_findSome (fun i _ => each i) ((List.pairwise_lt_finRange n).imp fun lt => order _ _ lt)).congr fun x => by simp

end First

/-! ### One record, and the records of one kind -/

/-- `x` names the record of block `b`, kind `k`, index `i`, and one of the faults that it shows. -/
def Found.At (x : Found) (b : Fin 4) (k : RecordKind) (i : Nat) (shows : StoreFault → Prop) : Prop :=
  x.block = b ∧ x.kind = k ∧ x.index = i ∧ shows x.fault

section Kind
variable {b : Fin 4} {k : RecordKind}

/-- Checks in the order of the table that fail exactly where the record shows their faults. -/
theorem firstOf_firstFault {i : Nat} {checks : List (Bool × StoreFault)} {shows : StoreFault → Prop}
    (tells : ∀ f, shows f ↔ (false, f) ∈ checks) (order : checks.Pairwise fun a b => a.2.code ≤ b.2.code) :
    FirstOf (fun x => x.At b k i shows) ((firstFault checks).map fun f => ⟨b, k, i, f⟩) := by
  have search : (firstFault checks).map (fun f => (⟨b, k, i, f⟩ : Found)) =
      checks.findSome? fun c => if c.1 then none else some ⟨b, k, i, c.2⟩ := by
    clear tells order
    induction checks with
    | nil => rfl
    | cons c checks ih =>
      obtain ⟨ok, f⟩ := c
      cases ok with
      | true => exact ih
      | false => rfl
  have found := firstOf_findSome (l := checks) (there := fun c x => c.1 = false ∧ x = ⟨b, k, i, c.2⟩)
    (f := fun c => if c.1 then none else some ⟨b, k, i, c.2⟩)
    (fun c _ => by
      obtain ⟨ok, f⟩ := c
      cases ok with
      | true => exact firstOf_none fun x h => nomatch h.1
      | false => exact ⟨⟨rfl, rfl⟩, fun y hy => hy.2 ▸ le_refl _⟩)
    (order.imp fun {c d} le x y hx hy => by
      rw [hx.2, hy.2]
      exact Nat.add_le_add_left le _)
  rw [search]
  refine found.congr fun x => ⟨?_, fun ⟨hb, hk, hi, shown⟩ => ?_⟩
  · rintro ⟨⟨ok, f⟩, listed, rfl, rfl⟩
    exact ⟨rfl, rfl, rfl, (tells f).mpr listed⟩
  · exact ⟨(false, x.fault), (tells _).mp shown, rfl, by rw [← hb, ← hk, ← hi]⟩

/-- The records of a kind, one after another. -/
theorem firstOf_firstIndex {n : Nat} {f : Fin n → Option StoreFault} {shows : Fin n → StoreFault → Prop}
    (each : ∀ i, FirstOf (fun x => x.At b k i.val (shows i)) ((f i).map fun g => ⟨b, k, i.val, g⟩)) :
    FirstOf (fun x => ∃ i, x.At b k i.val (shows i)) ((firstIndex n f).map fun x => ⟨b, k, x.1, x.2⟩) := by
  have search : (firstIndex n f).map (fun x => (⟨b, k, x.1, x.2⟩ : Found)) =
      (List.finRange n).findSome? fun i => (f i).map fun g => ⟨b, k, i.val, g⟩ := by
    unfold firstIndex
    rw [List.map_findSome?]
    simp only [Function.comp_def, Option.map_map]
  rw [search]
  refine firstOf_finRange each fun i j lt x y hx hy => ?_
  obtain ⟨xb, xk, xi, -⟩ := hx
  obtain ⟨yb, yk, yi, -⟩ := hy
  exact place_le_of_index (xb.trans yb.symm) (xk.trans yk.symm) (by rw [xi, yi]; exact lt)

end Kind

/-! ### Steps (R139, checks 1 to 6) -/

section Steps
variable (p : PlanId) (i : Nat) (c : StepCfg)

/-- The faults of checks 5 and 6. -/
def StoreFault.OfNode (f : StoreFault) : Prop := f = .targetAbsent ∨ f = .targetKind

theorem nodeChecks_tell (site : Option SiteTables) (f : StoreFault) :
    f.OfNode ∧ StepShows p i c site f ↔ (false, f) ∈ nodeChecks site c := by
  cases site with
  | none =>
    refine ⟨?_, nofun⟩
    rintro ⟨rfl | rfl, -, t, none, -⟩ <;> cases none
  | some t =>
    have absent : StepShows p i c (some t) .targetAbsent ↔ targetPresent t c = false := by
      simp [targetPresent, StepShows]
    have kind : StepShows p i c (some t) .targetKind ↔ targetAllowed t c = false := by
      have allowed := allowedFor_iff c.action (t.node (c.target.getD 0)).kind
      rw [← Bool.not_eq_true, targetAllowed, allowed, not_not]
      simp [StepShows]
    simp only [nodeChecks, List.mem_cons, Prod.mk.injEq, List.not_mem_nil, or_false]
    constructor
    · rintro ⟨rfl | rfl, shown⟩
      · exact .inl ⟨(absent.mp shown).symm, rfl⟩
      · exact .inr ⟨(kind.mp shown).symm, rfl⟩
    · rintro (⟨fails, rfl⟩ | ⟨fails, rfl⟩)
      · exact ⟨.inl rfl, absent.mpr fails.symm⟩
      · exact ⟨.inr rfl, kind.mpr fails.symm⟩

/-- The checks of a step that need no site tables (R139, checks 1 to 4). -/
def ownChecks : List (Bool × StoreFault) :=
  [(c.prereqs.all (fun q => q.val < i), .prerequisiteOrder), (decide c.prereqs.Nodup, .prerequisiteRepeated),
    (c.action.allowedIn p, .actionNotAllowed), (c.policy != .escalate || p == .l1, .policyNotAllowed)]

theorem stepFault_eq (plan : Plan) (site : Option SiteTables) (i : Fin 64) : stepFault p plan site i =
    if plan.stepCount ≤ i.val then none
    else firstFault (ownChecks p i.val plan.steps[i] ++ nodeChecks site plan.steps[i]) := rfl

theorem ownChecks_tell (site : Option SiteTables) (f : StoreFault) :
    ¬f.OfNode ∧ StepShows p i c site f ↔ (false, f) ∈ ownChecks p i c := by
  have action : StepShows p i c site .actionNotAllowed ↔ c.action.allowedIn p = false := by
    rw [← Bool.not_eq_true, allowedIn_iff, not_not]
    rfl
  have policy : StepShows p i c site .policyNotAllowed ↔ (c.policy != .escalate || p == .l1) = false := by
    simp [StepShows]
  have order : StepShows p i c site .prerequisiteOrder ↔ c.prereqs.all (fun q => q.val < i) = false := by
    simp [StepShows]
  have repeated : StepShows p i c site .prerequisiteRepeated ↔ decide c.prereqs.Nodup = false := by
    simp [StepShows]
  cases f with
  | prerequisiteOrder => rw [order]; simp [StoreFault.OfNode, ownChecks, eq_comm (a := false)]
  | prerequisiteRepeated => rw [repeated]; simp [StoreFault.OfNode, ownChecks, eq_comm (a := false)]
  | actionNotAllowed => rw [action]; simp [StoreFault.OfNode, ownChecks, eq_comm (a := false)]
  | policyNotAllowed => rw [policy]; simp [StoreFault.OfNode, ownChecks, eq_comm (a := false)]
  | _ => simp [StoreFault.OfNode, StepShows, ownChecks]

/-- All checks of a step, in the order of the table. -/
theorem firstOf_stepFault (plan : Plan) (site : Option SiteTables) (i : Fin 64) :
    FirstOf (fun x => x.At p.block .step i.val fun f => i.val < plan.stepCount ∧ StepShows p i.val plan.steps[i] site f)
      ((stepFault p plan site i).map fun f => ⟨p.block, .step, i.val, f⟩) := by
  rw [stepFault_eq]
  by_cases beyond : plan.stepCount ≤ i.val
  · rw [if_pos beyond]
    exact firstOf_none fun x h => absurd h.2.2.2.1 (not_lt.mpr beyond)
  · rw [if_neg beyond]
    refine firstOf_firstFault (fun f => ?_) ?_
    · rw [List.mem_append, ← ownChecks_tell p i.val _ site, ← nodeChecks_tell p i.val, ← or_and_right, and_comm]
      simp [not_le.mp beyond, em']
    · cases site <;> simp [ownChecks, nodeChecks, StoreFault.code]

/-- Checks 5 and 6 alone. -/
theorem firstOf_stepNodeFault (plan : Plan) (t : SiteTables) (i : Fin 64) :
    FirstOf (fun x => x.At p.block .step i.val fun f => i.val < plan.stepCount ∧ f.OfNode ∧
      StepShows p i.val plan.steps[i] (some t) f) ((stepNodeFault plan t i).map fun f => ⟨p.block, .step, i.val, f⟩) := by
  unfold stepNodeFault
  by_cases beyond : plan.stepCount ≤ i.val
  · rw [if_pos beyond]
    exact firstOf_none fun x h => absurd h.2.2.2.1 (not_lt.mpr beyond)
  · rw [if_neg beyond]
    refine firstOf_firstFault (fun f => ?_) ?_
    · rw [← nodeChecks_tell p i.val]
      exact and_iff_right (not_le.mp beyond)
    · simp [nodeChecks, StoreFault.code]

end Steps

/-! ### Site tables (R139, checks 7 to 12) -/

section Tables
variable (t : SiteTables)

theorem firstOf_channelFault (i : Fin 32) : FirstOf (fun x => x.At 3 .channel i.val (ChannelShows t t.channels[i]))
    ((channelFault t i).map fun f => ⟨3, .channel, i.val, f⟩) := by
  refine firstOf_firstFault (fun f => ?_) (by simp [StoreFault.code])
  cases f with
  | _ => simp [ChannelShows]

theorem firstOf_zoneFault (z : Fin 8) : FirstOf (fun x => x.At 3 .zone z.val (ZoneShows t z))
    ((zoneFault t z).map fun f => ⟨3, .zone, z.val, f⟩) := by
  refine firstOf_firstFault (fun f => ?_) (by simp [StoreFault.code])
  cases f with
  | memberRepeated => simp [ZoneShows, membersDistinct, imp_iff_not_or]
  | thresholdAboveMembers => simp [ZoneShows, imp_iff_not_or]
  | _ => simp [ZoneShows]

theorem firstOf_siteFault : FirstOf (fun x => x.At 3 .site 0 (SiteShows t.site))
    ((siteFault t).map fun f => ⟨3, .site, 0, f⟩) := by
  refine firstOf_firstFault (fun f => ?_) (by simp [StoreFault.code])
  cases f with
  | _ => simp [SiteShows]

end Tables

/-! ### Blocks (R139, R140) -/

section Blocks
variable {bs : Blocks} {site : Option SiteTables} {x : Found}

theorem index_lt_of_shows (h : Shows bs site x) : x.index < 256 := by
  unfold Shows at h
  split at h
  · obtain ⟨p, i, -, e, -⟩ := h
    omega
  · obtain ⟨-, i, e, -⟩ := h
    omega
  · obtain ⟨-, z, e, -⟩ := h
    omega
  · rw [h.2.1]
    decide
  · cases h

/-- The faults of a plan block are those of its steps. -/
theorem shows_plan (p : PlanId) : x.block = p.block ∧ Shows bs site x ↔ ∃ i : Fin 64, x.At p.block .step i.val fun f =>
    i.val < (bs.plan p).stepCount ∧ StepShows p i.val (bs.plan p).steps[i] site f := by
  constructor
  · rintro ⟨block, shows⟩
    unfold Shows at shows
    split at shows
    · next kind =>
      obtain ⟨q, i, own, index, within, shown⟩ := shows
      obtain rfl : q = p := block_inj (own.symm.trans block)
      exact ⟨i, block, kind, index, within, shown⟩
    · exact absurd (block.symm.trans shows.1) (block_ne_three p)
    · exact absurd (block.symm.trans shows.1) (block_ne_three p)
    · exact absurd (block.symm.trans shows.1) (block_ne_three p)
    · cases shows
  · rintro ⟨i, block, kind, index, within, shown⟩
    refine ⟨block, ?_⟩
    unfold Shows
    rw [kind]
    exact ⟨p, i, block, index, within, shown⟩

/-- The faults of block 3 are those of its channels, its zones and its SITE record. -/
theorem shows_three : x.block = 3 ∧ Shows bs site x ↔
    (∃ i : Fin 32, x.At 3 .channel i.val (ChannelShows bs.site bs.site.channels[i])) ∨
    (∃ z : Fin 8, x.At 3 .zone z.val (ZoneShows bs.site z)) ∨ x.At 3 .site 0 (SiteShows bs.site.site) := by
  constructor
  · rintro ⟨block, shows⟩
    unfold Shows at shows
    split at shows
    · obtain ⟨q, -, own, -⟩ := shows
      exact absurd (own.symm.trans block) (block_ne_three q)
    · next kind =>
      obtain ⟨-, i, index, shown⟩ := shows
      exact .inl ⟨i, block, kind, index, shown⟩
    · next kind =>
      obtain ⟨-, z, index, shown⟩ := shows
      exact .inr (.inl ⟨z, block, kind, index, shown⟩)
    · next kind => exact .inr (.inr ⟨block, kind, shows.2⟩)
    · cases shows
  · rintro (⟨i, block, kind, index, shown⟩ | ⟨z, block, kind, index, shown⟩ | ⟨block, kind, index, shown⟩)
    · refine ⟨block, ?_⟩
      unfold Shows
      rw [kind]
      exact ⟨block, i, index, shown⟩
    · refine ⟨block, ?_⟩
      unfold Shows
      rw [kind]
      exact ⟨block, z, index, shown⟩
    · refine ⟨block, ?_⟩
      unfold Shows
      rw [kind]
      exact ⟨block, index, shown⟩

theorem firstOf_tablesFault : FirstOf (fun x => x.block = 3 ∧ Shows bs site x) (tablesFault bs.site) := by
  have channels := firstOf_firstIndex (firstOf_channelFault bs.site)
  have zones := firstOf_firstIndex (firstOf_zoneFault bs.site)
  have search : tablesFault bs.site = ((firstIndex 32 (channelFault bs.site)).map fun x => ⟨3, .channel, x.1, x.2⟩).or
      (((firstIndex 8 (zoneFault bs.site)).map fun x => ⟨3, .zone, x.1, x.2⟩).or
        ((siteFault bs.site).map fun f => ⟨3, .site, 0, f⟩)) := by
    unfold tablesFault
    cases firstIndex 32 (channelFault bs.site) with
    | some x => rfl
    | none => cases firstIndex 8 (zoneFault bs.site) <;> rfl
  rw [search]
  refine (channels.or (zones.or (firstOf_siteFault bs.site) ?_) ?_).congr fun x => shows_three.symm
  · rintro x y ⟨z, xb, xk, xi, -⟩ ⟨yb, yk, -⟩
    exact place_le_of_kind (xb.trans yb.symm) (by rw [xk, yk]; decide) (by omega)
  · rintro x y ⟨i, xb, xk, xi, -⟩ (⟨z, yb, yk, -⟩ | ⟨yb, yk, -⟩)
    · exact place_le_of_kind (xb.trans yb.symm) (by rw [xk, yk]; decide) (by omega)
    · exact place_le_of_kind (xb.trans yb.symm) (by rw [xk, yk]; decide) (by omega)

/-- The fault of a block is the first that it shows (R139). -/
theorem firstOf_blockFault (b : Fin 4) : FirstOf (fun x => x.block = b ∧ Shows bs site x) (blockFault b bs site) := by
  rcases plan_or_three b with ⟨p, rfl⟩ | rfl
  · unfold blockFault
    rw [planIn_block]
    exact (firstOf_firstIndex (firstOf_stepFault p (bs.plan p) site)).congr fun x => (shows_plan p).symm
  · exact firstOf_tablesFault

/-- The fault of a plan block under checks 5 and 6 is the first of those two kinds that it shows (R140). -/
theorem firstOf_planNodeFault (p : PlanId) (t : SiteTables) :
    FirstOf (fun x => x.block = p.block ∧ x.fault.OfNode ∧ Shows bs (some t) x) (planNodeFault p (bs.plan p) t) := by
  refine (firstOf_firstIndex (firstOf_stepNodeFault p (bs.plan p) t)).congr fun x => ?_
  rw [and_left_comm, shows_plan]
  constructor
  · rintro ⟨i, block, kind, index, within, node, shown⟩
    exact ⟨node, i, block, kind, index, within, shown⟩
  · rintro ⟨node, i, block, kind, index, within, shown⟩
    exact ⟨i, block, kind, index, within, node, shown⟩

/-- Checks 5 and 6 are of steps only. -/
theorem block_ne_three_of_node {t : Option SiteTables} (node : x.fault.OfNode) (shows : Shows bs t x) : x.block ≠ 3 := by
  intro block
  rcases shows_three.mp ⟨block, shows⟩ with ⟨i, -, -, -, shown⟩ | ⟨z, -, -, -, shown⟩ | ⟨-, -, -, shown⟩
  all_goals rcases node with e | e <;> rw [e] at shown <;> exact shown

end Blocks

end Sys2Proof.Machine
end

section
/-! PROOF. O27: COMMIT. -/

namespace Sys2Proof.Machine

/-! ### The faults that a commit reports (R140) -/

section Faults
variable (named : Vector Bool 4) (s : State)

/-- Blocks searched in ascending order. -/
theorem firstOf_blocks {bs : Blocks} {site : Option SiteTables} {also : Found → Prop} {f : Fin 4 → Option Found}
    (each : ∀ b, FirstOf (fun x => x.block = b ∧ also x ∧ Shows bs site x) (f b)) :
    FirstOf (fun x => also x ∧ Shows bs site x) ((List.finRange 4).findSome? f) := by
  refine (firstOf_finRange each fun b b' lt x y hx hy => ?_).congr fun x => by simp
  obtain ⟨rfl, -, shows⟩ := hx
  obtain ⟨rfl, -⟩ := hy
  exact place_le_of_block lt (index_lt_of_shows shows)

theorem firstOf_shadowFault : FirstOf (fun x => named[x.block] = true ∧ Shows s.store.shadow (s.tablesAfter named) x)
    (s.shadowFault named) := by
  refine firstOf_blocks fun b => ?_
  split
  · next name => exact (firstOf_blockFault b).congr fun x => and_congr_right fun e => by simp [e, name]
  · next other => exact firstOf_none fun x ⟨e, name, _⟩ => other (e ▸ name)

/-- The first stored plan that a new block 3 would contradict, in a VALID block that is not named (R140, check 5). -/
theorem firstOf_inconsistency : FirstOf (fun x => named[(3 : Fin 4)] = true ∧ named[x.block] = false ∧
      s.store.cond[x.block] = .valid ∧ (x.fault = .targetAbsent ∨ x.fault = .targetKind) ∧
      Shows s.nv.blocks (some s.store.shadow.site) x) (s.inconsistency named) := by
  unfold State.inconsistency
  split
  · next tables =>
    refine (firstOf_blocks (bs := s.nv.blocks) (site := some s.store.shadow.site) (also := fun x =>
      named[x.block] = false ∧ s.store.cond[x.block] = .valid ∧ x.fault.OfNode) fun b => ?_).congr fun x => ?_
    · rcases plan_or_three b with ⟨p, rfl⟩ | rfl
      · simp only [planIn_block]
        split
        · next stands =>
          obtain ⟨other, valid⟩ := stands
          rw [Bool.not_eq_true'] at other
          refine (firstOf_planNodeFault p _).congr fun x => and_congr_right fun e => ?_
          simp only [e, other, valid, true_and]
        · next passed =>
          refine firstOf_none fun x ⟨e, ⟨other, valid, _⟩, _⟩ => passed ?_
          simp only [e] at other valid
          exact ⟨Bool.not_eq_true' _ ▸ other, valid⟩
      · exact firstOf_none fun x ⟨e, ⟨_, _, node⟩, shows⟩ => block_ne_three_of_node node shows e
    · simp only [tables, true_and, and_assoc, StoreFault.OfNode]
  · next kept => exact firstOf_none fun x h => kept h.1

theorem data_holds (x : Found) : x.data.length = 4 ∧ fieldAt x.data 0 1 = x.block.val ∧ fieldAt x.data 1 1 = x.kind.code ∧
    fieldAt x.data 2 1 = x.index % 256 ∧ fieldAt x.data 3 1 = x.fault.code := by
  have length : x.data.length = 4 := rfl
  have kind := x.kind.code_lt
  have fault := x.fault.code_lt
  rw [fieldAt_one (by omega), fieldAt_one (by omega), fieldAt_one (by omega), fieldAt_one (by omega)]
  exact ⟨length, toNat_char (by omega), toNat_char (by omega), BitVec.toNat_ofNat .., toNat_char (by omega)⟩

end Faults

/-! ### The request row (R140, R141) -/

section Request
variable {src tag mask : Byte} {named : Vector Bool 4} {s : State}

theorem exec_commit {s₀ : State} (ho : s₀.caughtUp.OpenTo) : exec (.commit src tag mask) s₀ =
    .next (reqCommit ⟨src, tag, 0x12⟩ mask s₀.caughtUp.asked) :=
  exec_request (r := .commit mask) rfl ho rfl (by simp [Req.payload])

/-- A mask that names no block, or one beyond the four. -/
theorem reqCommit_refused {q : Asker} (h : mask.toNat = 0 ∨ 16 ≤ mask.toNat) :
    reqCommit q mask s = answer q .badArgument [] s := by
  unfold reqCommit
  rcases h with zero | beyond
  · obtain rfl : mask = 0 := BitVec.eq_of_toNat_eq zero
    rfl
  · rw [readBlockSet_none.mpr beyond]
    rfl

theorem reqCommit_named {q : Asker} (read : readBlockSet mask = some named) (some : anyOf named = true) :
    reqCommit q mask s = commitNamed q named s := by
  unfold reqCommit
  rw [read]
  exact if_pos some

theorem atRest_false_iff : s.atRest = false ↔ s.site.state = .shutting ∨ s.site.state = .restarting := by
  unfold State.atRest
  cases s.site.state <;> decide

theorem commitNamed_unprotected {q : Asker} (rest : s.atRest = true) (idle : s.store.commit = none)
    (free : s.protects named = false) : commitNamed q named s = match s.shadowFault named with
      | some f => answer q .invalidPlan f.data s
      | none =>
        match s.inconsistency named with
        | some f => answer q .inconsistent f.data s
        | none => admitCommit q.src q.tag named s := by
  unfold commitNamed
  rw [rest, idle, free]
  rfl

end Request

/-- Settles O27: the checks of R140 in their order, and the faults reported as the first that there are. -/
theorem commitIsRefusedInOrderOrAdmitted : Obligations.CommitIsRefusedInOrderOrAdmitted := by
  unfold Obligations.CommitIsRefusedInOrderOrAdmitted
  refine ⟨fun src tag mask s₀ => ?_, fun named s => ⟨firstOf_shadowFault named s, firstOf_inconsistency named s⟩, data_holds⟩
  have does := exec_commit (src := src) (tag := tag) (mask := mask) (s₀ := s₀)
  generalize s₀.caughtUp = s at does
  dsimp only
  intro ho
  rw [does ho]
  refine ⟨fun none => ?_, fun named read some => ?_⟩
  · rw [reqCommit_refused none]
    rfl
  · rw [reqCommit_named read some]
    refine ⟨fun busy => ?_, fun rest commit => ?_, fun rest idle own => ?_, fun rest idle free => ?_⟩
    · have goes : s.asked.atRest = false := atRest_false_iff.mpr busy
      unfold commitNamed
      rw [goes]
      rfl
    · have rest : s.asked.atRest = true := rest
      have commit : s.asked.store.commit.isSome = true := commit
      unfold commitNamed
      rw [rest, commit]
      rfl
    · have rest : s.asked.atRest = true := rest
      have idle : s.asked.store.commit = none := idle
      have own : s.asked.protects named = true := own
      unfold commitNamed
      rw [rest, idle, own]
      rfl
    · rw [commitNamed_unprotected (s := s.asked) rest idle free]
      have shadow : s.asked.shadowFault named = s.shadowFault named := rfl
      have stored : s.asked.inconsistency named = s.inconsistency named := rfl
      rw [shadow, stored]
      refine ⟨fun f fault => ?_, fun f sound fault => ?_, fun sound consistent => ?_⟩
      · rw [fault]
        rfl
      · rw [sound, fault]
        rfl
      · rw [sound, consistent]
        rfl

end Sys2Proof.Machine
end

section
/-! SUPPORT. The characters of a frame: when they hold a length error, when they are whole, and a port's receiver as it takes them one by one (R153, R155 to R159). -/

namespace Sys2Proof.Machine

/-! ### The length error (R156, R159) -/

theorem isSampleLength_iff (n : Nat) : isSampleLength n = true ↔ n ∈ [8, 14, 20, 26] := by
  simp [isSampleLength, or_assoc]

/-- R156 and R159, by places. -/
theorem lengthError_iff (chars : List Byte) : lengthError chars = true ↔
    5 ≤ chars.length ∧
      (48 < fieldAt chars 4 1 ∨
        fieldAt chars 2 1 = 0x20 ∧ (fieldAt chars 4 1 ∉ [8, 14, 20, 26] ∨
          7 ≤ chars.length ∧ fieldAt chars 4 1 ≠ 2 + 6 * fieldAt chars 6 1)) := by
  match chars with
  | [] | [_] | [_, _] | [_, _, _] | [_, _, _, _] => simp [lengthError]
  | dst :: src :: kind :: tag :: len :: rest =>
    have isSample : kind = kindSample ↔ kind.toNat = 32 := BitVec.toNat_inj.symm
    have length : fieldAt (dst :: src :: kind :: tag :: len :: rest) 4 1 = len.toNat := by simp [fieldAt, beNat]
    have sort : fieldAt (dst :: src :: kind :: tag :: len :: rest) 2 1 = kind.toNat := by simp [fieldAt, beNat]
    rw [length, sort, ← isSampleLength_iff]
    match rest with
    | [] | [_] => simp [lengthError, isSample]
    | sensor :: count :: more =>
      have counted : fieldAt (dst :: src :: kind :: tag :: len :: sensor :: count :: more) 6 1 = count.toNat := by
        simp [fieldAt, beNat]
      rw [counted]
      simp [lengthError, isSample, Nat.add_comm 2, eq_comm (a := len.toNat)]

/-- A place within the characters received stays as it is while more come. -/
theorem fieldAt_append_left {a : List Byte} (b : List Byte) {k : Nat} (h : k < a.length) :
    fieldAt (a ++ b) k 1 = fieldAt a k 1 := by
  rw [fieldAt_one h, fieldAt_one (by rw [List.length_append]; omega), List.getElem_append_left]

/-- A length error stays, whatever comes after it. -/
theorem lengthError_append {a : List Byte} (b : List Byte) (h : lengthError a = true) : lengthError (a ++ b) = true := by
  rw [lengthError_iff] at h ⊢
  obtain ⟨five, bad⟩ := h
  rw [fieldAt_append_left b (by omega : 4 < a.length), fieldAt_append_left b (by omega : 2 < a.length), List.length_append]
  refine ⟨by omega, bad.imp_right fun ⟨sample, wrong⟩ => ⟨sample, wrong.imp_right fun ⟨seven, count⟩ => ⟨by omega, ?_⟩⟩⟩
  rwa [fieldAt_append_left b (by omega : 6 < a.length)]

/-- R158 and R159: the sizes that the receiver takes. -/
theorem sizeOk_iff (f : Frame) : f.sizeOk = true ↔ f.payload.length ≤ 48 ∧
    (f.kind = 0x20 → ∃ c, 1 ≤ c ∧ c ≤ 4 ∧ f.payload.length = 2 + 6 * c ∧ fieldAt f.payload 1 1 = c) := by
  obtain ⟨dst, src, kind, tag, payload⟩ := f
  match payload with
  | [] | [_] =>
    have none (n c : Nat) (small : n < 2) : n ≠ 2 + 6 * c := by omega
    simp [Frame.sizeOk, none]
  | sensor :: count :: more =>
    have counted : fieldAt (sensor :: count :: more) 1 1 = count.toNat := by simp [fieldAt, beNat]
    have length (c : Nat) : more.length + 2 = 2 + 6 * c ↔ more.length = 6 * c := by omega
    simp [Frame.sizeOk, counted, length, imp_iff_not_or, and_assoc]

/-! ### The whole frame (R153) -/

/-- A frame has five characters before its payload and two after it. -/
theorem wholeFrame_iff (chars : List Byte) (f : Frame) (check : List Byte) : wholeFrame chars = some (f, check) ↔
    ∃ n : Byte, n.toNat = f.payload.length ∧ check.length = 2 ∧
      chars = [f.dst, f.src, f.kind, f.tag, n] ++ f.payload ++ check := by
  constructor
  · intro whole
    match chars with
    | [] | [_] | [_, _] | [_, _, _] | [_, _, _, _] => simp [wholeFrame] at whole
    | dst :: src :: kind :: tag :: len :: rest =>
      simp only [wholeFrame, Option.ite_none_right_eq_some, Option.some.injEq, Prod.mk.injEq] at whole
      obtain ⟨size, rfl, rfl⟩ := whole
      exact ⟨len, by simp [size], by simp [size], by simp⟩
  · rintro ⟨n, size, two, rfl⟩
    simp [wholeFrame, size, two]

/-- What is a whole frame was none before its last character. -/
theorem wholeFrame_of_append {a b : List Byte} {x : Frame × List Byte} (whole : wholeFrame (a ++ b) = some x) (more : b ≠ []) :
    wholeFrame a = none := by
  obtain ⟨f, check⟩ := x
  by_contra early
  obtain ⟨⟨g, check'⟩, early⟩ := Option.ne_none_iff_exists'.mp early
  obtain ⟨n, size, two, e⟩ := (wholeFrame_iff _ _ _).mp early
  obtain ⟨m, size', two', e'⟩ := (wholeFrame_iff _ _ _).mp whole
  rw [e] at e'
  have same : n = m := by
    simp only [List.cons_append, List.cons.injEq] at e'
    exact e'.2.2.2.2.1
  have lengths := congrArg List.length e'
  simp only [List.length_append, List.length_cons, List.length_nil] at lengths
  have : b.length ≠ 0 := mt List.length_eq_zero_iff.mp more
  subst same
  omega

/-- The characters of a frame are whole, with its check (R153, R154). -/
theorem wholeFrame_chars {f : Frame} (h : f.payload.length ≤ 255) :
    wholeFrame f.chars = some (f, checkChars f.body) :=
  (wholeFrame_iff _ _ _).mpr ⟨BitVec.ofNat 8 f.payload.length, by rw [BitVec.toNat_ofNat]; omega, rfl, rfl⟩

/-- The characters of a frame hold a length error exactly where the receiver does not take its size. -/
theorem lengthError_chars {f : Frame} (h : f.payload.length ≤ 255) : lengthError f.chars = !f.sizeOk := by
  have length : f.chars.length = f.payload.length + 7 := by simp [Frame.chars, Frame.body, checkChars]
  have kind : fieldAt f.chars 2 1 = f.kind.toNat := by simp [Frame.chars, Frame.body, fieldAt, beNat]
  have size : fieldAt f.chars 4 1 = f.payload.length := by simp [Frame.chars, Frame.body, fieldAt, beNat]; omega
  have count (two : 2 ≤ f.payload.length) : fieldAt f.chars 6 1 = fieldAt f.payload 1 1 := by
    rw [fieldAt_one (by omega), fieldAt_one (by omega)]
    simp only [Frame.chars, Frame.body, List.cons_append, List.nil_append, List.getElem_cons_succ]
    rw [List.getElem_append_left (by omega)]
  have isSample : f.kind = 0x20 ↔ f.kind.toNat = 32 := BitVec.toNat_inj.symm
  rw [Bool.eq_iff_iff, Bool.not_eq_true', ← Bool.not_eq_true, lengthError_iff, sizeOk_iff, isSample, kind, size, length]
  constructor
  · rintro ⟨-, long | ⟨sample, wrong⟩⟩ ⟨short, sound⟩
    · omega
    · obtain ⟨c, low, high, exact, holds⟩ := sound sample
      rw [count (by omega), holds, exact] at wrong
      rcases wrong with none | ⟨-, other⟩
      · simp only [List.mem_cons, List.not_mem_nil, or_false] at none
        omega
      · exact other rfl
  · intro bad
    refine ⟨by omega, ?_⟩
    by_contra good
    obtain ⟨short, sound⟩ := not_or.mp good
    refine bad ⟨not_lt.mp short, fun sample => ?_⟩
    obtain ⟨listed, counted⟩ := not_or.mp fun h => sound ⟨sample, h⟩
    simp only [List.mem_cons, List.not_mem_nil, or_false, not_not] at listed
    rw [count (by omega)] at counted
    exact ⟨fieldAt f.payload 1 1, by omega, by omega, by omega, rfl⟩

/-! ### A port's receiver and counters -/

section Port
variable (port : Port) (r r' : Receiver) (c c' : PortCount) (s : State)

@[simp] theorem setPort_rx : (setPort port r c s).rx port = r := by cases port <;> rfl

@[simp] theorem setPort_portCount : (setPort port r c s).portCount port = c := by cases port <;> rfl

@[simp] theorem setPort_setPort : setPort port r' c' (setPort port r c s) = setPort port r' c' s := by cases port <;> rfl

theorem setPort_self : setPort port (s.rx port) (s.portCount port) s = s := by cases port <;> rfl

@[simp] theorem setPort_isRunning : (setPort port r c s).isRunning = s.isRunning := by
  unfold State.isRunning
  rw [setPort_phase]

end Port

/-! ### A character by what the receiver makes of it (R155) -/

section Character
variable {port : Port} {v : Byte} {marker framing : Bool} {r : Receiver} {c : PortCount} {s : State}

theorem characterArrives_of_not_running (off : s.isRunning = false) : characterArrives port v marker framing s = s := by
  unfold characterArrives
  rw [off, if_neg Bool.false_ne_true]

/-- A character that completes no frame changes its port alone. -/
theorem characterArrives_of_none (running : s.isRunning = true)
    (taken : takeChar v marker framing (s.rx port) (s.portCount port) = ⟨r, c, none⟩) :
    characterArrives port v marker framing s = setPort port r c s := by
  unfold characterArrives
  rw [if_pos running, taken]

/-- A character that completes a frame has it routed. -/
theorem characterArrives_of_some (running : s.isRunning = true) {f : Frame}
    (taken : takeChar v marker framing (s.rx port) (s.portCount port) = ⟨r, c, some f⟩) :
    characterArrives port v marker framing s = route port f (setPort port r c s) := by
  unfold characterArrives
  rw [if_pos running, taken]

/-- A receiver that passes over a damaged frame takes neither a damaged nor an unmarked character. -/
theorem characterArrives_discarding (running : s.isRunning = true) (phase : (s.rx port).phase = .discarding)
    (passed : framing = true ∨ marker = false) : characterArrives port v marker framing s = s := by
  have taken : takeChar v marker framing (s.rx port) (s.portCount port) = ⟨s.rx port, s.portCount port, none⟩ := by
    rcases passed with rfl | rfl
    · simp [takeChar, takeFramingError, phase]
    · simp [takeChar, takeFramingError, takeUnmarked, phase]
  rw [characterArrives_of_none running taken, setPort_self]

/-- An unmarked character in a frame being assembled: a length error, one more character, or the last of the frame, whose
check is right or not (R155, R156, R159). -/
theorem characterArrives_assembling (running : s.isRunning = true) (phase : (s.rx port).phase = .assembling) :
    characterArrives port v false false s =
      if lengthError ((s.rx port).chars ++ [v]) then
        setPort port .discarding { s.portCount port with length := bump (s.portCount port).length } s
      else
        match wholeFrame ((s.rx port).chars ++ [v]) with
        | none => setPort port ⟨.assembling, (s.rx port).chars ++ [v]⟩ (s.portCount port) s
        | some (f, check) =>
          if check = checkChars f.body then route port f (s.gotFrame port f)
          else setPort port {} { s.portCount port with check := bump (s.portCount port).check } s := by
  have adds : takeChar v false false (s.rx port) (s.portCount port) = addChar v (s.rx port) (s.portCount port) := by
    simp [takeChar, takeUnmarked, phase]
  split
  · next wrong => exact characterArrives_of_none running (by rw [adds]; simp [addChar, wrong])
  · next right =>
    split
    · next whole => exact characterArrives_of_none running (by rw [adds]; simp [addChar, right, whole])
    · next f check whole =>
      split
      · next agrees => exact characterArrives_of_some running (by rw [adds]; simp [addChar, right, whole, agrees])
      · next differs => exact characterArrives_of_none running (by rw [adds]; simp [addChar, right, whole, differs])

/-- The first character of a frame on a port that is free. -/
theorem characterArrives_first (free : s.portFree port) :
    characterArrives port v true false s = setPort port (.begun v) (s.portCount port) s := by
  refine characterArrives_of_none free.1 ?_
  have other := free.2
  cases phase : (s.rx port).phase with
  | assembling => exact absurd phase other
  | idle | discarding => simp [takeChar, takeMarked, phase]

end Character

/-! ### The characters of a frame one after another (R153, R155) -/

section Feed
variable {port : Port} {c : PortCount} {s : State}

/-- The rest of a damaged frame is passed over. -/
theorem feed_discarding (running : s.isRunning = true) (l : List Byte) :
    feed port false l (setPort port .discarding c s) = setPort port .discarding c s := by
  induction l with
  | nil => rfl
  | cons v l ih =>
    unfold feed
    rw [characterArrives_discarding (by rwa [setPort_isRunning]) (by rw [setPort_rx]; rfl) (.inr rfl), ih]

/-- The rest of a frame of which the receiver holds the first characters `pre`: a length error somewhere in it damages the
frame, and without one its last character completes it. -/
theorem feed_rest (running : s.isRunning = true) {pre l : List Byte} {f : Frame} {check : List Byte} (more : l ≠ [])
    (whole : wholeFrame (pre ++ l) = some (f, check)) :
    feed port false l (setPort port ⟨.assembling, pre⟩ c s) =
      if lengthError (pre ++ l) then setPort port .discarding { c with length := bump c.length } s
      else if check = checkChars f.body then route port f (setPort port {} (c.completed f) s)
      else setPort port {} { c with check := bump c.check } s := by
  induction l generalizing pre with
  | nil => exact absurd rfl more
  | cons v l ih =>
    unfold feed
    rw [characterArrives_assembling (by rwa [setPort_isRunning]) (by rw [setPort_rx])]
    unfold State.gotFrame
    simp only [setPort_rx, setPort_portCount, setPort_setPort]
    have split : pre ++ v :: l = pre ++ [v] ++ l := List.append_cons pre v l
    rw [split] at whole ⊢
    by_cases last : l = []
    · subst last
      rw [List.append_nil] at whole ⊢
      rw [whole]
      rfl
    · by_cases wrong : lengthError (pre ++ [v]) = true
      · rw [if_pos wrong, if_pos (lengthError_append l wrong), feed_discarding running]
      · rw [if_neg wrong, wholeFrame_of_append whole last]
        exact ih last whole

end Feed

/-- A frame of a size that the receiver does not take is damaged by its length error (R156, R159). -/
theorem frameArrives_damaged {s : State} {port : Port} (free : s.portFree port) {f : Frame} (size : f.sizeOk = false) :
    frameArrives port f s =
      setPort port .discarding { s.portCount port with length := bump (s.portCount port).length } s := by
  unfold frameArrives
  rw [if_pos free.1, startCount_of_free free, size, if_neg Bool.false_ne_true]

/-- All the characters of a frame on a free port do what its arrival does (R153 to R156, R159). -/
theorem feed_chars {s : State} {port : Port} (free : s.portFree port) {f : Frame} (length : f.payload.length ≤ 255) :
    feed port true f.chars s = frameArrives port f s := by
  obtain ⟨rest, chars, more⟩ : ∃ rest, f.chars = f.dst :: rest ∧ rest ≠ [] :=
    ⟨f.chars.tail, rfl, by simp [Frame.chars, Frame.body]⟩
  have whole := wholeFrame_chars length
  have wrong := lengthError_chars length
  rw [chars] at whole wrong ⊢
  unfold feed
  rw [characterArrives_first free]
  unfold Receiver.begun
  rw [feed_rest free.1 (pre := [f.dst]) more whole, if_pos rfl, List.singleton_append, wrong]
  cases size : f.sizeOk with
  | false => exact (frameArrives_damaged free size).symm
  | true => exact (frameArrives_of_free free size).symm

/-! ### The end of a gap (R155, R156) -/

theorem gapExpires_running {s : State} (running : s.isRunning = true) (port : Port) : gapExpires port s =
    match (s.rx port).phase with
    | .idle => s
    | .assembling => setPort port {} { s.portCount port with truncated := bump (s.portCount port).truncated } s
    | .discarding => setPort port {} (s.portCount port) s := if_pos running

end Sys2Proof.Machine
end

section
/-! PROOF. O10 and O9: a frame character by character, and a receiver by its state. -/

namespace Sys2Proof.Machine

/-- Settles O10: the characters by what the first of them begins and the rest completes or damages. -/
theorem charactersOfAFrameDoWhatItsRowDoes : Obligations.CharactersOfAFrameDoWhatItsRowDoes := by
  unfold Obligations.CharactersOfAFrameDoWhatItsRowDoes
  exact ⟨fun port f s free length => feed_chars free length, sizeOk_iff,
    fun port f s free size => frameArrives_damaged free size,
    fun c f s₀ => ⟨fun frame => exec_of_pFrameOf frame s₀, fun frame => exec_of_sFrameOf frame s₀,
      fun src tag payload => rfl⟩⟩

/-- A character row is the arrival of its bits as that character (R152). -/
theorem exec_receiveCharacter (port : Port) (v : Byte) (marker framing : Bool) (s₀ : State) :
    exec (.receiveCharacter port v marker framing) s₀ =
      .next (characterArrives port v marker framing s₀.caughtUp) := by
  have arrives := bitsArrive_charBits port v marker (!framing) s₀.caughtUp
  rw [Bool.not_not] at arrives
  exact congrArg Host.Outcome.next arrives

/-- Settles O9, by the receiver's state, the stop bit and the marker. -/
theorem receiverTakesCharactersAndGapsByItsState : Obligations.ReceiverTakesCharactersAndGapsByItsState := by
  unfold Obligations.ReceiverTakesCharactersAndGapsByItsState
  refine ⟨fun port v marker framing s₀ => ?_, lengthError_iff, wholeFrame_iff⟩
  have gap : exec (.receiveGapExpiry port) s₀ = .next (gapExpires port s₀.caughtUp) := rfl
  rw [gap, exec_receiveCharacter]
  generalize s₀.caughtUp = s
  refine ⟨fun running => congrArg Host.Outcome.next (gapExpires_running running port), ?_⟩
  split
  · next off => rw [characterArrives_of_not_running off]
  · next on =>
    have running : s.isRunning = true := by simpa using on
    have does {r : Receiver} {c : PortCount}
        (taken : takeChar v marker framing (s.rx port) (s.portCount port) = ⟨r, c, none⟩) :
        (.next (characterArrives port v marker framing s) : Host.Outcome State Fault Refusal) = .next (setPort port r c s) :=
      congrArg Host.Outcome.next (characterArrives_of_none running taken)
    cases phase : (s.rx port).phase with
    | idle =>
      cases framing with
      | true => exact does (by simp [takeChar, takeFramingError, phase])
      | false =>
        cases marker with
        | true => exact does (by simp [takeChar, takeMarked, phase])
        | false => exact does (by simp [takeChar, takeUnmarked, phase])
    | discarding =>
      cases framing with
      | true => rw [characterArrives_discarding running phase (.inl rfl)]
      | false =>
        cases marker with
        | true => exact does (by simp [takeChar, takeMarked, phase])
        | false => rw [characterArrives_discarding running phase (.inr rfl)]
    | assembling =>
      cases framing with
      | true => exact does (by simp [takeChar, takeFramingError, phase])
      | false =>
        cases marker with
        | true => exact does (by simp [takeChar, takeMarked, phase])
        | false =>
          dsimp only
          rw [characterArrives_assembling running phase, apply_ite Host.Outcome.next]
          refine if_congr Iff.rfl rfl ?_
          cases wholeFrame ((s.rx port).chars ++ [v]) with
          | none => rfl
          | some x => exact apply_ite Host.Outcome.next ..

end Sys2Proof.Machine
end

section
/-! PROOF. O35, O37 and O39: the reset requests, the end of an S-port transmission and the S-port arbiter's choice. -/

namespace Sys2Proof.Machine

/-! ### The reset requests (R163, R164, R189) -/

section Requests
variable {src tag : Byte} {s₀ : State}

theorem exec_resetPortS (ho : s₀.caughtUp.OpenTo) : exec (.resetPortS src tag) s₀ =
    .next (acceptResetS ⟨src, tag, 0x33⟩ s₀.caughtUp.asked) := by
  have port (q : Asker) (s : State) : reqResetPort q 0 s = acceptResetS q s := if_pos (by decide)
  rw [← port]
  exact exec_request (r := .resetPort 0) rfl ho rfl (by simp [Req.payload])

theorem exec_resetPortP (ho : s₀.caughtUp.OpenTo) : exec (.resetPortP src tag) s₀ =
    .next (acceptResetP ⟨src, tag, 0x33⟩ s₀.caughtUp.asked) := by
  have port (q : Asker) (s : State) : reqResetPort q 1 s = acceptResetP q s := by
    unfold reqResetPort
    rw [if_neg (by decide), if_pos (by decide)]
  rw [← port]
  exact exec_request (r := .resetPort 1) rfl ho rfl (by simp [Req.payload])

theorem exec_resetPart (ho : s₀.caughtUp.OpenTo) : exec (.resetPart src tag) s₀ =
    .next (reqResetPart ⟨src, tag, 0x34⟩ s₀.caughtUp.asked) :=
  exec_request (r := .resetPart) rfl ho rfl (by simp [Req.payload])

end Requests

/-- Settles O35: the requests' own definitions, that of the P-port by whether the site is at rest. -/
theorem resetRequestsBecomePending : Obligations.ResetRequestsBecomePending := by
  unfold Obligations.ResetRequestsBecomePending
  intro src tag s₀
  have portS := exec_resetPortS (src := src) (tag := tag) (s₀ := s₀)
  have portP := exec_resetPortP (src := src) (tag := tag) (s₀ := s₀)
  have part := exec_resetPart (src := src) (tag := tag) (s₀ := s₀)
  generalize s₀.caughtUp = s at portS portP part
  dsimp only
  intro ho
  refine ⟨portS ho, fun busy => ?_, fun notShutting notRestarting => ?_, part ho⟩
  · have goes : s.asked.atRest = false := atRest_of_or busy
    rw [portP ho]
    unfold acceptResetP
    rw [goes]
    rfl
  · have rest : s.asked.atRest = true := atRest_of_ne notShutting notRestarting
    rw [portP ho]
    unfold acceptResetP
    rw [if_pos rest]
    rfl

/-! ### An S-port transmission's end (R161, R164, R189) -/

theorem exec_sTransmissionEnd {s₀ : State} (running : s₀.caughtUp.isRunning = true) :
    exec .sTransmissionEnd s₀ = .next (sEnds s₀.caughtUp) :=
  congrArg Host.Outcome.next (if_pos running)

theorem sEnds_of_sending {s : State} {t : SSending} (sends : s.link.sTx = some t) :
    sEnds s = resetAfter t.mark { s with link.sTx := none, link.sCount.sent := bump s.link.sCount.sent } := by
  unfold sEnds
  rw [sends]

/-- Settles O37, by which response the frame ends. -/
theorem sTransmissionEndMakesResetsDue : Obligations.STransmissionEndMakesResetsDue := by
  unfold Obligations.STransmissionEndMakesResetsDue
  intro t s₀
  have does := exec_sTransmissionEnd (s₀ := s₀)
  generalize s₀.caughtUp = s at does
  dsimp only
  intro running sends
  rw [does running, sEnds_of_sending sends]
  refine ⟨fun plain => ?_, fun port pending noReset last => ?_, fun port other => ?_, fun part pending => ?_⟩
  · rw [plain]
    rfl
  · rw [port]
    exact congrArg Host.Outcome.next (if_pos ⟨pending, noReset, by simpa [State.awaitsPortReset] using last⟩)
  · rw [port]
    refine congrArg Host.Outcome.next (if_neg fun ⟨_, noReset, last⟩ => ?_)
    rcases other with commanded | waits
    · exact commanded noReset
    · exact absurd waits (by simpa [State.awaitsPortReset] using last)
  · rw [part]
    exact congrArg Host.Outcome.next (if_pos pending)

/-! ### The S-port arbiter's choice (R179, R183, R184) -/

section SChoice
variable {s : State}

theorem sMayChoose_iff : s.sMayChoose = true ↔ s.isRunning = true ∧ s.link.sTx = none := by
  simp [State.sMayChoose]

theorem responsesOnly_iff : s.responsesOnly = true ↔ s.link.sReset ≠ .none ∨ s.mgmt.cmdReset ≠ .none := by
  simp [State.responsesOnly]

theorem responsesOnly_eq_false : s.responsesOnly = false ↔ s.link.sReset = .none ∧ s.mgmt.cmdReset = .none := by
  simp [State.responsesOnly]

theorem sChooses_response (may : s.sMayChoose = true) {r : Response} {rest : List Response}
    (responses : s.mgmt.responses = r :: rest) : sChooses s =
      sSends (s.responseFrame r) (if r.atLast then r.mark else .plain) { s with mgmt.responses := afterPart r rest } := by
  unfold sChooses
  rw [if_pos may, responses]

theorem sChooses_notice (may : s.sMayChoose = true) (responses : s.mgmt.responses = []) (free : s.responsesOnly = false)
    {f : Frame} (notice : s.router.notice = some f) : sChooses s = sSends f .plain { s with router.notice := none } := by
  unfold sChooses sChoosesOther
  rw [if_pos may, responses, free, notice]
  rfl

theorem sChooses_forwarded (may : s.sMayChoose = true) (responses : s.mgmt.responses = []) (free : s.responsesOnly = false)
    (notice : s.router.notice = none) {f : Frame} {rest : List Frame} (frames : s.router.pToS = f :: rest) :
    sChooses s = sSends f .plain { s with router.pToS := rest } := by
  unfold sChooses sChoosesOther
  rw [if_pos may, responses, free, notice, frames]
  rfl

theorem sReady_eq_false (may : s.sMayChoose = true) : s.sReady = false ↔ s.mgmt.responses = [] ∧
    (s.responsesOnly = true ∨ s.router.notice = none ∧ s.router.pToS = []) := by
  cases only : s.responsesOnly <;> simp [State.sReady, may, only]

/-- Where nothing is ready for the P-port either, the S-port's choice is the next thing that is taken. -/
theorem caughtUp_of_pChosen (h : s.PChosen) : s.caughtUp = takeUpFollows (heldFollow (sChooses s)) := by
  rw [caughtUp_of_joined h.toJoined, pChooses_of_not_ready h.pReady]

/-- A frame for an idle S-port is found on its line by whatever comes next (R179). -/
theorem caughtUp_of_frame_pToS (running : s.isRunning = true) (still : s.nothingFollows = true) (idle : s.link.sTx = none)
    (sReset : s.link.sReset = .none) (cmdReset : s.mgmt.cmdReset = .none) (f : Frame) :
    ({ s with router.pToS := [f] } : State).caughtUp =
      ({ s with link.sTx := some ⟨f.line, .plain⟩ } : State).caughtUp := by
  obtain ⟨reset, activation, sDue, pDue, held, pQuiet, sQuiet, -⟩ := nothingFollows_iff.mp still
  have may : s.sMayChoose = true := sMayChoose_iff.mpr ⟨running, idle⟩
  have free : s.responsesOnly = false := responsesOnly_eq_false.mpr ⟨sReset, cmdReset⟩
  obtain ⟨responses, only | ⟨notice, frames⟩⟩ := (sReady_eq_false may).mp sQuiet
  · rw [free] at only
    cases only
  have waits : ({ s with router.pToS := [f] } : State).PChosen :=
    ⟨⟨⟨⟨⟨⟨running, reset⟩, activation⟩, sDue⟩, pDue⟩, held⟩, pQuiet⟩
  have sending : ({ s with link.sTx := some ⟨f.line, .plain⟩ } : State).PChosen :=
    ⟨⟨⟨⟨⟨⟨running, reset⟩, activation⟩, sDue⟩, pDue⟩, held⟩, pQuiet⟩
  have begins : sChooses { s with router.pToS := [f] } = { s with link.sTx := some ⟨f.line, .plain⟩ } := by
    rw [sChooses_forwarded (s := { s with router.pToS := [f] }) may responses free notice rfl, ← frames]
    rfl
  have goesOn : sChooses { s with link.sTx := some ⟨f.line, .plain⟩ } = { s with link.sTx := some ⟨f.line, .plain⟩ } :=
    sChooses_of_not_ready (by simp [State.sReady, State.sMayChoose])
  rw [caughtUp_of_pChosen waits, caughtUp_of_pChosen sending, begins, goesOn]

end SChoice

/-- Settles O39: the choices by what is ready, the next part by whether it is the last. -/
theorem sArbiterServesResponsesThenNoticeThenForwarded : Obligations.SArbiterServesResponsesThenNoticeThenForwarded := by
  unfold Obligations.SArbiterServesResponsesThenNoticeThenForwarded
  refine ⟨fun s₀ => ?_, fun c f s own running still idle sReset cmdReset => ?_⟩
  · have row : exec .sArbiterChoice s₀ = .next (sChooses (s₀.caughtUpTo 6)) := rfl
    rw [row]
    generalize s₀.caughtUpTo 6 = s
    dsimp only
    intro running idle
    have may : s.sMayChoose = true := sMayChoose_iff.mpr ⟨running, idle⟩
    refine ⟨fun r rest responses => ?_, fun empty pending => ?_, fun empty sReset cmdReset => ?_⟩
    · rw [sChooses_response may responses]
      refine ⟨fun last => ?_, fun more => ?_⟩
      · have last : r.atLast = true := decide_eq_true last
        unfold afterPart
        rw [if_pos last, if_pos last]
        rfl
      · have more : r.atLast = false := decide_eq_false (not_le.mpr more)
        unfold afterPart
        rw [more]
        rfl
    · rw [sChooses_of_not_ready ((sReady_eq_false may).mpr ⟨empty, .inl (responsesOnly_iff.mpr pending)⟩)]
    · have free : s.responsesOnly = false := responsesOnly_eq_false.mpr ⟨sReset, cmdReset⟩
      refine ⟨fun f notice => ?_, fun noNotice f rest frames => ?_, fun noNotice noFrame => ?_⟩
      · exact congrArg Host.Outcome.next (sChooses_notice may empty free notice)
      · exact congrArg Host.Outcome.next (sChooses_forwarded may empty free noNotice frames)
      · rw [sChooses_of_not_ready ((sReady_eq_false may).mpr ⟨empty, .inr ⟨noNotice, noFrame⟩⟩)]
  · obtain ⟨g, does⟩ := exec_is_event own
    rw [does, does, event_eq, event_eq, caughtUp_of_frame_pToS running still idle sReset cmdReset f]

end Sys2Proof.Machine
end

section
/-! SUPPORT. The node table through the three stages of a P-port frame, and a frame that no block acts on (R165 to R169). -/

namespace Sys2Proof.Machine

/-! ### The node table through the second and third stages -/

/-- The node table's runtime part with its two counters (R166, R168). -/
def State.nodeTable (s : State) : Vector NodeRt 128 × Nat × Nat :=
  (s.router.nodes, s.router.count.unknownStates, s.router.count.unknownSources)

theorem nodeTable_eq {s : State} {nodes : Vector NodeRt 128} {unknown sources : Nat} :
    s.nodeTable = (nodes, unknown, sources) ↔ s.router.nodes = nodes ∧ s.router.count.unknownStates = unknown ∧
      s.router.count.unknownSources = sources := by
  simp [State.nodeTable]

theorem nodeTable_of_fixed {s t : State} (h : t.fixed = s.fixed) : t.nodeTable = s.nodeTable :=
  (congrArg State.nodeTable h : _)

theorem nodeTable_of_fixedButVoter {s t : State} (h : t.fixedButVoter = s.fixedButVoter) : t.nodeTable = s.nodeTable :=
  (congrArg State.nodeTable h : _)

theorem nodeTable_formRemote (s : State) : (formRemote s).nodeTable = s.nodeTable :=
  (congrArg State.nodeTable (fixed_formRemote s) : _)

theorem nodeTable_reloadIfAlert (cls : Nat) (s : State) : (reloadIfAlert cls s).nodeTable = s.nodeTable := by
  unfold reloadIfAlert; split <;> rfl

theorem nodeTable_takeWarning (w : Warning) (s : State) : (takeWarning w s).nodeTable = s.nodeTable := by
  unfold takeWarning
  split
  · dsimp only
    rw [nodeTable_formRemote, apply_ite State.nodeTable]
    exact ite_self _
  · split
    · rw [nodeTable_formRemote, nodeTable_reloadIfAlert]; rfl
    · split
      · split
        · rw [nodeTable_formRemote, nodeTable_reloadIfAlert]; rfl
        · rfl
      · rfl

theorem nodeTable_warningFrame (src : Byte) (payload : List Byte) (s : State) :
    (warningFrame src payload s).nodeTable = s.nodeTable := by
  unfold warningFrame
  dsimp only
  split
  · split
    · exact nodeTable_takeWarning _ s
    · rfl
  · rfl

theorem nodeTable_sampleFrame (src : Byte) (payload : List Byte) (s : State) :
    (sampleFrame src payload s).nodeTable = s.nodeTable := by
  match payload with
  | [] | [_] => rfl
  | seq :: count :: rest =>
    cases present : (s.nodeCfg src.toNat).present with
    | false => rw [sampleFrame_absent present]
    | true =>
      rw [sampleFrame_present present, nodeTable_of_fixedButVoter (fixedButVoter_handAll _ _)]
      simp only [State.nodeTable]

theorem nodeTable_handToExecutor (f : Frame) (code : Byte) (s : State) :
    (handToExecutor f code s).nodeTable = s.nodeTable := by
  unfold handToExecutor
  split
  · exact nodeTable_of_fixed (fixed_takeReply ..)
  · split
    · exact nodeTable_of_fixed (fixed_takeReport ..)
    · rfl

/-- No block that acts on a frame's content touches the node table (R168). -/
theorem nodeTable_handToBlocks (f : Frame) (s : State) : (handToBlocks f s).nodeTable = s.nodeTable := by
  unfold handToBlocks
  split
  · exact nodeTable_sampleFrame ..
  · split
    · exact nodeTable_warningFrame ..
    · split
      · exact nodeTable_handToExecutor ..
      · rfl

theorem nodeTable_forwardP (f : Frame) (s : State) : (forwardP f s).nodeTable = s.nodeTable := by
  unfold forwardP
  split
  · split <;> rfl
  · split
    · split <;> rfl
    · split <;> rfl

/-! ### The node table in the first stage -/

/-- An entry of the table replaced, and the others. -/
theorem putAt_get {n : Nat} {α : Type} (v : Vector α n) (x : α) (i : Nat) (a : Fin n) :
    (putAt v i x)[a] = if a.val = i then x else v[a] := by
  unfold putAt
  split
  · simp only [Fin.getElem_fin, Vector.getElem_set, eq_comm]
  · next beyond => rw [if_neg (by have := a.isLt; omega)]

/-- What a present source's entry becomes: the state that the frame carries, else the one it had, heard now (R166). -/
def State.heardAs (s : State) (f : Frame) : NodeRt :=
  ⟨(f.stateCode.map nodeStateOf).getD (s.nodeRt f.src.toNat).reported, 0⟩

/-- The frame carries a node state code above 3 (R166). -/
def Frame.carriesUnknown (f : Frame) : Bool := f.stateCode.any fun code => 3 < code.toNat

/-- A present source is heard, and a code above 3 counted (R166). -/
theorem nodeTable_hearSource_present {f : Frame} {s : State} (present : (s.nodeCfg f.src.toNat).present = true) :
    (hearSource f s).nodeTable = (putAt s.router.nodes f.src.toNat (s.heardAs f),
      if f.carriesUnknown then bump s.router.count.unknownStates else s.router.count.unknownStates,
      s.router.count.unknownSources) := by
  unfold hearSource State.heardAs Frame.carriesUnknown
  dsimp only
  rw [if_pos present]
  cases f.stateCode with
  | none => rfl
  | some code =>
    unfold takeNodeState
    by_cases unknown : 3 < code.toNat
    · simp [unknown, State.nodeTable, setNodeRt]
    · simp [unknown, State.nodeTable, setNodeRt]

/-- A source that is not present changes no entry and is counted (R168). -/
theorem nodeTable_hearSource_absent {f : Frame} {s : State} (absent : (s.nodeCfg f.src.toNat).present = false) :
    (hearSource f s).nodeTable =
      (s.router.nodes, s.router.count.unknownStates, bump s.router.count.unknownSources) := by
  unfold hearSource
  dsimp only
  rw [absent, if_neg Bool.false_ne_true]
  rfl

/-- The node state code of a frame as a number of its payload's characters: a REPLY's second of two, a STATUS's first of one
to nine (R158, R160). -/
theorem stateCode_toNat (f : Frame) : f.stateCode.map BitVec.toNat =
    if f.kind = 0x11 ∧ f.payload.length = 2 then some (fieldAt f.payload 1 1)
    else if f.kind = 0x12 ∧ 1 ≤ f.payload.length ∧ f.payload.length ≤ 9 then some (fieldAt f.payload 0 1)
    else none := by
  obtain ⟨dst, src, kind, tag, payload⟩ := f
  unfold Frame.stateCode
  dsimp only
  by_cases reply : kind = kindReply
  · subst reply
    match payload with
    | [] | [_] | _ :: _ :: _ :: _ => simp [kindReply]
    | [result, code] => simp [kindReply, fieldAt, beNat]
  · by_cases status : kind = kindStatus
    · subst status
      match payload with
      | [] => rfl
      | code :: detail =>
        have first : fieldAt (code :: detail) 0 1 = code.toNat := by simp [fieldAt, beNat]
        simp [kindReply, kindStatus, Frame.wellFormed, first, apply_ite]
    · rw [if_neg reply, if_neg fun h => status h.1, if_neg fun h => reply h.1, if_neg fun h => status h.1]
      rfl

/-- What a present source's entry reports once a frame with a code is heard (R166). -/
theorem reported_heardAs {f : Frame} {n : Nat} (code : f.stateCode.map BitVec.toNat = some n) (s : State) :
    (s.heardAs f).reported = if n = 0 then .run else if n = 1 then .idle else if n = 2 then .safe
      else if n = 3 then .fault else .unknown := by
  obtain ⟨c, carried, rfl⟩ := Option.map_eq_some_iff.mp code
  unfold State.heardAs
  rw [carried]
  rfl

theorem reported_heardAs_of_none {f : Frame} (code : f.stateCode.map BitVec.toNat = none) (s : State) :
    (s.heardAs f).reported = (s.nodeRt f.src.toNat).reported := by
  unfold State.heardAs
  rw [Option.map_eq_none_iff.mp code]
  rfl

theorem carriesUnknown_iff (f : Frame) :
    f.carriesUnknown = true ↔ ∃ n, f.stateCode.map BitVec.toNat = some n ∧ 4 ≤ n := by
  unfold Frame.carriesUnknown
  cases f.stateCode with
  | none => simp
  | some code => simp [Nat.succ_le_iff]

/-- The node table once a P-port frame has been through its three stages is as the first left it (R168). -/
theorem nodeTable_routeP (f : Frame) (s : State) : (routeP f s).nodeTable = (hearSource f s).nodeTable := by
  unfold routeP
  rw [nodeTable_forwardP, nodeTable_handToBlocks]

/-! ### A P-port frame row (R165, R168) -/

/-- A kind without a row of its own on the P-port is none of the four (R168). -/
theorem kind_of_no_row {kind : Byte} (other : ownPRow kind = false) :
    kind ≠ kindReply ∧ kind ≠ kindStatus ∧ kind ≠ kindSample ∧ kind ≠ kindWarning := by
  simpa [ownPRow, and_assoc] using other

/-- A frame of a kind that no block acts on stays as the first stage left it (R168). -/
theorem handToBlocks_other {f : Frame} (other : ownPRow f.kind = false) (s : State) : handToBlocks f s = s := by
  obtain ⟨reply, status, sample, warning⟩ := kind_of_no_row other
  simp [handToBlocks, Frame.isSample, Frame.stateCode, reply, status, sample, warning]

/-- Neither the port's count nor the first stage changes the part's own address and SUP_ADDR (R165). -/
theorem addresses_heard (f : Frame) (port : Port) (s : State) :
    (hearSource f (s.gotFrame port f)).ownAddress = s.ownAddress ∧
      (hearSource f (s.gotFrame port f)).supAddress = s.supAddress := by
  obtain ⟨r, heard⟩ := hearSource_router f (s.gotFrame port f)
  rw [heard]
  cases port <;> exact ⟨rfl, rfl⟩

theorem toNat_eq_broadcast {a : Byte} : a.toNat = 127 ↔ a = 127 := by rw [← BitVec.toNat_inj]; rfl

/-- A P-port frame row in service has its frame go through the three stages, whatever the port was in the middle of: what
is written on the way there is the port's alone. -/
theorem exec_pFrame_running {c : Instr} {f : Frame} {s₀ : State} (row : pFrameOf c = some f)
    (running : s₀.caughtUp.isRunning = true) (size : f.sizeOk = true) :
    ∃ u, exec c s₀ = .next (routeP f u) ∧ u.SameGround s₀.caughtUp ∧ u.router = s₀.caughtUp.router :=
  ⟨_, (exec_of_pFrameOf row s₀).trans (congrArg Host.Outcome.next (frameArrives_running running .p size)),
    sameGround_setPort .., setPort_router ..⟩

end Sys2Proof.Machine
end

section
/-! PROOF. O12 and O17: the node table after a P-port frame, and the way of a frame of no kind with a row of its own. -/

namespace Sys2Proof.Machine

/-- Settles O12, by whether the source is present. -/
theorem pFramesUpdateTheNodeTable : Obligations.PFramesUpdateTheNodeTable := by
  unfold Obligations.PFramesUpdateTheNodeTable
  intro c f s₀ s row running size present code
  obtain ⟨u, does, ground, same⟩ : ∃ u, exec c s₀ = .next (routeP f u) ∧ u.SameGround s ∧ u.router = s.router :=
    exec_pFrame_running row running size
  clear_value s
  refine ⟨_, does, ?_⟩
  have read : f.stateCode.map BitVec.toNat = code := stateCode_toNat f
  have config : (u.nodeCfg f.src.toNat).present = present := by rw [ground.nodeCfg]
  have table := nodeTable_routeP f u
  generalize routeP f u = t at table
  cases there : present with
  | false =>
    rw [nodeTable_hearSource_absent (config.trans there), same] at table
    obtain ⟨nodes, unknown, sources⟩ := nodeTable_eq.mp table
    simp [nodes, unknown, sources]
  | true =>
    rw [nodeTable_hearSource_present (config.trans there), same] at table
    obtain ⟨nodes, unknown, sources⟩ := nodeTable_eq.mp table
    refine ⟨fun a other => ?_, fun a source => ⟨nofun, fun _ => ?_⟩, ?_, by rw [sources, if_pos rfl]⟩
    · rw [nodes, putAt_get, if_neg other]
    · have entry : t.router.nodes[a] = u.heardAs f := by rw [nodes, putAt_get, if_pos source]
      have reports {k : Nat} (carried : code = some k) := reported_heardAs (read.trans carried) u
      rw [entry]
      refine ⟨rfl, fun silent => ?_, reports, reports, reports, reports, fun k carried high => ?_⟩
      · rw [reported_heardAs_of_none (read.trans silent), ← source, nodeRt_eq, same]
      · rw [reports carried, if_neg (by omega), if_neg (by omega), if_neg (by omega), if_neg (by omega)]
    · rw [unknown]
      refine if_congr ?_ rfl rfl
      rw [carriesUnknown_iff, read]
      exact (and_iff_right rfl).symm

/-- Settles O17: the second stage leaves the frame alone, the third goes by its destination. -/
theorem pOtherFrameIsForwardedByItsDestination : Obligations.POtherFrameIsForwardedByItsDestination := by
  unfold Obligations.POtherFrameIsForwardedByItsDestination
  intro dst src kind tag payload s₀ s free length other f h
  obtain ⟨own, sup⟩ : h.ownAddress = s.ownAddress ∧ h.supAddress = s.supAddress := addresses_heard f .p s
  obtain ⟨notReply, -, notSample, notWarning⟩ : f.kind ≠ _ ∧ f.kind ≠ _ ∧ f.kind ≠ _ ∧ f.kind ≠ _ := kind_of_no_row other
  have notTaken : ¬f.takenByPart = true := by rw [takenByPart_iff]; tauto
  have does : exec (.pOtherFrame dst src kind tag payload) s₀ = .next (forwardP f h) := congrArg Host.Outcome.next <| by
    rw [pFrame_stages free (sizeOk_of_not_sample notSample length), handToBlocks_other other]
  rw [does, ← own, ← sup]
  refine ⟨fun supervisor => ?_, fun toPart notSup => ?_, fun _ notSup lo hi => ?_, fun notOwn notSup away notAll => ?_⟩
  · rw [(forwardP_supervisor (f := f) (supervisor.imp id toNat_eq_broadcast.mp)).1 notSample]
  · rw [forwardP_own (f := f) toPart notSup, if_neg notTaken]
  · rw [forwardP_node (f := f) notSup lo hi]
  · rw [forwardP_elsewhere (f := f) notSup notOwn (toNat_eq_broadcast.not.mp notAll) away]

end Sys2Proof.Machine
end

section
/-! SUPPORT. The two forwarding queues, the answers on a node's behalf, the interlock, and an S-port frame that is no request to
the part (R170 to R175). -/

namespace Sys2Proof.Machine

/-! ### The P→S queue (R175) -/

theorem pushPToS_room {f : Frame} {l : List Frame} (room : l.length < 16) : pushPToS f l = (l ++ [f], false) :=
  if_pos room

/-- The oldest SAMPLE of a full queue is the first that has none before it (R175). -/
theorem pushPToS_sheds {f g : Frame} {older newer : List Frame} (sample : g.isSample = true)
    (before : ∀ x ∈ older, x.isSample = false) (full : 16 ≤ (older ++ g :: newer).length) :
    pushPToS f (older ++ g :: newer) = (older ++ newer ++ [f], true) := by
  have holds : (older ++ g :: newer).any Frame.isSample = true := List.any_eq_true.mpr ⟨g, by simp, sample⟩
  unfold pushPToS
  rw [if_neg (show ¬_ < pToSPlaces from Nat.not_lt.mpr full), if_pos holds,
    List.eraseP_append_right _ fun x old => by simp [before x old], List.eraseP_cons_of_pos sample]

theorem pushPToS_full {f : Frame} {l : List Frame} (full : 16 ≤ l.length) (noSample : ∀ x ∈ l, x.isSample = false) :
    pushPToS f l = (l, true) := by
  have absent : ¬l.any Frame.isSample = true := by simpa using noSample
  unfold pushPToS
  rw [if_neg (show ¬_ < pToSPlaces from Nat.not_lt.mpr full), if_neg absent]

/-! ### The S→P queue and the answers on a node's behalf (R172 to R174) -/

section Queue
variable {f : Frame} {s : State}

theorem queueToP_room (room : s.router.sToP.length < 8) :
    queueToP f s = { s with router.sToP := s.router.sToP ++ [f] } := if_pos room

theorem queueToP_full (full : 8 ≤ s.router.sToP.length) : queueToP f s =
    if f.kind = kindCommand then
      answerFor f resultBusy { s with router.count.sToPDrops := bump s.router.count.sToPDrops }
    else { s with router.count.sToPDrops := bump s.router.count.sToPDrops } := if_neg (Nat.not_lt.mpr full)

/-- A node is answered for (R172, R174). -/
theorem answerFor_node (goes : nodeOrBroadcast f.dst = true) (single : f.dst.toNat ≠ 127) (result : Byte) :
    answerFor f result s = queueToS (s.replyFor f result) s := by
  have node : isNode f.dst = true := by simpa [nodeOrBroadcast, isNode, single] using goes
  exact if_pos node

/-- Nobody answers for a broadcast (R172, R174). -/
theorem answerFor_broadcast (all : f.dst.toNat = 127) (result : Byte) : answerFor f result s = s := by
  have noNode : ¬isNode f.dst = true := by simp [isNode, all]
  exact if_neg noNode

/-! ### The interlock (R171) -/

theorem interlock_of_refused (refused : s.refuses f = true) : interlock f s =
    answerFor f resultInterlocked { s with router.count.refusals := bump s.router.count.refusals } := if_pos refused

theorem interlock_of_passed (passed : s.refuses f = false) : interlock f s = queueToP f s := by
  unfold interlock; rw [passed, if_neg Bool.false_ne_true]

theorem refuses_gotFrame (port : Port) (g : Frame) : (s.gotFrame port g).refuses f = s.refuses f := by
  cases port <;> rfl

/-- In UNCONFIGURED nothing is refused (R171). -/
theorem refuses_unconfigured (site : s.site.state = .unconfigured) : s.refuses f = false := if_pos site

/-- A QUERY is never refused (R171). -/
theorem refuses_query (query : f.actionClass = classQuery) : s.refuses f = false := by
  unfold State.refuses
  rw [if_pos query]
  exact ite_self _

/-- A node of an isolated zone gets every command (R171). -/
theorem refuses_isolated (isolated : s.toIsolated f = true) : s.refuses f = false := by
  unfold State.refuses
  rw [if_pos isolated, ite_self, ite_self]

/-- Elsewhere the filter's column of the site state decides (R171). -/
theorem refuses_filtered (site : s.site.state ≠ .unconfigured) (query : f.actionClass ≠ classQuery)
    (isolated : s.toIsolated f = false) :
    s.refuses f = true ↔ s.tables.filter[f.actionClass].column s.site.state = some .refuse := by
  unfold State.refuses
  rw [if_neg site, if_neg query, isolated, if_neg Bool.false_ne_true, beq_iff_eq]

/-- A COMMAND of possible length whose first character is 7 is a QUERY (R160, R171). -/
theorem actionClass_query (lo : 1 ≤ f.payload.length) (hi : f.payload.length ≤ 9) (kind : f.kind = kindCommand)
    (action : f.payload.head? = some 7) : f.actionClass = classQuery := by
  obtain ⟨rest, payload⟩ : ∃ rest, f.payload = 7 :: rest := List.head?_eq_some_iff.mp action
  have fits : f.wellFormed = true := by simp [Frame.wellFormed, kind, lo, hi]
  unfold Frame.actionClass
  rw [if_pos fits, payload]
  rfl

/-- A present node of an isolated zone (R171). -/
theorem toIsolated_of_zone {z : Fin 8} (node : isNode f.dst = true) (present : (s.nodeCfg f.dst.toNat).present = true)
    (zone : (s.nodeCfg f.dst.toNat).zone = some z) (isolated : s.voter.zones[z].isolated = true) :
    s.toIsolated f = true := by
  have inside : s.nodeIsolated f.dst.toNat = true := by unfold State.nodeIsolated; rw [zone]; exact isolated
  unfold State.toIsolated
  rw [node, present, inside]
  rfl

end Queue

/-! ### S-port frames by their destination (R170) -/

section Route
variable {f : Frame} {s : State}

/-- A frame of a possible size on a free S-port that is no request to the part goes to the router (R170). -/
theorem sFrame_routed (free : s.portFree .s) (size : f.sizeOk = true)
    (noRequest : ¬(f.dst = s.ownAddress ∧ f.kind = kindRequest)) :
    frameArrives .s f s = routeThroughS f (s.gotFrame .s f) := by
  have own : (s.gotFrame .s f).ownAddress = s.ownAddress := rfl
  rw [frameArrives_of_free free size]
  refine if_neg fun request => noRequest ?_
  rw [State.isRequest, Bool.and_eq_true, beq_iff_eq, beq_iff_eq, own] at request
  exact request

theorem routeThroughS_elsewhere (away : nodeOrBroadcast f.dst = false) : routeThroughS f s = discardS s := by
  have away : (isNode f.dst || isBroadcast f.dst) = false := away
  unfold routeThroughS
  rw [away, if_neg Bool.false_ne_true, ite_self]

theorem routeThroughS_passes (goes : nodeOrBroadcast f.dst = true) :
    routeThroughS f s = if f.kind = kindCommand then interlock f s else queueToP f s := by
  have notOwn : f.dst ≠ s.ownAddress := fun own => by
    have inRange := s.mgmt.straps.addr.isLt
    rw [own, nodeOrBroadcast, ownAddress_toNat] at goes
    simp at goes
    omega
  have goes : (isNode f.dst || isBroadcast f.dst) = true := goes
  unfold routeThroughS
  rw [if_neg notOwn, if_pos goes]

/-- A command from the S-port is taken by the router, whichever of the two rows it comes in (R170). -/
theorem exec_command {s₀ : State} (free : s₀.caughtUp.portFree .s) {dst src tag : Byte} {payload : List Byte}
    (length : payload.length ≤ 48) :
    let f : Frame := ⟨dst, src, kindCommand, tag, payload⟩
    exec (.sCommandFrame dst src tag payload) s₀ = .next (routeThroughS f (s₀.caughtUp.gotFrame .s f)) ∧
      exec (.sOtherFrame dst src kindCommand tag payload) s₀ = .next (routeThroughS f (s₀.caughtUp.gotFrame .s f)) := by
  have notSample : kindCommand ≠ kindSample := by decide
  have notRequest : kindCommand ≠ kindRequest := by decide
  have routed := sFrame_routed (f := ⟨dst, src, kindCommand, tag, payload⟩) free (sizeOk_of_not_sample notSample length)
    fun request => notRequest request.2
  exact ⟨congrArg Host.Outcome.next routed, congrArg Host.Outcome.next routed⟩

theorem routeThroughS_command {dst src tag : Byte} {payload : List Byte} (goes : nodeOrBroadcast dst = true) :
    routeThroughS ⟨dst, src, kindCommand, tag, payload⟩ s = interlock ⟨dst, src, kindCommand, tag, payload⟩ s := by
  rw [routeThroughS_passes (f := ⟨dst, src, kindCommand, tag, payload⟩) goes, if_pos rfl]

end Route

end Sys2Proof.Machine
end

section
/-! PROOF. O18 to O21: commands and other frames from the S-port, the interlock, and a full P→S queue. -/

namespace Sys2Proof.Machine

/-- Settles O18: the interlock's decision, then the queue, then the answer. -/
theorem commandIsQueuedRefusedOrDropped : Obligations.CommandIsQueuedRefusedOrDropped := by
  unfold Obligations.CommandIsQueuedRefusedOrDropped
  intro dst src tag payload s₀ s free length goes f u state answer refused dropped
  have state_eq : state = (s.nodeRt dst.toNat).reported.onBehalf := by
    dsimp only [state]
    cases (s.nodeRt dst.toNat).reported <;> rfl
  have behalf (result : Byte) : answer result = s.replyFor f result := by
    dsimp only [answer]
    rw [state_eq]
    rfl
  have interlocked : exec (.sCommandFrame dst src tag payload) s₀ = .next (interlock f u) :=
    (exec_command free length).1.trans (congrArg Host.Outcome.next (routeThroughS_command goes))
  have decision : u.refuses f = s.refuses f := refuses_gotFrame ..
  have isCommand : f.kind = kindCommand := rfl
  rw [interlocked, behalf, behalf]
  clear_value s
  refine ⟨fun passed free => ?_, fun stopped single => ?_, fun stopped all => ?_, fun passed full single => ?_,
    fun passed full all => ?_⟩
  · rw [interlock_of_passed (decision.trans passed), queueToP_room (s := u) free]; rfl
  · rw [interlock_of_refused (decision.trans stopped), answerFor_node goes single]; rfl
  · rw [interlock_of_refused (decision.trans stopped), answerFor_broadcast all]
  · rw [interlock_of_passed (decision.trans passed), queueToP_full (s := u) full, if_pos isCommand,
      answerFor_node goes single]
    rfl
  · rw [interlock_of_passed (decision.trans passed), queueToP_full (s := u) full, if_pos isCommand, answerFor_broadcast all]

/-- Settles O19, case by case in the order of R171. -/
theorem interlockDecidesByTheFirstCaseThatApplies : Obligations.InterlockDecidesByTheFirstCaseThatApplies := by
  unfold Obligations.InterlockDecidesByTheFirstCaseThatApplies
  refine fun f s => ⟨refuses_unconfigured, fun lo hi kind action => refuses_query (actionClass_query lo hi kind action),
    fun z node present zone isolated => refuses_isolated (toIsolated_of_zone node present zone isolated),
    fun query isolated => ?_⟩
  have decided {st : SiteState} (site : s.site.state = st) (configured : st ≠ .unconfigured) :
      s.refuses f = true ↔ s.tables.filter[f.actionClass].column st = some .refuse :=
    site ▸ refuses_filtered (site ▸ configured) query isolated
  refine ⟨fun site => ?_, fun site => ?_, fun site => ?_, fun site => ?_⟩
  all_goals exact (decided site nofun).trans Option.some_inj

/-- Settles O20: any other frame, then a command that goes to no node, by the destination. -/
theorem sOtherFrameIsQueuedOrDiscarded : Obligations.SOtherFrameIsQueuedOrDiscarded := by
  unfold Obligations.SOtherFrameIsQueuedOrDiscarded
  refine ⟨?_, ?_⟩
  · intro dst src kind tag payload s₀ s f u free size notCommand noRequest
    have does : exec (.sOtherFrame dst src kind tag payload) s₀ = .next (routeThroughS f u) :=
      congrArg Host.Outcome.next (sFrame_routed free size noRequest)
    have isOther : f.kind ≠ kindCommand := notCommand
    rw [does]
    clear_value s
    refine ⟨fun away => ?_, fun goes room => ?_, fun goes full => ?_⟩
    · rw [routeThroughS_elsewhere away]
    · rw [routeThroughS_passes goes, if_neg isOther, queueToP_room (s := u) room]; rfl
    · rw [routeThroughS_passes goes, if_neg isOther, queueToP_full (s := u) full, if_neg isOther]
  · intro dst src tag payload s₀ s free length away u discarded
    obtain ⟨asCommand, asOther⟩ : exec (.sCommandFrame dst src tag payload) s₀ = .next (routeThroughS _ u) ∧
        exec (.sOtherFrame dst src kindCommand tag payload) s₀ = .next (routeThroughS _ u) := exec_command free length
    rw [asCommand, asOther, routeThroughS_elsewhere away]
    clear_value s
    exact ⟨rfl, rfl⟩

/-- Settles O21, by the room in the queue and the SAMPLEs in it. -/
theorem fullPToSQueueShedsItsOldestSample : Obligations.FullPToSQueueShedsItsOldestSample := by
  unfold Obligations.FullPToSQueueShedsItsOldestSample
  refine fun f s => ⟨fun room => ?_, fun older newer g queue sample before full => ?_, fun full noSample => ?_⟩
  · rw [queueToS, pushPToS_room room]; rfl
  · rw [queue] at full
    rw [queueToS, queue, pushPToS_sheds sample before full]; rfl
  · rw [queueToS, pushPToS_full full noSample]; rfl

end Sys2Proof.Machine
end

section
/-! PROOF. O22, O23 and O34: where a request is handled or discarded, BAD_REQUEST, and the requests for the unit's own time, counters and causes. -/

namespace Sys2Proof.Machine

/-! ### Handled or discarded (R183, R184, R189) -/

section Requests
variable {src tag : Byte} {payload : List Byte} {s s₀ : State}

theorem takesRequest_iff :
    s.takesRequest = true ↔ s.mgmt.cmdReset = .none ∧ s.mgmt.held = [] ∧ s.mgmt.responses.length < 4 := by
  change _ ↔ _ ∧ _ ∧ s.mgmt.responses.length < responsePlaces
  simp [State.takesRequest, State.placeFree]

/-- A payload that the management unit does not take is received and counted, and has no effect (R183). -/
theorem requestFrame_discarded (free : s.portFree .s) (refused : s.takesRequest = false) (size : payload.length ≤ 48) :
    frameArrives .s (s.requestFrame src tag payload) s = { s with
      link.sRx := {}, link.sCount := { s.link.sCount with received := bump s.link.sCount.received }
      mgmt.discarded := bump s.mgmt.discarded } := by
  rw [requestFrame_arrives free src tag size]
  exact if_neg (ne_true_of_eq_false refused)

/-- UNKNOWN_REQUEST is the arrival of its payload, which finds every follow-up taken. -/
theorem exec_unknownRequest : exec (.unknownRequest src tag payload) s₀ =
    .next (frameArrives .s (s₀.caughtUp.requestFrame src tag payload) s₀.caughtUp) := rfl

theorem exec_unknownRequest_performed (ready : s₀.caughtUp.OpenTo) (size : payload.length ≤ 48) :
    exec (.unknownRequest src tag payload) s₀ = .next (performPayload src tag payload s₀.caughtUp.asked) := by
  rw [exec_unknownRequest, requestFrame_performed ready src tag size]

/-- The row of one of R182's requests arrives as UNKNOWN_REQUEST with the same payload does. -/
theorem exec_eq_unknownRequest {c : Instr} {r : Req} (row : requestOf c = some (src, tag, r)) :
    exec c s₀ = exec (.unknownRequest src tag r.payload) s₀ :=
  exec_of_requestOf row s₀

end Requests

/-- Settles O22: a payload by whether the management unit takes it, and each request row as its payload. -/
theorem requestsAreDiscardedWithoutAPlace : Obligations.RequestsAreDiscardedWithoutAPlace := by
  unfold Obligations.RequestsAreDiscardedWithoutAPlace
  intro s₀ s free discarded
  have discards (src tag : Byte) (payload : List Byte) (size : payload.length ≤ 48) (refused : s.takesRequest = false) :
      exec (.unknownRequest src tag payload) s₀ = .next discarded := by
    rw [exec_unknownRequest, requestFrame_discarded free refused size]
  have performs (src tag : Byte) (payload : List Byte) (size : payload.length ≤ 48) (taken : s.takesRequest = true) :
      exec (.unknownRequest src tag payload) s₀ = .next (performPayload src tag payload s.asked) :=
    exec_unknownRequest_performed ⟨free, taken⟩ size
  refine ⟨takesRequest_iff, fun c src tag r row size => ?_, fun src tag payload size =>
    ⟨discards src tag payload size, performs src tag payload size⟩⟩
  have same : exec c s₀ = exec (.unknownRequest src tag r.payload) s₀ := exec_eq_unknownRequest row
  rw [same]
  exact ⟨rfl, discards src tag r.payload size, performs src tag r.payload size⟩

/-! ### BAD_REQUEST (R182, R183) -/

theorem performPayload_empty {src tag : Byte} {s : State} :
    performPayload src tag [] s = s.replied src tag 0 .badRequest [] := rfl

/-- Settles O23: the payload by whether it holds a code. -/
theorem badRequestsAreAnsweredBadRequest : Obligations.BadRequestsAreAnsweredBadRequest := by
  unfold Obligations.BadRequestsAreAnsweredBadRequest
  intro src tag s₀ s ready
  refine ⟨?_, fun code args size unparsed => ?_⟩
  · rw [exec_unknownRequest_performed ready (Nat.zero_le _), performPayload_empty]
  · rw [exec_unknownRequest_performed ready (List.length_cons ▸ Nat.succ_le_succ size), performPayload_unparsed unparsed]

/-! ### The unit's own time, counters and causes (R186 to R188) -/

section OwnRequests
variable {src tag : Byte} {s₀ : State}

theorem exec_setTime (seconds : Word32) (ready : s₀.caughtUp.OpenTo) : exec (.setTime src tag seconds) s₀ =
    .next (reqSetTime ⟨src, tag, 0x30⟩ seconds s₀.caughtUp.asked) :=
  exec_request (r := .setTime seconds) rfl ready rfl (by simp [Req.payload, word32Chars, u32])

theorem exec_clearCounters (ready : s₀.caughtUp.OpenTo) : exec (.clearCounters src tag) s₀ =
    .next (reqClearCounters ⟨src, tag, 0x31⟩ s₀.caughtUp.asked) :=
  exec_request (r := .clearCounters) rfl ready rfl (by simp [Req.payload])

theorem exec_clearCause (ready : s₀.caughtUp.OpenTo) : exec (.clearCause src tag) s₀ =
    .next (reqClearCause ⟨src, tag, 0x32⟩ s₀.caughtUp.asked) :=
  exec_request (r := .clearCause) rfl ready rfl (by simp [Req.payload])

end OwnRequests

/-- Settles O34: each request by its own definition, whose answer and effect touch different fields. -/
theorem timeCountersAndCausesAreSet : Obligations.TimeCountersAndCausesAreSet := by
  unfold Obligations.TimeCountersAndCausesAreSet
  intro src tag seconds s₀
  have time := exec_setTime (src := src) (tag := tag) (s₀ := s₀) seconds
  have causes := exec_clearCause (src := src) (tag := tag) (s₀ := s₀)
  have counters := exec_clearCounters (src := src) (tag := tag) (s₀ := s₀)
  generalize s₀.caughtUp = s at time causes counters
  dsimp only
  intro ready
  exact ⟨time ready, causes ready, counters ready⟩

end Sys2Proof.Machine
end

section
/-! SUPPORT. The cascade of a trigger, the detector, the zone voter and the warning table leave the queue of waiting commands. -/

namespace Sys2Proof.Machine

/-! ### What `fixed` and `fixedButVoter` keep -/

section Blanked
variable (s : State)

theorem pending_of_fixedButVoter {s t : State} (h : t.fixedButVoter = s.fixedButVoter) : t.pending = s.pending :=
  (congrArg State.pending h : t.fixedButVoter.pending = s.fixedButVoter.pending)

theorem pending_latch (i : Fin 24) : (latch i s).pending = s.pending := pending_of_fixed (fixed_latch i s)

theorem pending_clearFlags (which : Fin 24 → Bool) : (clearFlags which s).pending = s.pending :=
  pending_of_fixed (fixed_clearFlags which s)

theorem pending_takeCompletion (r : Report) : (takeCompletion r s).pending = s.pending :=
  pending_of_fixed (fixed_takeCompletion r s)

theorem pending_runEvent {f : State → State × HandOver} {s : State} (h : (f s).1.noRunner = s.noRunner) :
    (runEvent f s).pending = s.pending := pending_of_fixed (fixed_runEvent f s h)

theorem pending_feedRises : (feedRises s).pending = s.pending := by
  unfold feedRises
  rw [pending_runEvent (noRunner_takeFeedRise _)]

theorem pending_formRemote : (formRemote s).pending = s.pending := (congrArg State.pending (fixed_formRemote s) :)

theorem pending_evaluateZone (z : Fin 8) : (evaluateZone z s).pending = s.pending :=
  pending_of_fixedButVoter (fixedButVoter_evaluateZone z s)

theorem pending_handChange (c : Change) : (handChange c s).pending = s.pending :=
  pending_of_fixedButVoter (fixedButVoter_handChange c s)

end Blanked

/-- A condition on which of two operations is taken does not matter where both leave the queue. -/
theorem pending_ite {p : Prop} [Decidable p] {s t u : State} (ht : t.pending = s.pending) (hu : u.pending = s.pending) :
    (if p then t else u).pending = s.pending := by
  split
  · exact ht
  · exact hu

/-! ### Warnings (R57 to R60) -/

section Warnings
variable (s : State)

theorem pending_takeWarning (w : Warning) : (takeWarning w s).pending = s.pending := by
  have placed (p : Prop) [Decidable p] (i : Fin 4) {u : State} (h : u.pending = s.pending) :
      (formRemote (if p then reloadQuiet (putWarning i (some w) u) else putWarning i (some w) u)).pending = s.pending :=
    (pending_formRemote _).trans (pending_ite h h)
  unfold takeWarning
  split
  · exact placed _ _ rfl
  · split
    · exact placed _ _ rfl
    · split
      · exact pending_ite (placed _ _ rfl) rfl
      · rfl

theorem pending_warningFrame (src : Byte) (payload : List Byte) : (warningFrame src payload s).pending = s.pending := by
  unfold warningFrame
  refine pending_ite ?_ rfl
  split
  · exact pending_takeWarning s _
  · rfl

theorem pending_warningExpired (i : Fin 4) : (warningExpired i s).pending = s.pending := pending_formRemote (putWarning i none s)

end Warnings

/-! ### Channels and zones (R4 to R12, R32 to R34, R41, R42) -/

section Zones
variable (s : State)

theorem pending_sampleFrame (src : Byte) (payload : List Byte) : (sampleFrame src payload s).pending = s.pending := by
  match payload with
  | [] => rfl
  | [_] => rfl
  | seq :: count :: rest =>
    cases present : (s.nodeCfg src.toNat).present with
    | false => rw [sampleFrame_absent present]
    | true =>
      rw [sampleFrame_present present, pending_of_fixedButVoter (fixedButVoter_handAll _ _)]

theorem pending_staleExpired (i : Fin 32) : (staleExpired i s).pending = s.pending := pending_handChange _ _

theorem pending_onsetStampExpired (c : Fin 32) : (onsetStampExpired c s).pending = s.pending := by
  unfold onsetStampExpired
  dsimp only
  split
  · exact pending_evaluateZone _ _
  · rfl

theorem pending_strongStampExpired (c : Fin 32) : (strongStampExpired c s).pending = s.pending := by
  unfold strongStampExpired
  dsimp only
  split
  · exact pending_evaluateZone _ _
  · rfl

theorem pending_cycled (z : Fin 8) (b : Bool) : (s.cycled z b).pending = s.pending :=
  (pending_of_fixedButVoter (fixedButVoter_cycled z s b) :)

theorem pending_isolate (z : Fin 8) : (isolate z s).pending = s.pending :=
  (pending_clearFlags _ _).trans (pending_ite rfl (pending_cycled s z true))

theorem pending_restore (z : Fin 8) : (restore z s).pending = s.pending := pending_ite (pending_cycled s z false) rfl

end Zones

/-! ### Inputs (R53 to R56) -/

section Inputs
variable (s : State)

theorem pending_contactChanges (i : Fin 4) : (contactChanges i s).pending = s.pending := pending_ite (pending_latch _ _) rfl

theorem pending_utilityChanged : (utilityChanged s).pending = s.pending :=
  pending_ite (pending_ite (pending_feedRises _) rfl) rfl

end Inputs

end Sys2Proof.Machine
end

section
/-! SUPPORT. Requests and frames leave the queue of waiting commands. -/

namespace Sys2Proof.Machine

/-! ### Requests (R182) -/

section Requests
variable (q : Asker) (s : State)

variable {s} in
/-- The answer to a request is no part of the queue of commands. -/
theorem pending_answered {t : State} (h : t.pending = s.pending) (st : Status) (data : List Byte) :
    (answer q st data t).pending = s.pending := h

/-- A read answers, or refuses an argument outside its set. -/
theorem pending_reads : (∀ x, (reqReadChannel q x s).pending = s.pending) ∧ (∀ x, (reqReadZone q x s).pending = s.pending) ∧
    (∀ x, (reqReadNode q x s).pending = s.pending) ∧ (∀ x, (reqReadStep q x s).pending = s.pending) ∧
    (∀ x, (reqReadTripRecord q x s).pending = s.pending) ∧ (∀ x, (reqReadCounters q x s).pending = s.pending) ∧
    ∀ b k f c, (reqReadShadow q b k f c s).pending = s.pending := by
  refine ⟨fun x => ?_, fun x => ?_, fun x => pending_ite rfl rfl, fun x => ?_, fun x => ?_, fun x => ?_, fun b k f c => ?_⟩
  · unfold reqReadChannel; split <;> rfl
  · unfold reqReadZone; split <;> rfl
  · unfold reqReadStep; split <;> rfl
  · unfold reqReadTripRecord; split <;> rfl
  · unfold reqReadCounters; split <;> rfl
  · unfold reqReadShadow
    split
    · exact pending_ite rfl rfl
    · rfl

/-- Shadows, commits and protection (R137, R140, R143). -/
theorem pending_storeRequests : (∀ b k f c r, (reqWriteShadow q b k f c r s).pending = s.pending) ∧
    (∀ m, (reqCommit q m s).pending = s.pending) ∧ (∀ m, (reqSetProtection q m s).pending = s.pending) ∧
    (reqReloadProtection q s).pending = s.pending := by
  have checked (named : Vector Bool 4) : (commitNamed q named s).pending = s.pending := by
    refine pending_ite rfl (pending_ite rfl (pending_ite rfl ?_))
    split
    · rfl
    · split <;> rfl
  refine ⟨fun b k f c r => ?_, fun m => ?_, fun m => ?_, pending_ite rfl rfl⟩
  · unfold reqWriteShadow
    split
    · split
      · exact pending_ite rfl rfl
      · rfl
    · rfl
  · unfold reqCommit
    split
    · exact pending_ite (checked _) rfl
    · rfl
  · unfold reqSetProtection; split <;> rfl

theorem pending_startRestart : (startRestart s).pending = s.pending := by
  have cleared : s.clearedForRestart.pending = s.pending := by
    unfold State.clearedForRestart
    rw [clearPeaks_pending, pending_clearFlags]
  have begun : s.clearedForRestart.restarting.pending = s.pending := (pending_of_fixed (restarting_effect _).1).trans cleared
  rcases startRestart_cases s with ⟨-, e⟩ | ⟨r, -, e⟩
  · rw [e]
    exact begun
  · rw [e]
    exact (pending_takeCompletion _ r).trans begun

theorem pending_holdAborted : (holdAborted s).pending = s.pending := pending_of_fixed (holdAborted_effect s).1

theorem pending_forceAt (level : Nat) : (forceAt level s).pending = s.pending := by
  unfold forceAt
  rw [pending_of_fixed (fixed_formRequest _), pending_of_fixed (fixed_setFlag _ _)]

/-- Restarts, triggers and zones (R41, R42, R48, R49, R76 to R82). -/
theorem pending_siteRequests : (reqAuthorizeRestart q s).pending = s.pending ∧ (reqAbortRestart q s).pending = s.pending ∧
    (∀ l, (reqForceTrip q l s).pending = s.pending) ∧ (reqClearTriggers q s).pending = s.pending ∧
    (∀ z, (reqIsolateZone q z s).pending = s.pending) ∧ ∀ z, (reqRestoreZone q z s).pending = s.pending := by
  refine ⟨?_, ?_, fun l => ?_, ?_, fun z => ?_, fun z => ?_⟩
  · exact pending_ite rfl (pending_ite rfl (pending_ite rfl (pending_answered q (pending_startRestart s) ..)))
  · exact pending_ite (pending_answered q (pending_holdAborted s) ..) rfl
  · exact pending_ite (pending_answered q (pending_forceAt s _) ..) rfl
  · exact pending_answered q ((pending_of_fixed (fixed_releaseTripOut _)).trans (pending_clearFlags s _)) ..
  · unfold reqIsolateZone
    split
    · exact pending_ite (pending_answered q (pending_isolate s _) ..) rfl
    · rfl
  · unfold reqRestoreZone
    split
    · exact pending_ite (pending_answered q (pending_restore s _) ..) rfl
    · rfl

theorem pending_perform (r : Req) : (perform q r s).pending = s.pending := by
  obtain ⟨channel, zone, node, step, record, counters, shadow⟩ := pending_reads q s
  obtain ⟨writes, commit, protection, reload⟩ := pending_storeRequests q s
  obtain ⟨authorize, abort, force, clear, isolate, restore⟩ := pending_siteRequests q s
  cases r with
  | readStatus | readOutstanding | readWarnings | setTime | clearCounters | clearCause | resetPart => rfl
  | readChannel => exact channel _
  | readZone => exact zone _
  | readNode => exact node _
  | readStep => exact step _
  | readTripRecord => exact record _
  | readCounters => exact counters _
  | readShadow => exact shadow ..
  | writeShadow => exact writes ..
  | commit => exact commit _
  | setProtection => exact protection _
  | reloadProtection => exact reload
  | authorizeRestart => exact authorize
  | abortRestart => exact abort
  | forceTrip => exact force _
  | clearTriggers => exact clear
  | isolateZone => exact isolate _
  | restoreZone => exact restore _
  | resetPort => exact pending_ite rfl (pending_ite (pending_ite rfl rfl) rfl)

theorem pending_handleRequest (src tag : Byte) (payload : List Byte) : (handleRequest src tag payload s).pending = s.pending := by
  refine pending_ite ?_ rfl
  unfold performPayload
  split
  · rfl
  · split
    · exact pending_perform _ (countHandled s) _
    · rfl

end Requests

/-! ### Frames and characters (R155, R168 to R174) -/

section Frames
variable (f : Frame) (s : State)

theorem pending_handToBlocks : (handToBlocks f s).pending = s.pending := by
  refine pending_ite (pending_sampleFrame ..) (pending_ite (pending_warningFrame ..) ?_)
  split
  · exact pending_ite (pending_runEvent (noRunner_takeReply ..)) (pending_ite (pending_runEvent (noRunner_takeReport ..)) rfl)
  · rfl

theorem pending_routeP : (routeP f s).pending = s.pending := by
  obtain ⟨r, heard⟩ := hearSource_router f s
  obtain ⟨r', forwarded⟩ := forwardP_router f (handToBlocks f (hearSource f s))
  unfold routeP
  rw [forwarded, heard]
  exact pending_handToBlocks f { s with router := r }

theorem pending_answerFor (result : Byte) : (answerFor f result s).pending = s.pending := pending_ite rfl rfl

theorem pending_queueToP : (queueToP f s).pending = s.pending :=
  pending_ite rfl (pending_ite (pending_answerFor ..) rfl)

theorem pending_routeThroughS : (routeThroughS f s).pending = s.pending := by
  have interlocked : (interlock f s).pending = s.pending := pending_ite (pending_answerFor ..) (pending_queueToP f s)
  exact pending_ite rfl (pending_ite (pending_ite interlocked (pending_queueToP f s)) rfl)

theorem pending_route (port : Port) : (route port f s).pending = s.pending := by
  cases port with
  | p => exact pending_routeP f s
  | s => exact pending_ite (pending_handleRequest ..) (pending_routeThroughS f s)

theorem pending_frameArrives (port : Port) : (frameArrives port f s).pending = s.pending :=
  pending_ite (pending_ite ((pending_route ..).trans (setPort_pending ..)) (setPort_pending ..)) rfl

theorem pending_characterArrives (port : Port) (v : Byte) (marker framing : Bool) :
    (characterArrives port v marker framing s).pending = s.pending := by
  refine pending_ite ?_ rfl
  dsimp only
  split
  · exact (pending_route ..).trans (setPort_pending ..)
  · exact setPort_pending ..

theorem pending_gapExpires (port : Port) : (gapExpires port s).pending = s.pending := by
  refine pending_ite ?_ rfl
  dsimp only
  split
  · rfl
  · exact setPort_pending ..
  · exact setPort_pending ..

end Frames

end Sys2Proof.Machine
end

section
/-! SUPPORT. The start-up load, resets, transmissions and writes leave the queue of waiting commands. -/

namespace Sys2Proof.Machine

section Store
variable (s : State)

theorem pending_enterService : (enterService s).pending = s.pending :=
  pending_ite (pending_of_fixed (fixed_enterByRing _)) rfl

theorem pending_completeLoad : (completeLoad s).pending = s.pending := by
  obtain ⟨zones, alert, loaded⟩ := completeLoad_eq s
  rw [loaded]
  exact pending_enterService _

/-- A part reset keeps the queue, which is the model's own. -/
theorem pending_partReset (phase : Phase) : (partReset phase s).pending = s.pending := rfl

theorem pending_commandedReset (addr rate : Fin 4) : (commandedReset addr rate s).pending = s.pending :=
  pending_ite (pending_partReset s .loading) rfl

theorem pending_pEnds : (pEnds s).pending = s.pending := by
  unfold pEnds
  split
  · rfl
  · dsimp only
    split <;> rfl

theorem pending_sEnds : (sEnds s).pending = s.pending := by
  unfold sEnds
  split
  · rfl
  · unfold resetAfter
    split
    · rfl
    · exact pending_ite rfl rfl
    · exact pending_ite rfl rfl

theorem pending_heldJoin : (heldJoin s).pending = s.pending := by
  refine pending_ite ?_ rfl
  unfold heldResponseJoins
  split
  · exact pending_ite rfl rfl
  · rfl

theorem pending_activate : (activate s).pending = s.pending := by
  obtain ⟨-, -, -, -, -, pending⟩ := link_of_activate s
  exact pending

theorem pending_endCommit (c : CommitRun) (st : Status) (data : List Byte) : (endCommit c st data s).pending = s.pending :=
  pending_ite rfl rfl

theorem pending_committed (c : CommitRun) : (committed c s).pending = s.pending := by
  have ended := pending_endCommit s c .committed []
  exact pending_ite ((pending_activate _).trans ended) ended

theorem pending_blockWritten (b : Fin 4) (passes : Bool) : (blockWritten b passes s).pending = s.pending := by
  unfold blockWritten
  dsimp only
  split
  · rfl
  · exact pending_ite (pending_ite rfl (pending_committed ..)) (pending_endCommit ..)

end Store

end Sys2Proof.Machine
end

section
/-! PROOF. O1 and O3: a step runs the front command, and every command completes and leaves the queue. -/

namespace Sys2Proof.Machine

/-- Settles O1, by the step's own case of a queue with a front. -/
theorem stepRunsTheFrontCommand : Obligations.StepRunsTheFrontCommand := by
  unfold Obligations.StepRunsTheFrontCommand
  intro c rest s front
  unfold step
  rw [front]

/-! ### The rows of the table in their groups -/

/-- A command answers a next state with the same queue. -/
def CompletesFrom (s : State) (o : Host.Outcome State Fault Refusal) : Prop := ∃ t, o = .next t ∧ t.pending = s.pending

section Rows
variable {s : State}

/-- A command that takes an operation after the first `k` follow-ups. -/
theorem completes_after (k : Nat) {f : State → State} (hf : ∀ t, (f t).pending = t.pending) :
    CompletesFrom s (.next (f (s.caughtUpTo k))) :=
  ⟨_, rfl, (hf _).trans (pending_caughtUpTo s k)⟩

/-- A command that is an event of its own finds every follow-up taken. -/
theorem completes_event {f : State → State} (hf : ∀ t, (f t).pending = t.pending) : CompletesFrom s (event f s) :=
  completes_after 9 hf

/-- An event of the part's own, in service. -/
theorem completes_running {f : State → State} (hf : ∀ t, (f t).pending = t.pending) :
    CompletesFrom s (event (fun t => if t.isRunning then f t else t) s) :=
  completes_event fun t => pending_ite (hf t) rfl

/-- A timer or input row. -/
theorem completes_whenDue (due : State → Bool) {f : State → State} (hf : ∀ t, (f t).pending = t.pending) :
    CompletesFrom s (whenDue due f s) :=
  completes_event fun t => pending_ite (hf t) rfl

/-- A follow-up's own row. -/
theorem completes_followUp (k : Nat) {f : State → State} (hf : f ∈ followUpSteps) :
    CompletesFrom s (.next (f (s.caughtUpTo k))) :=
  completes_after k fun t => pending_followUp t hf

theorem completes_pFrame {c : Instr} {f : Frame} (hc : pFrameOf c = some f) : CompletesFrom s (exec c s) := by
  rw [exec_of_pFrameOf hc]
  exact completes_after 9 fun t => pending_frameArrives f t .p

theorem completes_sFrame {c : Instr} {f : Frame} (hc : sFrameOf c = some f) : CompletesFrom s (exec c s) := by
  rw [exec_of_sFrameOf hc]
  exact completes_after 9 fun t => pending_frameArrives f t .s

theorem completes_request {c : Instr} {src tag : Byte} {r : Req} (hc : requestOf c = some (src, tag, r)) :
    CompletesFrom s (exec c s) := by
  rw [exec_of_requestOf hc]
  exact completes_after 9 fun t => pending_frameArrives (t.requestFrame src tag r.payload) t .s

end Rows

/-- Every command completes and leaves the queue: by the rows of the table in their groups. -/
theorem completes_exec (c : Instr) (s : State) : CompletesFrom s (exec c s) := by
  cases c with
  -- resets and power
  | powerOnReset =>
    unfold exec execPowerOnReset
    exact completes_event fun t => pending_partReset t .loading
  | resetPinAssert =>
    unfold exec execResetPinAssert
    exact completes_event fun t => by split <;> rfl
  | resetPinRelease =>
    unfold exec execResetPinRelease
    exact completes_event fun t => by split <;> rfl
  | startUpLoadComplete =>
    unfold exec execStartUpLoadComplete
    refine completes_event fun t => ?_
    split
    · exact pending_completeLoad t
    all_goals rfl
  | commandedReset addr rate => exact ⟨_, rfl, pending_commandedReset s addr rate⟩
  | lossOfPower =>
    unfold exec execLossOfPower
    exact completes_event fun t => pending_partReset t .unpowered
  -- frames and characters
  | receiveCharacter port v marker framing =>
    unfold exec execReceiveCharacter
    refine completes_event fun t => ?_
    rw [bitsArrive_charBits]
    exact pending_characterArrives t port v marker _
  | receiveGapExpiry port =>
    unfold exec execReceiveGapExpiry
    exact completes_event fun t => pending_gapExpires t port
  | pSampleFrame | pWarningFrame | pReplyFrame | pStatusFrame | pOtherFrame => exact completes_pFrame rfl
  | sCommandFrame | sOtherFrame => exact completes_sFrame rfl
  | unknownRequest =>
    unfold exec execUnknownRequest
    exact completes_event fun t => pending_frameArrives _ t .s
  | readStatus | readChannel | readZone | readNode | readStep | readOutstanding | readWarnings | readTripRecord
  | readCounters | readShadow | writeShadow | commit | setProtection | reloadProtection | authorizeRestart
  | abortRestart | forceTrip | clearTriggers | isolateZone | restoreZone | setTime | clearCounters | clearCause
  | resetPortS | resetPortP | resetPart => exact completes_request rfl
  -- transmission and what follows an event
  | pTransmissionEnd =>
    unfold exec execPTransmissionEnd
    exact completes_running pending_pEnds
  | sTransmissionEnd =>
    unfold exec execSTransmissionEnd
    exact completes_running pending_sEnds
  | sPortResetEffect => exact completes_followUp 2 (by simp [followUpSteps])
  | pPortResetEffect => exact completes_followUp 3 (by simp [followUpSteps])
  | heldResponseJoin =>
    unfold exec execHeldResponseJoin
    exact completes_after 4 pending_heldJoin
  | pArbiterChoice => exact completes_followUp 5 (by simp [followUpSteps])
  | sArbiterChoice => exact completes_followUp 6 (by simp [followUpSteps])
  | nvWriteTakeUp => exact completes_followUp 8 (by simp [followUpSteps])
  | deferredActivation => exact completes_followUp 1 (by simp [followUpSteps])
  -- timers and inputs
  | staleTimerExpiry i =>
    unfold exec execStaleTimerExpiry
    exact completes_whenDue _ fun t => pending_staleExpired t i
  | onsetUntilExpiry i =>
    unfold exec execOnsetUntilExpiry
    exact completes_whenDue _ fun t => pending_onsetStampExpired t i
  | strongUntilExpiry i =>
    unfold exec execStrongUntilExpiry
    exact completes_whenDue _ fun t => pending_strongStampExpired t i
  | tripInDebouncedChange i =>
    unfold exec execTripInDebouncedChange
    exact completes_whenDue _ fun t => pending_contactChanges t i
  | utilityOkDebouncedChange =>
    unfold exec execUtilityOkDebouncedChange
    exact completes_whenDue _ pending_utilityChanged
  | feedDwellExpiry =>
    unfold exec execFeedDwellExpiry
    exact completes_whenDue _ pending_feedRises
  | warningExpiry i =>
    unfold exec execWarningExpiry
    exact completes_whenDue _ fun t => pending_warningExpired t i
  | quietTimerExpiry =>
    unfold exec execQuietTimerExpiry
    exact completes_whenDue _ fun _ => rfl
  | dwellExpiry i =>
    unfold exec execDwellExpiry
    exact completes_whenDue _ fun t => pending_runEvent (noRunner_dwellExpired i t)
  | replyDeadlineExpiry i =>
    unfold exec execReplyDeadlineExpiry
    exact completes_whenDue _ fun t => pending_runEvent (noRunner_deadlineExpired i t)
  | readyTimeoutExpiry i =>
    unfold exec execReadyTimeoutExpiry
    exact completes_whenDue _ fun t => pending_runEvent (noRunner_readyExpired i t)
  | settleExpiry i =>
    unfold exec execSettleExpiry
    exact completes_whenDue _ fun t => pending_runEvent (noRunner_settleExpired i t)
  | siteTimeSecond =>
    unfold exec execSiteTimeSecond
    exact completes_event fun _ => pending_ite rfl rfl
  | rawInputLevelChange =>
    unfold exec execRawInputLevelChange
    exact completes_event fun _ => rfl
  -- non-volatile writes
  | recordWriteEnd =>
    unfold exec execRecordWriteEnd
    exact completes_event fun t => by split <;> rfl
  | blockProgramEnd passes =>
    unfold exec execBlockProgramEnd
    refine completes_event fun t => ?_
    split
    · exact pending_blockWritten t _ passes
    · rfl
  | protectionWriteEnd =>
    unfold exec execProtectionWriteEnd
    exact completes_event fun t => by split <;> rfl

/-- Settles O3: no row of the table stops, and none reaches the queue. -/
theorem everyCommandCompletesAndKeepsTheQueue : Obligations.EveryCommandCompletesAndKeepsTheQueue := by
  unfold Obligations.EveryCommandCompletesAndKeepsTheQueue
  exact completes_exec

end Sys2Proof.Machine
end
